-- ==== Sys2Proof/Word.lean ====
section
/-! DEFINITION. The word types of the model and their plainest arithmetic: bytes, lines, sparse tables, saturating and
wrapping counters, bit fields of a natural number. Cites R4 (counts), R493 (counter ends). -/

namespace Sys2Proof

/-- One byte. -/
abbrev Byte := BitVec 8

/-- A 64-byte NoC line (byte 0 in the low bits). -/
abbrev Line := BitVec 512

/-- A sparse table: entries in strictly rising order of key, none equal to the default of its key. -/
abbrev Tbl (α : Type) := List (Nat × α)

/-- Bits [lo + w − 1 : lo] of `x`. -/
def bitsAt (x lo w : Nat) : Nat := x / 2 ^ lo % 2 ^ w

/-- `x` with bits [lo + w − 1 : lo] replaced by `v`. -/
def withBits (x lo w v : Nat) : Nat := x - bitsAt x lo w * 2 ^ lo + v % 2 ^ w * 2 ^ lo

/-- Increment of a `w`-bit saturating counter (R493). -/
def satInc (w x : Nat) : Nat := min (x + 1) (2 ^ w - 1)

/-- Addition on a `w`-bit saturating counter (R493). -/
def satAdd (w x y : Nat) : Nat := min (x + y) (2 ^ w - 1)

/-- Increment of a `w`-bit wrapping counter. -/
def wrapInc (w x : Nat) : Nat := (x + 1) % 2 ^ w

/-- The `n` low bytes of `x`, first byte lowest (little-endian). -/
def toBytes : Nat → Nat → List Byte
  | 0, _ => []
  | n + 1, x => BitVec.ofNat 8 x :: toBytes n (x / 256)

/-- The number a little-endian list of bytes spells. -/
def ofBytes : List Byte → Nat
  | [] => 0
  | b :: bs => b.toNat + 256 * ofBytes bs

/-- The mask of the `n` low bits. -/
def lowMask (n : Nat) : Nat := 2 ^ n - 1

/-- Bits of `old` replaced by those of `new` where `mask` is 1. -/
def mergeBits (old new mask : Nat) : Nat := (old ^^^ (old &&& mask)) ||| (new &&& mask)

end Sys2Proof
end

