-- ==== Sys2Proof/Syntax.lean ====
section
/-! DEFINITION. The commands of the block: one constructor of `Instr` per row of the table of operations and events
(opcode_table.json), in the table's order, with the operand types they use. What the environment decides in a step (a frame
on a lane, a measured figure, an error in a memory word, a signature's bytes) is an operand of the command: `role` is the level of
the ROLE ball at a cold reset (R29), `multi` that another source arose in the same AON cycle (R428),
`newMs` that a period of 1 ms has ended since the last frame on CAN (R342). -/

namespace Sys2Proof

/-- Access paths to the object dictionary (R333, Table 13-1). -/
inductive Path where
  | survey | can | relay | keeper
  deriving DecidableEq, Repr

/-- PATH code of Table 13-1. -/
def Path.code : Path → Nat
  | .survey => 0
  | .can => 1
  | .relay => 2
  | .keeper => 3

/-- NoC response status (R255, Table 10-4). -/
inductive Status where
  | ok | okCorrected | buserr | dataerr | abortReset | fenced | partialMove | collided
  deriving DecidableEq, Repr

/-- Requesters of best-effort transactions (R259, Table 10-5). -/
inductive Requester where
  | keeper (k : Fin 4)
  | dict
  | config
  | move (e : Fin 4)
  | carriage (g : Fin 32)
  | eyeScan (g : Fin 32)
  | security
  deriving DecidableEq, Repr

/-- One best-effort transaction: its requester and the tag within the requester's pool (R252, R259). -/
structure ReqId where
  src : Requester
  tag : Nat
  deriving DecidableEq, Repr

/-- What a SECDED check finds in one 32- or 64-bit word (R140, R313): nothing, one flipped bit, or a double-bit error
whose flipped bits `mask` names. -/
inductive EccClass where
  | clean
  | single
  | double (mask : Nat)
  deriving DecidableEq, Repr

/-- What a router's check finds in a flit on input (R253). -/
inductive FlitErr where
  | clean
  | single
  | header
  | payload
  deriving DecidableEq, Repr

/-- What the check of a 32-byte sub-burst finds (R278, R280): clean, one nibble corrected, or errors in two or more
nibbles whose flipped stored bits `mask` names. -/
inductive NibbleErr where
  | clean
  | one
  | many (mask : BitVec 256)
  deriving DecidableEq, Repr

/-- What the SECDED and CRC checks of a configuration frame find (R379, R515): nothing, single-bit errors only, a double-bit
error, or a CRC mismatch after correction. -/
inductive FrameCheck where
  | clean
  | corrected
  | uncorrectable
  | crc
  deriving DecidableEq, Repr

/-- A flit: 128 header bits (Table 10-3) and 64 payload bytes (R252). -/
structure Flit where
  header : BitVec 128
  payload : Line
  deriving DecidableEq, Repr

/-- A Keeper instruction issue: the core, and whether the parity check at fetch fails (R307, R312). -/
structure Issue where
  core : Fin 4
  parityError : Bool
  deriving DecidableEq, Repr

/-- A register field of a Keeper instruction (R308). -/
abbrev KReg := Fin 32

/-- What a receiver measures in DESKEW (R211, R212, R233): each lane's arrival in UI, the group's margin in FAB cycles,
the latencies N_P and N_F0 under each numbering the beat grid allows, and the far end's training words. -/
structure Deskew where
  arrival : List Int
  margin : Nat
  /-- N_P for the smallest numbering; the others differ by whole beats. -/
  np : Nat
  /-- N_F0 − N_P. -/
  flashExtra : Nat
  farManager : Bool
  farWnum : Nat
  farSerial : Nat
  /-- BEAT and ROT_LO stamps of the frame that completes in the beat in progress. -/
  stampBeat : Nat
  stampRot : Nat
  /-- Beats from that frame's beat to the local beat in which it completes, under the smallest numbering. -/
  lag : Nat
  farAligned : Bool
  /-- SEQ of the frame that completes in the beat in progress under the alignment chosen, the same on every enabled lane (R211). -/
  seq : Nat := 0
  deriving DecidableEq, Repr

/-- Where a move descriptor comes from: a path of the dictionary, or a request on the NoC (R268). -/
inductive Origin where
  | path (p : Path)
  | noc (r : ReqId)
  deriving DecidableEq, Repr

/-- What an access of a bulk move meets on its way (R253, R258): what the routers named find in its request and in its response,
and that no response comes within the timeout. -/
structure MovePath where
  request : List (Fin 64 × FlitErr) := []
  response : List (Fin 64 × FlitErr) := []
  late : Bool := false
  deriving DecidableEq, Repr

/-- What one flit of a bulk move meets (R269): the errors of its read, a collision of its write with a station-port write, a read
or write that the network ends with a status, the data of a read from another device, what its read and its write meet on their ways,
and payload bits of its write that change on the way unseen by the routers (R254). A flit without an entry meets none. -/
structure MoveFlit where
  index : Nat
  ecc : List EccClass
  errA : NibbleErr
  errB : NibbleErr
  collided : Bool
  readEnds : Option Status
  writeEnds : Option Status
  outside : Line
  read : MovePath := {}
  write : MovePath := {}
  flips : Line := 0
  deriving DecidableEq, Repr

/-- A pin input or level operand of the datum-marker sample and the like is a `Bool`; a read-error class of a hold port is
a station, port and class (R140). -/
structure PortEcc where
  station : Nat
  port : Nat
  err : EccClass
  deriving DecidableEq, Repr

/-- Head (SYNC and control) and a word pair of a Merig lane's frame that is due at its port before the frame completes, with line code
and keyed mix undone (R230, R232). -/
structure EarlyPair where
  lane : Fin 256
  head : BitVec 16
  pair : BitVec 32
  deriving DecidableEq, Repr

/-- What a checked read of a word of a readout record finds, at the start of a beat: the lane group, and the word's place in the
record (R140, R221). -/
structure RingEcc where
  group : Fin 32
  word : Nat
  err : EccClass
  deriving DecidableEq, Repr

/-- The block's commands (opcode_table.json, 247 rows, in its order). -/
inductive Instr where
  -- beats, rotations, staging, fabric (R36 to R93)
  | datumBeat (ecc : List RingEcc)
  | releaseWriteEnables
  | releaseStationReset
  | datumMarker
  | stagedWrite (path : Path) (index : BitVec 16) (sub : BitVec 8) (data : List Byte)
  | objectWrite (path : Path) (index : BitVec 16) (sub : BitVec 8) (data : List Byte)
  | keeperMailboxWrite (path : Path) (s : Fin 256) (value : BitVec 16)
  | probeSel (word : BitVec 40)
  | probeLogDrop
  -- pattern layer (R126 to R134)
  | patternLineRead (req : ReqId) (addr : BitVec 48) (size : Nat)
  | patternLineWrite (req : ReqId) (addr : BitVec 48) (data : List Byte)
  | patternParityCheck (s : Fin 256) (flips : BitVec 301)
  | patternBankClearDone (s : Fin 256)
  | patternLayerOn
  -- hold memory (R138 to R163)
  | holdNocReadRow (req : ReqId) (addr : BitVec 48) (size : Nat) (ecc : List EccClass)
  | holdNocWriteRow (req : ReqId) (addr : BitVec 48) (data : List Byte) (sched : Bool)
  | holdNocWriteWord (req : ReqId) (addr : BitVec 48) (data : BitVec 32) (be : BitVec 4)
  | holdStarved (u : Fin 4160)
  | holdPushWaitExpired (u : Fin 4160)
  | fillRequest (path : Path) (word : BitVec 64)
  | fillDone (u : Fin 4160)
  | queueResetRequest (path : Path) (unit : BitVec 16)
  | marchRequest (path : Path) (word : BitVec 32)
  | marchDone (group : Fin 260) (fails : List (Fin 16 × Nat))
  | queueGroupResetDone (group : Fin 260)
  | ringOwnerWrite (path : Path) (data : List Byte)
  -- network on chip (R186 to R269)
  | routerFlitIn (router : Fin 64) (port : Fin 16) (flit : Flit) (slot : Fin 64) (err : FlitErr)
      (target : EccClass)
  | nocResponse (req : ReqId) (outside : Option (Status × Line))
  | nocTimeout (req : ReqId)
  | fenceRequest (path : Path) (word : BitVec 16)
  | fenceLift (path : Path) (word : BitVec 16)
  | fenceAck (n : Fin 101)
  | fenceDrainForced (n : Fin 101)
  | moveSubmit (engine : Fin 4) (origin : Origin) (descriptor : Line)
  | moveDone (engine : Fin 4) (met : List MoveFlit)
  -- lanes (R198 to R222)
  | laneFrameReceived (lane : Fin 256) (bits : Option (BitVec 400)) (margin : Nat)
  | remoteResetCommand (multi : Bool)
  | laneClockOk (g : Fin 32)
  | laneAdaptDone (g : Fin 32) (steps : List (List Nat))
  | laneLockTimeout (g : Fin 32)
  | laneDeskewDone (g : Fin 32) (measured : Deskew)
  | merigAlignTimeout (g : Fin 32)
  | laneAutoRetrain (g : Fin 32)
  | laneShallowTimeout (g : Fin 32)
  | laneTrainingRequest (path : Path) (g : Fin 32) (value : BitVec 8)
  | eyeScanRequest (path : Path) (g : Fin 32) (data : List Byte)
  | eyeScanPointDone (g : Fin 32) (counts : List Nat)
  | eyeScanRecordWriteDone (g : Fin 32) (status : Status)
  | laneLoopLocked (loop : Fin 64)
  | laneLoopUnlock (loop : Fin 64)
  -- Merig and the hierarchy (R238 to R246)
  | carriageFlitReceived (g : Fin 32) (err : FlitErr)
  | carriageResendTimeout (g : Fin 32)
  | remoteResetOrder (path : Path) (w : Fin 32) (value : BitVec 8)
  | relayTransfer (path : Path) (w : Fin 32) (write : Option (List Byte))
  | relayResponse (w : Fin 32) (code : BitVec 32) (data : List Byte)
  | relayTimeout (w : Fin 32)
  | relayRequestReceived (txn : Fin 16) (index : BitVec 16) (sub : BitVec 8) (write : Option (List Byte))
  | chainLoadRequest (path : Path) (data : List Byte) (answering : BitVec 32)
  | chainLoadDone (results : List (Fin 32 × Fin 7))
  -- archive (R274 to R299)
  | dramRead (req : ReqId) (addr : BitVec 48) (errA errB : NibbleErr)
  | dramWriteLine (req : ReqId) (addr : BitVec 48) (data : Line) (bad : Bool)
  | dramWriteWord (req : ReqId) (addr : BitVec 48) (data : BitVec 32) (be : BitVec 4) (err : NibbleErr) (bad : Bool)
  | dataRateWrite (path : Path) (code : BitVec 8)
  | retrainPeriodicRequest (path : Path) (c : Fin 16)
  | retrainFullRequest (path : Path) (c : Fin 16)
  | dramPeriodicRetrainDue (c : Fin 16)
  | dramTrainingDone (c : Fin 16) (success : Bool)
  | dramRefreshDue (c : Fin 16) (bank : Nat)
  | dramSelfRefreshEntry (c : Fin 16)
  | dramSelfRefreshExit (c : Fin 16)
  | dramParityAlert (c : Fin 16) (replaysAlerting : Nat)
  | rfmSweepRequest (path : Path) (c : Fin 16)
  | rfmSweepDone (c : Fin 16)
  | rescrambleSweepRequest (path : Path) (c : Fin 16)
  | dramInitialiseRequest (path : Path) (c : Fin 16)
  | sweepDone (c : Fin 16) (errs : List (Nat × NibbleErr × NibbleErr))
  | dramRekeyRequest (path : Path) (c : BitVec 8) (healthy : Bool)
  | archiveFlitCommit (c : Fin 16)
  | archiveRelease (path : Path) (data : List Byte)
  -- Keeper instructions (R315, Table 12-3)
  | add (i : Issue) (kd ka kb : KReg)
  | sub (i : Issue) (kd ka kb : KReg)
  | and (i : Issue) (kd ka kb : KReg)
  | or (i : Issue) (kd ka kb : KReg)
  | xor (i : Issue) (kd ka kb : KReg)
  | sll (i : Issue) (kd ka kb : KReg)
  | srl (i : Issue) (kd ka kb : KReg)
  | sra (i : Issue) (kd ka kb : KReg)
  | slt (i : Issue) (kd ka kb : KReg)
  | sltu (i : Issue) (kd ka kb : KReg)
  | mul (i : Issue) (kd ka kb : KReg)
  | mulhu (i : Issue) (kd ka kb : KReg)
  | nld (i : Issue) (kd ka kb : KReg)
  | nst (i : Issue) (kd ka kb : KReg) (ecc : EccClass)
  | nstw (i : Issue) (kd ka kb : KReg)
  | watch (i : Issue) (kd : KReg)
  | srd (i : Issue) (kd : KReg) (sel : Fin 8)
  | round (i : Issue)
  | halt (i : Issue)
  | addi (i : Issue) (kd ka : KReg) (imm : BitVec 16)
  | andi (i : Issue) (kd ka : KReg) (imm : BitVec 16)
  | ori (i : Issue) (kd ka : KReg) (imm : BitVec 16)
  | xori (i : Issue) (kd ka : KReg) (imm : BitVec 16)
  | slli (i : Issue) (kd ka : KReg) (imm : BitVec 6)
  | srli (i : Issue) (kd ka : KReg) (imm : BitVec 6)
  | srai (i : Issue) (kd ka : KReg) (imm : BitVec 6)
  | slti (i : Issue) (kd ka : KReg) (imm : BitVec 16)
  | sltiu (i : Issue) (kd ka : KReg) (imm : BitVec 16)
  | ld (i : Issue) (kd ka : KReg) (imm : BitVec 16) (ecc : EccClass)
  | ldw (i : Issue) (kd ka : KReg) (imm : BitVec 16) (ecc : EccClass)
  | st (i : Issue) (kd ka : KReg) (imm : BitVec 16)
  | stw (i : Issue) (kd ka : KReg) (imm : BitVec 16) (ecc : EccClass)
  | pld (i : Issue) (kd ka : KReg) (imm : BitVec 16) (ecc : EccClass)
  | pst (i : Issue) (kd ka : KReg) (imm : BitVec 16)
  | pxchg (i : Issue) (kd ka : KReg) (imm : BitVec 16) (ecc : EccClass)
  | beq (i : Issue) (kd ka : KReg) (imm : BitVec 16)
  | bne (i : Issue) (kd ka : KReg) (imm : BitVec 16)
  | blt (i : Issue) (kd ka : KReg) (imm : BitVec 16)
  | bge (i : Issue) (kd ka : KReg) (imm : BitVec 16)
  | bltu (i : Issue) (kd ka : KReg) (imm : BitVec 16)
  | bgeu (i : Issue) (kd ka : KReg) (imm : BitVec 16)
  | nwait (i : Issue) (kd ka : KReg) (imm : BitVec 16)
  | nwaitTimeout (core : Fin 4)
  | wbeat (i : Issue) (kd ka : KReg) (imm : BitVec 16)
  | wbeatReturn (core : Fin 4)
  | evpost (i : Issue) (ka : KReg) (n : Fin 16)
  | emcy (i : Issue) (kd ka : KReg) (n : BitVec 6)
  | jalr (i : Issue) (kd ka : KReg) (imm : BitVec 16)
  | lui (i : Issue) (kd : KReg) (imm : BitVec 21)
  | j (i : Issue) (off : BitVec 26)
  | jal (i : Issue) (off : BitVec 26)
  | keeperRun (path : Path) (core : Fin 4)
  | keeperStop (path : Path) (core : Fin 4)
  | keeperCodeStoreWrite (req : ReqId) (addr : BitVec 48) (data : List Byte) (be : BitVec 4)
  -- dictionary, CAN, NMT (R333 to R358)
  | nmtStart (newMs : Bool)
  | nmtStop (newMs : Bool)
  | nmtEnterPreOperational (newMs : Bool)
  | nmtResetNode (newMs : Bool) (multi : Bool)
  | nmtResetCommunication (newMs : Bool)
  | usdoDownloadInitiate (newMs : Bool) (index : BitVec 16) (sub : BitVec 8) (size : Nat) (expedited : Option (List Byte))
  | usdoDownloadSegment (newMs : Bool) (toggle : Bool) (data : List Byte) (last : Bool)
  | usdoUploadInitiate (newMs : Bool) (index : BitVec 16) (sub : BitVec 8)
  | usdoUploadSegment (newMs : Bool) (toggle : Bool)
  | usdoSessionTimeout
  | heartbeatSend
  | heartbeatReceived (newMs : Bool) (node : BitVec 7) (state : BitVec 8)
  | heartbeatTimeout (entry : Fin 8)
  | heartbeatTimeWrite (path : Path) (value : BitVec 16)
  | consumerHeartbeatWrite (path : Path) (entry : Fin 8) (value : BitVec 32)
  | errorFieldClear (path : Path) (value : BitVec 8)
  | emcySend
  | canBusOffRecovery
  | canRxOverrun (dropped : Nat) (newMillisecond : Bool)
  | dictOperationDone
  | dictRead (word : BitVec 128)
  | dictWriteSegment (word : BitVec 128)
  | dictWriteFinal (word : BitVec 128)
  | windowRead (req : ReqId) (slot : Fin 4) (index : BitVec 16) (sub : BitVec 8) (offset : BitVec 32) (len : BitVec 8)
  | windowWriteSegment (req : ReqId) (slot : Fin 4) (index : BitVec 16) (sub : BitVec 8) (offset : BitVec 32)
      (len : BitVec 8) (data : List Byte)
  | windowWriteFinal (req : ReqId) (slot : Fin 4) (index : BitVec 16) (sub : BitVec 8) (offset : BitVec 32)
      (len : BitVec 8) (data : List Byte)
  -- Survey port, images, scrubbing (R362 to R384)
  | extest
  | idcode
  | samplePreload
  | clamp
  | highz
  | bypass
  | testLogicReset
  | cfgLoad (bits : List Bool)
  | cfgWide (bytes : List Byte)
  | cfgStatus
  | chainSel (word : BitVec 4)
  | imageHeader (wide : Bool) (header : BitVec 512)
  | imageFrame (wide : Bool) (address : BitVec 32) (payload : BitVec 2560)
  | slotClearDone
  | imageTrailer (wide : Bool) (crc : BitVec 32) (block : List Byte)
  | imageCheckDone
  | scrubFrameRead (scrubber : Fin 2) (peerCorrected : List (Fin 64)) (peerFatal : Bool) (flips : BitVec 2560)
      (found : FrameCheck) (multi : Bool)
  | scrubRequest (path : Path) (slot : BitVec 8)
  | regionInvalidate (path : Path) (word : BitVec 32)
  -- clocks (R387 to R402)
  | xoWindowEnd (count : Nat)
  | refWindowEnd (count : Nat)
  | missingEdge
  | lanternLock
  | lanternLockTimeout
  | daymarkLock
  | multiplierWrite (path : Path) (value : BitVec 8)
  | referenceFrequencyWrite (path : Path) (value : BitVec 32)
  -- power and thermal (R406 to R423)
  | regulatorFault (regulator : Fin 4) (multi role : Bool)
  | sectorRampDone (k : Fin 16)
  | upperLayersReady
  | sensorSample (n : Fin 128) (reading : Int) (pL2 : Nat)
  | sensorSelfCheck (failing : BitVec 128)
  | thermalShutdownExit (multi role : Bool)
  | pmbusPoll (entry : Fin 32) (answer mirror : Option (BitVec 16)) (fails : BitVec 3)
  | pmbusAlert (address : BitVec 7) (level : Bool)
  | powerGoodSample (entry : Fin 32) (ball : Bool)
  -- reset and start-up (R426 to R438)
  | powerOnRelease (resetLow multi roleHigh backupLost : Bool) (options : Option (List Byte × List Byte))
  | resetPin (low multi role : Bool)
  | wresetPin (multi : Bool)
  | resetRequestWarm (path : Path)
  | resetRequestCold (path : Path)
  | dictResetTakesEffect (multi role : Bool)
  | railOutOfWindow (multi : Bool)
  | optionShadowParity (multi role : Bool)
  | clockStateParity (multi role : Bool)
  | dictEngineStateError (multi : Bool)
  | nocTableParity (multi : Bool)
  | enterService
  | stationResetWrite (path : Path) (data : List Byte)
  | laneGroupResetWrite (path : Path) (value : BitVec 32)
  | dramChannelResetWrite (path : Path) (value : BitVec 16)
  | keeperResetWrite (path : Path) (value : BitVec 8)
  | patternBankResetWrite (path : Path) (data : List Byte)
  | queueGroupResetWrite (path : Path) (data : List Byte)
  | dictEngineReset (path : Path) (value : BitVec 8)
  | blockResetDone (block : Nat)
  | optionWrite (path : Path) (data : List Byte) (verifyB : Bool)
  -- pins (R443 to R458)
  | gpioOutputWrite (path : Path) (data : List Byte)
  | bankRailMeasure (bank : Fin 6) (millivolts : Nat)
  | consoleTransmit (path : Path) (core : Fin 4) (data : List Byte)
  | consoleReceive (path : Path) (core : Fin 4)
  | consoleByteReceived (core : Fin 4) (byte : Byte)
  | pinWatchMatch (w : Fin 8)
  | pinWatchWindowExpired (w : Fin 8)
  -- beat timers, counters, log (R486 to R492)
  | beatTimerFire (i : Fin 8)
  | timerOwnerWrite (path : Path) (data : List Byte)
  | timerConfigWrite (path : Path) (i : Fin 8) (data : List Byte)
  | counterClear (path : Path) (word : BitVec 32)
  | logClear (path : Path) (value : BitVec 8)
  -- security and life cycle (R465 to R477)
  | lcRequestDeployed (path : Path) (data : List Byte)
  | lcRequestReturned (path : Path) (data : List Byte)
  | lcRequestScrapped (path : Path) (data : List Byte)
  | lifeCycleReset (multi role : Bool)
  | attestationRequest (path : Path) (nonce : List Byte)
  | attestationDone
  | tamperLatch (pin : Fin 2)
  | glitchDetected (voltage : Bool)
  | secureSramWipeDone
  | linkKeyLoad (path : Path) (data : List Byte)
  | entropyRetry (c : Fin 16) (healthy : Bool)
  -- clock-driven steps and the rest (R36, R65, R266 to R401)
  | fabCycle (ecc : List PortEcc) (early : List EarlyPair) (pins floating : BitVec 96)
  | beat (ecc : List RingEcc)
  | streamSlot (s : Fin 32) (slot : Fin 64) (ecc : List EccClass)
  | fenceLiftDone (n : Fin 101)
  | canBusError (tx : Nat) (rx : Nat)
  | canRejoin
  | memoryLoopLock
  | illegalInstruction (i : Issue)
  deriving DecidableEq, Repr

end Sys2Proof
end

