-- ==== Sys2Proof/Decode.lean ====
section
/-! DEFINITION. The block has no decoder of command words: opcode_table.json gives none of its rows any bits, so no word spells
a command. -/

namespace Sys2Proof

/-- The command a word of `nbits` bits spells: none, for every word. -/
def decodeTableWord (_nbits _w : Nat) : Option Instr := none

end Sys2Proof
end

