-- ==== Sys2Proof/Config.lean ====
section
/-! DEFINITION. Values the spec leaves open, as constants without a body: no proof can see what they are. Each is applied to
a counter of the state or to what it may depend on, and each stands in a row of the assumption log. -/

namespace Sys2Proof.Config

/-- Random draws of the security engine: keys, nonces (R465, R471, R477). -/
opaque random : Nat → Nat

/-- Backup-domain time in BAK cycles when a record is written (Tables 16-6, 17-5, 20-3). -/
opaque bakTime : Nat → Nat

/-- AON cycles of a start-up milestone (0x2200 sub 0x0B). -/
opaque milestone : Nat → Nat

/-- What a byte of hold memory holds after a warm reset before it is written (R163): per warm reset and address. -/
opaque holdByte : Nat → Nat → Nat

/-- What a sub-burst of DRAM holds before it is written (R304): per cold reset and key; data, metadata epoch, poison. -/
opaque dramData : Nat → Nat → BitVec 256
opaque dramEpoch : Nat → Nat → Nat
opaque dramPoison : Nat → Nat → Bool

/-- Bank and row of an offset in a channel, and the number of banks of a channel (R285): the memory's own. -/
opaque dramBank : Nat → Nat
opaque dramRow : Nat → Nat
opaque dramBanks : Nat

/-- The offsets, in order, at which a pass of a sweep over a channel's lines opens a row, and a refresh-management sweep's banks: the
memory's own map and the pace of the sweep decide them (R284, R285, R289): per draw. -/
opaque sweepOpens : Nat → List Nat

/-- What the random source's health test finds before a draw (R477). -/
opaque entropyHealthy : Nat → Bool

/-- Whether the read-back of an NVM write that waited verifies (R421, R433). -/
opaque nvmVerifies : Nat → Bool

/-- Whether an asynchronous crossing adds 5 cycles and not 4 (R177): per crossing, FAB cycle and crossing point. -/
opaque asyncLate : Nat → Nat → Nat → Bool

/-- What a byte of an overlapping move's destination holds afterwards (R268): per draw and address. -/
opaque moveByte : Nat → Nat → Nat

/-- What a bit of a bank holds after a destructive march that another requester wrote to, and the like: per draw. -/
opaque marchByte : Nat → Nat → Nat

/-- Measured rail voltages and currents (0x2300 sub 0x06): per draw, 16 bytes. -/
opaque rails : Nat → Nat

/-- SHAKE256 with 32 bytes of output, and the Falcon-1024 check of a padded signature under a public key over a digest, and
the device key's signature over a digest (R372, R465, R467): named by the spec and not defined in it. -/
opaque shake256 : List Byte → List Byte
opaque falconVerify : List Byte → List Byte → List Byte → Bool
opaque falconSign : List Byte → List Byte

/-- The responses of USDO (R347, R349): the initiate of a download or an upload, a segment with its toggle bit, of an upload with
whether it is the last, and an abort. -/
inductive UsdoAnswer where
  | downloadInitiate
  | downloadSegment (toggle : Bool)
  | uploadInitiate (expedited : Bool) (size : Nat)
  | uploadSegment (toggle last : Bool)
  | abort (code : Nat)
  deriving DecidableEq, Repr

/-- Data bytes of a USDO frame (R347): CiA 1301 defines them, and the spec only names it. Applied to the response, the index and
sub-index, and the bytes carried. -/
opaque usdoFrame : UsdoAnswer → Nat → Nat → List Byte → List Byte

/-- Boundary-scan register contents and the like at Capture-DR (R362): given by a file the spec does not hold. -/
opaque boundaryScan : Nat → Nat

/-- The 8 check bits of a 64-bit word (R238, R253): the spec names SECDED and gives no code. -/
opaque secded : Nat → Nat

/-- Bits a three-or-more-bit upset leaves after correction (R515): per draw. -/
opaque upsetCode : Nat → Nat → Nat

/-- Values that a crossing outside its ratio limits transfers, and other values the spec calls undefined: per draw. -/
opaque undefinedBits : Nat → Nat

end Sys2Proof.Config
end

