-- ==== Sys2Proof/Machine/Tbl.lean ====
section
/-! DEFINITION. Sparse tables: reading, writing, and the canonical form (keys strictly rising, no entry equal to its
default); writes to lists by position. -/

namespace Sys2Proof.Machine

/-- The value at key `k`, `d k` when unlisted. -/
def Tbl.get {α : Type} (d : Nat → α) : Tbl α → Nat → α
  | [], k => d k
  | (j, v) :: t, k => if k = j then v else Tbl.get d t k

/-- `t` with key `k` absent. -/
def Tbl.drop {α : Type} (k : Nat) (t : Tbl α) : Tbl α := t.filter (fun e => decide (e.1 ≠ k))

/-- `t` with `v` listed at key `k`. -/
def Tbl.put {α : Type} (k : Nat) (v : α) : Tbl α → Tbl α
  | [] => [(k, v)]
  | (j, w) :: t => if j < k then (j, w) :: Tbl.put k v t else if j = k then (k, v) :: t else (k, v) :: (j, w) :: t

/-- Write `v` at key `k`, keeping the canonical form: a default value is not listed. -/
def Tbl.set {α : Type} [DecidableEq α] (d : Nat → α) (t : Tbl α) (k : Nat) (v : α) : Tbl α :=
  if v = d k then Tbl.drop k t else Tbl.put k v t

/-- Every listed entry of a table changed by `f`, defaults left out. -/
def mapTbl {α : Type} [DecidableEq α] (d : α) (f : α → α) (t : Tbl α) : Tbl α :=
  (t.map (fun e => (e.1, f e.2))).filter (fun e => decide (e.2 ≠ d))

/-- Every listed key is at least `lo`, keys rise strictly, and no entry is a default. -/
def Tbl.wfFrom {α : Type} [DecidableEq α] (d : Nat → α) : Nat → Tbl α → Bool
  | _, [] => true
  | lo, (j, v) :: t => decide (lo ≤ j) && decide (v ≠ d j) && Tbl.wfFrom d (j + 1) t

/-- The canonical form of a table. -/
def Tbl.wf {α : Type} [DecidableEq α] (d : Nat → α) (t : Tbl α) : Bool := Tbl.wfFrom d 0 t

/-- Entry `n` of a list, `d` past its end. -/
def nth {α : Type} (l : List α) (n : Nat) (d : α) : α := l.getD n d

/-- A list with entry `n` replaced (unchanged past its end). -/
def setNth {α : Type} (l : List α) (n : Nat) (v : α) : List α := l.set n v

/-- The number whose bits 0 to n − 1 are `f 0` to `f (n − 1)`. -/
def natOfFn : Nat → (Nat → Bool) → Nat
  | 0, _ => 0
  | n + 1, f => natOfFn n f + (if f n then 2 ^ n else 0)

/-- Fold `f` over 0 to n − 1. -/
def iterate {α : Type} : Nat → (Nat → α → α) → α → α
  | 0, _, a => a
  | n + 1, f, a => f n (iterate n f a)

/-- The numbers 0 to n − 1 at which `f` holds, ascending. -/
def whichBelow (n : Nat) (f : Nat → Bool) : List Nat := (List.range n).filter f

end Sys2Proof.Machine
end

