-- ==== Sys2Proof/Machine/Bits.lean ====
section
/-! DEFINITION. Bit and byte helpers shared by the families: tables with one default, byte strings held as numbers, two's
complement fields, insertion in order, and CRC-32C (R254). -/

namespace Sys2Proof.Machine

/-- Entry `k` of a table whose every entry defaults to `d`. -/
def Tbl.at {α : Type} (d : α) (t : Tbl α) (k : Nat) : α := Tbl.get (fun _ => d) t k

/-- A table whose every entry defaults to `d`, with entry `k` replaced. -/
def Tbl.upd {α : Type} [DecidableEq α] (d : α) (t : Tbl α) (k : Nat) (v : α) : Tbl α := Tbl.set (fun _ => d) t k v

/-- Byte `i` of a little-endian number. -/
def byteAt (x i : Nat) : Nat := x / 256 ^ i % 256

/-- A little-endian number with byte `i` replaced. -/
def setByteAt (x i v : Nat) : Nat := withBits x (8 * i) 8 v

/-- Field `i` of a number cut into fields of `w` bits. -/
def fieldAt (w x i : Nat) : Nat := bitsAt x (w * i) w

/-- The number whose fields of `w` bits, first lowest, are the list's. -/
def packFields (w : Nat) : List Nat → Nat
  | [] => 0
  | x :: xs => x % 2 ^ w + 2 ^ w * packFields w xs

/-- The number whose `n` fields of `w` bits are `f 0` to `f (n − 1)`. -/
def packFn (w n : Nat) (f : Nat → Nat) : Nat := packFields w ((List.range n).map f)

/-- A number of `n` bytes, each `b`. -/
def repByte (n b : Nat) : Nat := packFields 8 (List.replicate n b)

/-- Bit `i` of a number as a truth value. -/
def bitOf (x i : Nat) : Bool := x.testBit i

/-- A truth value as a bit. -/
def b2n (b : Bool) : Nat := if b then 1 else 0

/-- A number with bit `i` set to `b`. -/
def setBit (x i : Nat) (b : Bool) : Nat := withBits x i 1 (b2n b)

/-- A number with the bits of `m` cleared. -/
def clearBits (x m : Nat) : Nat := x ^^^ (x &&& m)

/-- The low `w` bits of an integer (two's complement). -/
def intBits (w : Nat) (x : Int) : Nat := (x % (2 ^ w : Nat)).toNat

/-- The integer that `w` bits spell in two's complement. -/
def signedOf (w x : Nat) : Int :=
  let y := x % 2 ^ w
  if y < 2 ^ (w - 1) then (y : Int) else (y : Int) - (2 ^ w : Nat)

/-- Number of bits set among the low `n` bits. -/
def popCount (n x : Nat) : Nat := (whichBelow n (bitOf x)).length

/-- Insert a number in a rising list. -/
def insertNat (x : Nat) : List Nat → List Nat
  | [] => [x]
  | y :: ys => if x ≤ y then x :: y :: ys else y :: insertNat x ys

/-- Insert by a key, after the entries of equal key. -/
def insertBy {α : Type} (f : α → Nat) (x : α) : List α → List α
  | [] => [x]
  | y :: ys => if f x < f y then x :: y :: ys else y :: insertBy f x ys

/-- A list sorted by a key, entries of equal key in their old order. -/
def sortBy {α : Type} (f : α → Nat) : List α → List α
  | [] => []
  | x :: xs => insertFirst f x (sortBy f xs)
where
  /-- Insert before the entries of equal key. -/
  insertFirst {α : Type} (f : α → Nat) (x : α) : List α → List α
    | [] => [x]
    | y :: ys => if f x ≤ f y then x :: y :: ys else y :: insertFirst f x ys

/-- One bit of CRC-32C, reflected. -/
def crc32cBit (c : Nat) : Nat := if c % 2 = 1 then (c / 2) ^^^ 0x82F63B78 else c / 2

/-- CRC-32C register after one byte. -/
def crc32cByte (c : Nat) (b : Byte) : Nat := iterate 8 (fun _ => crc32cBit) (c ^^^ b.toNat)

/-- CRC-32C of a byte string: polynomial 0x1EDC_6F41, reflected, preset and final XOR 0xFFFF_FFFF (R254). -/
def crc32c (bs : List Byte) : Nat := bs.foldl crc32cByte 0xFFFFFFFF ^^^ 0xFFFFFFFF

/-- One bit of a CRC-16 with polynomial 0x1021, most significant bit first. -/
def crc16Bit (c : Nat) (b : Bool) : Nat :=
  if (bitOf c 15) != b then (2 * c % 65536) ^^^ 0x1021 else 2 * c % 65536

/-- CRC-16 (polynomial 0x1021, preset `init`) over bits in order. -/
def crc16 (init : Nat) (bits : List Bool) : Nat := bits.foldl crc16Bit init

end Sys2Proof.Machine
end

