-- ==== Sys2Proof/Machine/State.lean ====
section
/-! DEFINITION. The state of the block as plain data: one structure per chapter of the spec, gathered in `State`; the stop
reasons; and `State.reset`, the machine while power-on reset is held. Counters of events, frames and cycles are natural
numbers with their widths applied where they count (R493); registers that software reads whole are natural numbers read
out at their width. -/

namespace Sys2Proof.Machine

/-- Stop reasons of the machine. -/
inductive Fault where
  /-- Raised by no command: the spec gives every step of the block an effect. Safe. -/
  | noStop
  deriving DecidableEq, Repr

/-- Refusals of the machine. -/
inductive Refusal where
  /-- Raised by an arm of `exec` whose command has no meaning yet; safe: the run stops. -/
  | notModelled (mnemonic : String)
  deriving DecidableEq, Repr

/-- Pattern-layer grades (Table 0-2). -/
inductive Grade where
  | p | h | n
  deriving DecidableEq, Repr

/-- What the factory fixes for the life of the part (R1, R20, R28, R129, Table 19-4). -/
structure Part where
  stepping : Nat := 0x0100
  grade : Grade := .p
  /-- The speed bin, 1 to 4, less 1 (R502). -/
  bin : Fin 4 := 1
  absent : BitVec 256 := 0
  rename : List Nat := List.replicate 16 16
  spareMap : List Byte := List.replicate 260 0
  serial : BitVec 64 := 0
  /-- Pattern repair map in OTP (R129): entry e of bank s, keyed 4096 × s + e, is served by the spare row numbered value − 1. -/
  repair : Tbl Nat := []
  publicKey : List Byte := List.replicate 1793 0
  certificate : List Byte := List.replicate 3081 0
  deriving DecidableEq, Repr

/-- Device states (0x2000 sub 0x15, R376, Table 13-5). -/
inductive Dev where
  | service | configured | run | hold
  deriving DecidableEq, Repr

/-- Where the part stands between reset and SERVICE (R428, R436 to R438). -/
inductive Phase where
  | powerOn      -- power-on reset held
  | held         -- RESET_N held low (R426)
  | xoJudging    -- AON runs, options loaded, XO judged (steps 2 to 4)
  | daymark      -- waiting for the Daymark lock (step 5)
  | starting     -- L0 released: ramps, clears, training (steps 6 to 8)
  | service      -- SERVICE reached (step 9)
  | shutdown     -- thermal shutdown (R419)
  deriving DecidableEq, Repr

/-- Time as the experiment sees it (R36 to R43, R377). -/
structure Time where
  /-- FAB cycles since the root dividers started. -/
  tick : Nat := 0
  /-- FAB cycle within the beat. -/
  cyc : Nat := 0
  beat : Nat := 0
  rot : Nat := 0
  /-- The first beat after a Lantern lock is a datum beat (R40, R391). -/
  freshLock : Bool := false
  /-- A worker has aligned to its manager; a GPIO-driven datum has aligned (Table 2-3). -/
  aligned : Bool := false
  /-- A worker has adopted its manager's rotation counter since the last reset (R236). -/
  adopted : Bool := false
  /-- Step of the staged global release reached: 0 none, 1 outputs, 2 write enables, 3 released (R377). -/
  relStep : Nat := 0
  startPending : Bool := false
  /-- The pending start arrived in the swap window (R376). -/
  startFar : Bool := false
  /-- FAB cycle at which the last datum beat began (R320). -/
  datum : Nat := 0
  deriving DecidableEq, Repr

/-- One field or element of a staged write: an object (key), the bits it covers, its value, and the bits not superseded
(R47). -/
structure StagePart where
  key : Nat
  mask : Nat
  value : Nat
  live : Nat
  deriving DecidableEq, Repr

/-- An accepted staged write waiting for its datum beat (R44 to R48). -/
structure Staged where
  seq : Nat
  path : Nat
  device : Bool
  far : Bool
  parts : List StagePart
  /-- It names a context selection that a device action made for the safe action (R381). -/
  safe : Bool
  /-- It is a cool-down selection (R417). -/
  cool : Bool
  deriving DecidableEq, Repr

/-- A staged write record (Table 2-5). -/
structure Record where
  seq : Nat := 0
  index : Nat := 0
  sub : Nat := 0
  device : Bool := false
  path : Nat := 0
  pre : Bool := false
  multi : Bool := false
  applyRot : Nat := 0
  state : Nat := 0
  deriving DecidableEq, Repr

/-- Staging and swap status (R44 to R55, Table 2-9). -/
structure Staging where
  lastSeq : Nat := 0
  lastApplied : Nat := 0
  perPath : List Nat := [0, 0, 0, 0]
  pend : List Staged := []
  recs : List Record := []
  /-- Context in force per sector, 8 for none (0x2000 sub 0x17). -/
  ctx : List Nat := List.replicate 16 8
  swapCode : List Nat := List.replicate 16 0
  swapRot : Nat := 0
  /-- Sectors that changed context at the datum beat in progress (R54). -/
  swapped : List Nat := []
  /-- Sectors whose selection of 8 was made by the safe action (code 5 in place of 1, R381). -/
  safeSel : List Nat := []
  /-- Sectors whose selection was made by a cool-down (R417). -/
  coolSel : List Nat := []
  deriving DecidableEq, Repr

/-- An answer of the dictionary on one path: what was asked, 0 or the abort code of Table 13-2, the sequence number of a
staged write, and the bytes read (R337). -/
structure Answer where
  index : Nat := 0
  sub : Nat := 0
  code : Nat := 0
  seq : Nat := 0
  data : List Byte := []
  deriving DecidableEq, Repr

/-- What an engine request asks for (R335). -/
inductive JobKind where
  | read (offset len : Nat)
  | write (data : List Byte)
  | readRest                  -- an upload initiate: copy the whole object
  deriving DecidableEq, Repr

/-- A request waiting at, or performed by, the dictionary engine (R335, R336). Clients 0 to 2 are the Survey, CAN and relay
paths, 3 + k the Keeper window slot k. -/
structure Job where
  client : Nat
  kind : JobKind
  index : Nat
  sub : Nat
  opsLeft : Nat
  started : Bool
  arrival : Nat
  deriving DecidableEq, Repr

/-- A session's transfer buffer and position (R336, R347, R356). -/
structure Session where
  buf : List Byte := []
  index : Nat := 0
  sub : Nat := 0
  /-- The buffer holds a copy of (index, sub) for reading. -/
  copyValid : Bool := false
  /-- A write is being collected in the buffer. -/
  collecting : Bool := false
  /-- A USDO transfer is open: 0 none, 1 download, 2 upload. -/
  opened : Nat := 0
  toggle : Bool := false
  pos : Nat := 0
  size : Nat := 0
  /-- How the request that runs is answered on CAN where it succeeds; an upload's size comes with the answer (R347). -/
  answer : Config.UsdoAnswer := .downloadInitiate
  deriving DecidableEq, Repr

/-- A response register or line (Tables 13-11 and 13-13). -/
structure Response where
  index : Nat := 0
  sub : Nat := 0
  done : Bool := true
  err : Bool := false
  code : Nat := 0
  data : List Byte := []
  deriving DecidableEq, Repr

/-- The dictionary engine (R333 to R337, R355 to R358). -/
structure Engine where
  jobs : List Job := []
  current : Option Job := none
  /-- Consecutive operations granted to other paths while a path waits: Survey, CAN, relay, Keeper (R335). -/
  passed : List Nat := [0, 0, 0, 0]
  arrivals : Nat := 0
  sessions : Tbl Session := []
  survey : Response := { done := false }
  windows : List Response := [{}, {}, {}, {}]
  answers : Tbl Answer := []
  deriving DecidableEq, Repr

/-- NMT states by heartbeat code (Table 13-5): Initialisation reads 0xFF. -/
inductive Nmt where
  | initialisation | preOperational | operational | stopped
  deriving DecidableEq, Repr

/-- An emergency message waiting: error code and manufacturer field (Table 13-7). -/
structure Emcy where
  code : Nat
  field : Nat
  /-- Order of arrival among the messages of the Keeper queues (R351). -/
  age : Nat := 0
  deriving DecidableEq, Repr

/-- A CAN frame handed to the transmit queue (R338, Table 13-4): its identifier, whether it goes in FD format, with the bit-rate switch, and
its data. -/
structure CanFrame where
  cob : Nat
  fd : Bool := false
  data : List Byte
  deriving DecidableEq, Repr

/-- A received frame that waits in the receive FIFO (R342, Table 13-4). -/
inductive CanRx where
  | nmt (specifier : Nat) (multi : Bool := false)
  | downloadInitiate (index sub size : Nat) (expedited : Option (List Byte))
  | downloadSegment (toggle : Bool) (data : List Byte) (last : Bool)
  | uploadInitiate (index sub : Nat)
  | uploadSegment (toggle : Bool)
  | heartbeat (node : Nat)
  deriving DecidableEq, Repr

/-- A consumer heartbeat entry's monitoring (R354). -/
structure Consumer where
  monitoring : Bool := false
  timedOut : Bool := false
  deriving DecidableEq, Repr

/-- The CAN controller and its services (R338 to R354). -/
structure Can where
  nmt : Nmt := .initialisation
  nodeId : Nat := 127
  nomRate : Nat := 0
  dataRate : Nat := 0
  silent : Bool := false
  txErr : Nat := 0
  rxErr : Nat := 0
  /-- 0 error active, 1 error passive, 2 bus-off, 3 OFF_BUS. -/
  bus : Nat := 0
  framesRx : Nat := 0
  dropped : Nat := 0
  recoveries : Nat := 0
  emcySent : Nat := 0
  emcyDropped : Nat := 0
  aborted : Nat := 0
  /-- Frames that the last command of the node handed to the transmit queue, in the order in which they leave (R342). -/
  sent : List CanFrame := []
  /-- The receive FIFO, oldest frame first (R342). -/
  rx : List CanRx := []
  emcyQueue : List Emcy := []
  emcyAges : Nat := 0
  errorField : List Nat := []
  manufacturerBit : Bool := false
  consumers : List Consumer := List.replicate 8 {}
  overrunMs : Bool := false
  deriving DecidableEq, Repr

/-- An event waiting to be sampled by the event block: number, and the rotation and beat of its stamp (R484). -/
structure Raised where
  event : Nat
  rot : Nat
  beat : Nat
  deriving DecidableEq, Repr

/-- AON event log entry (Table 20-3). -/
structure LogEntry where
  rot : Nat
  bakTime : Nat
  shutdown : Bool
  sev : Nat
  event : Nat
  deriving DecidableEq, Repr

/-- The event block (R481 to R494). -/
structure Events where
  desc : Tbl Nat := []
  count : Tbl Nat := []
  total : Nat := 0
  last : Nat := 0
  log : List LogEntry := []
  timerOwner : List Nat := List.replicate 8 0
  /-- Raises not yet sampled. -/
  waiting : List Raised := []
  /-- Raises of the FAB cycle in progress: they are sampled together when the next one begins (R484). -/
  fabDue : List Raised := []
  /-- Events of the once-in-each-beat kind already raised in this beat. -/
  thisBeat : List Nat := []
  deriving DecidableEq, Repr

/-- NVM and OTP (R432, R464, R494, Table 20-9). -/
structure Nvm where
  copyA : List Byte := []
  copyB : List Byte := []
  shutdownRecord : List Byte := List.replicate 32 0
  writes : Tbl Nat := []
  worn : Nat := 0
  /-- Life-cycle state burned in OTP (Table 19-1 code). -/
  otpState : Nat := 1
  ownerDigest : List Byte := List.replicate 32 0
  deriving DecidableEq, Repr

/-- Cause log entry (Table 17-5). -/
structure CauseEntry where
  rot : Nat
  bakTime : Nat
  cause : Nat
  warm : Bool
  multi : Bool
  path : Nat
  deriving DecidableEq, Repr

/-- The backup domain (R434, R435, R464, R469). -/
structure Backup where
  resets : Nat := 0
  causes : List CauseEntry := []
  lost : Bool := false
  shutdownRecord : List Byte := List.replicate 32 0
  /-- A shutdown record waits to be copied at start-up (R421). -/
  shutdownLatched : Bool := false
  shutdowns : Nat := 0
  tamperConfig : Nat := 0x10
  /-- Latches TAMPER0, TAMPER1, CLOCK_GLITCH, VOLT_GLITCH. -/
  tamperLatches : Nat := 0
  /-- A tamper latched while unpowered is still to be answered (R471). -/
  tamperUnpowered : Bool := false
  lifeCopy : Nat := 1
  deriving DecidableEq, Repr

/-- Reset and start-up (R426 to R440). -/
structure Reset where
  phase : Phase := .powerOn
  /-- The start-up in progress follows a warm reset (R438). -/
  warmStart : Bool := false
  roleManager : Bool := false
  roleSource : Bool := false
  roleStrap : Bool := false
  options : List Byte := []
  optionStatus : Nat := 0
  /-- The rename table and the pattern repair map in the option-byte shadow, as the option load copied them from OTP (R22, R129). -/
  rename : List Nat := List.replicate 16 16
  repair : Tbl Nat := []
  milestones : List Nat := List.replicate 7 0
  /-- A dictionary reset request waits: warm, and the PATH that asked (R427). -/
  pendingReset : Option (Bool × Nat) := none
  /-- Blocks whose reset bit is back at 0 but whose clear still runs; block numbers as `Instr.blockResetDone`. -/
  leaving : List Nat := []
  /-- Dictionary engine reset running its 1,024 SVC cycles (Table 17-3). -/
  engineReset : Bool := false
  deriving DecidableEq, Repr

/-- A result or read in flight: the FAB cycle at which it is presented, a port, and the value. -/
structure Flight where
  due : Nat
  port : Nat
  value : Nat
  deriving DecidableEq, Repr

/-- One logical station's registers and pipelines (R58 to R118, R141 to R144). -/
structure Station where
  /-- Macrocell outputs, bit 64p + m (R65). -/
  q : BitVec 2048 := 0
  /-- Crossbar sink registers (Table 4-3). -/
  sinks : BitVec 6389 := 0
  /-- What the station's 64 traverse lines carried in the last cycles, newest first (R88, R177). -/
  lines : List (BitVec 64) := []
  /-- FAB cycle before which values launched on a line towards this station are discarded (R99, R395). -/
  travFrom : Nat := 0
  ssu : List Flight := []
  /-- Result cycles still occupied by a PREFIX (R106). -/
  ssuBusy : Nat := 0
  ssuDrops : Nat := 0
  pat : List Flight := []
  patHeld : BitVec 32 := 0
  hold : List Flight := []
  /-- Read data held at ports 0 to 15, 32 bits each. -/
  holdHeld : BitVec 512 := 0
  snapQ : BitVec 2048 := 0
  snapTrav : BitVec 64 := 0
  snapSsu : BitVec 64 := 0
  snapPat : BitVec 32 := 0
  reserved : Nat := 0
  deriving DecidableEq, Repr

/-- Fabric-wide state (R76 to R93, R108). -/
structure Fabric where
  /-- Registers of the physical stations, by physical number (R20, R21). -/
  stations : Tbl Station := []
  /-- Sectors whose stations hold reset through the datum beat in progress (R54). -/
  holdBeat : List Nat := []
  mailAccepted : Tbl Nat := []
  mailShown : Tbl Nat := []
  snapRot : Tbl Nat := []
  /-- Probe channel values taken in the last 5 cycles, newest first (R76). -/
  probeTaken : List (BitVec 32) := []
  /-- What the channels take in the FAB cycle in progress. -/
  probeNext : BitVec 32 := 0
  logWritten : Nat := 0
  logDropped : Nat := 0
  /-- A log word that found its bank's feeder full or refusing: the unit, and the causes of the refusal (R83, R148). -/
  logDue : Option (Nat × Nat) := none
  reservedMap : BitVec 256 := 0
  ssuDropped : Nat := 0
  deriving DecidableEq, Repr

/-- A ternary pattern entry (R110, R112) with its four parity bits: over VALUE, CARE, TAG and VALID, and the other three, at
bits 0 to 3 (R130). -/
structure PatEntry where
  value : BitVec 144 := 0
  care : BitVec 144 := 0
  tag : BitVec 8 := 0
  valid : Bool := false
  parity : BitVec 4 := 0
  deriving DecidableEq, Repr

/-- One pattern bank's counters, checker and admission state (R120, R130, R131, Table 5-8). -/
structure PatBank where
  searches : Nat := 0
  overCap : Nat := 0
  spacing : Nat := 0
  refused : Nat := 0
  causes : Nat := 0
  parityEntry : Nat := 0
  parityCount : Nat := 0
  passes : Nat := 0
  refusedAddr : Nat := 0
  checkPos : Nat := 0
  /-- Accepted strobes of this beat, and whether the last cycle held one. -/
  accepted : Nat := 0
  lastAccepted : Bool := false
  clearing : Bool := false
  deriving DecidableEq, Repr

/-- Layer states (0x3100 sub 0x02). -/
inductive Layer where
  | off | ramping | clearing | on | notFitted
  deriving DecidableEq, Repr

/-- The pattern layer (R110 to R137). -/
structure Pattern where
  /-- Entries keyed 4096 × physical station + entry number, and the banks by physical station (R20, R21). -/
  entries : Tbl PatEntry := []
  banks : Tbl PatBank := []
  layer : Layer := .on
  /-- Every bank is not on: switched off, ramping, or cleared and waiting for a datum beat (R134). -/
  dark : Bool := false
  /-- VL4 goes off at FENCE_ACK of the layer's fence. -/
  offAtAck : Bool := false
  searches : Nat := 0
  overCap : Nat := 0
  spacing : Nat := 0
  deriving DecidableEq, Repr

/-- Bookmark of a rotation (Table 6-5). -/
structure Bookmark where
  empty : Bool
  addr : Nat
  rot : Nat
  deriving DecidableEq, Repr

/-- What holds a unit's maintenance claim (R161). -/
inductive Claim where
  | none
  | march (preserving : Bool)
  | fill (pattern : Nat)
  | queueReset
  deriving DecidableEq, Repr

/-- A request waiting at a unit's NoC port (R145, R146). -/
structure HoldReq where
  req : ReqId
  /-- 0 row read, 1 row write, 2 word write. -/
  kind : Nat
  /-- First word of the row, or the word. -/
  word : Nat
  data : Nat
  be : Nat
  sched : Bool
  waited : Nat
  starved : Bool
  ecc : List EccClass
  /-- HOLD cycles that a push has waited for space in a full FIFO (R148). -/
  blocked : Nat := 0
  /-- A write that arrived bad: a payload double-bit error, or a CRC failure (R253, R254). -/
  bad : Bool := false
  /-- FAB cycle from which the request is at the unit: it crosses HOLD_NOC until then (R177). -/
  fromTick : Nat := 0
  deriving DecidableEq, Repr

/-- One hold unit's queue controller (R147 to R163). -/
structure HoldUnit where
  head : Nat := 0
  tail : Nat := 0
  fill : Nat := 0
  fillHalf : Nat := 0
  overwrote : Bool := false
  marks : List Bookmark := []
  /-- The open bookmark has seen no producer write yet. -/
  markOpen : Bool := false
  causes : Nat := 0
  march : Nat := 0
  claim : Claim := .none
  disturbed : Bool := false
  marchWaited : Nat := 0
  marchStarved : Bool := false
  /-- HOLD cycles that the march in progress has been granted (R158, R159). -/
  marchStep : Nat := 0
  waiting : List HoldReq := []
  feeder : List Nat := []
  /-- Capture records that wait at the feeder for the row under test, oldest first (R159). -/
  recWait : List (List Byte) := []
  /-- Words written in RING mode since the mode took effect, up to the capacity (R153). -/
  ringWords : Nat := 0
  /-- Words written by others while a fill or a destructive march runs (R159, R161). -/
  touched : List Nat := []
  /-- FAB cycle after the one in which the NoC port was last granted. -/
  grantedTo : Nat := 0
  /-- Unit leaving retention or off: FAB cycle from which it may serve (R409). -/
  servesFrom : Nat := 0
  deriving DecidableEq, Repr

/-- A station's hold counters (Table 6-11). -/
structure HoldCount where
  writesRefused : Nat := 0
  popsRefused : Nat := 0
  collided : Nat := 0
  corrected : Nat := 0
  uncorrectable : Nat := 0
  lastUncorr : Nat := 0
  waited : Nat := 0
  deriving DecidableEq, Repr

/-- Hold memory and queue controllers (R138 to R166). The words themselves are in `State.mem`. -/
structure Hold where
  units : Tbl HoldUnit := []
  counts : Tbl HoldCount := []
  marchFailing : Nat := 0
  lastRefusal : Nat := 0
  corrected : Nat := 0
  uncorrectable : Nat := 0
  /-- Output ring owners: 0 none, 1 image, 2 dictionary; and the sector of an image owner. -/
  owners : List Nat := List.replicate 32 0
  ownerSector : List Nat := List.replicate 32 0
  /-- Queue controller groups in per-block reset whose 16 cycles still run. -/
  resetting : List Nat := []
  /-- FAB cycle from which units may serve after a device-wide power state (R409, R411). -/
  servesFrom : Nat := 0
  /-- Requests that wait at a shaft guard for one of its 64 places, each with its unit, oldest first (R267). -/
  guard : List (Nat × HoldReq) := []
  deriving DecidableEq, Repr

/-- Schedule-contract status (Table 7-9). -/
structure Contract where
  /-- Sectors that the next datum beat would refuse or void (R184). -/
  ahead : Nat := 0
  lmMismatch : Nat := 0
  planMismatch : Nat := 0
  lastRefusal : Nat := 0
  slotMisses : Nat := 0
  lastMiss : Nat := 0
  deriving DecidableEq, Repr

/-- Receive states of a lane group (Table 8-5). -/
inductive Rx where
  | deep | clock | adapt | lock | deskew | up | lost | shallow | fault
  deriving DecidableEq, Repr

/-- What holds a lane group's maintenance claim (R218). -/
inductive LaneClaim where
  | none | eyeScan | adaptation | deepSleep
  deriving DecidableEq, Repr

/-- An eye scan in progress (R215 to R217). -/
structure Scan where
  lanes : Nat := 0
  phMin : Int := 0
  phMax : Int := 0
  phStep : Nat := 1
  vMin : Int := 0
  vMax : Int := 0
  vStep : Nat := 1
  dwell : Nat := 16
  toHold : Bool := false
  bank : Nat := 0
  ph : Int := 0
  v : Int := 0
  /-- 0 idle, 1 running, 2 paused, 3 done, 4 aborted, 5 refused, 6 destination refused. -/
  state : Nat := 0
  written : Nat := 0
  results : List Byte := []
  /-- Bytes waiting to be written to hold banks, and the next row. -/
  outBuf : List Byte := []
  outRow : Nat := 0
  /-- Statuses with which record writes have ended and which the scan has not yet taken (R216). -/
  answers : List Status := []
  deriving DecidableEq, Repr

/-- One lane group (R196 to R225, R231 to R244). -/
structure Group where
  rx : Rx := .deep
  claim : LaneClaim := .none
  adaptAsked : Bool := false
  causes : Nat := 0
  datumSeen : Bool := false
  datumBeat : Nat := 0
  margin : Nat := 0
  marginTrained : Nat := 0
  deskew : List Int := List.replicate 8 0
  delivered : Nat := 0
  replaced : Nat := 0
  crcErrs : Nat := 0
  syncErrs : Nat := 0
  seqErrs : Nat := 0
  coasted : Nat := 0
  lastReplaced : Nat := 0
  underruns : Nat := 0
  lastRefusal : Nat := 0
  trainings : Nat := 0
  scan : Scan := {}
  txSeq : Nat := 0
  /-- Frames of a sleep entry still to send; in deep sleep with the two beats in which the last of them leaves the balls. -/
  sleepFrames : Nat := 0
  /-- The transmit loops relocked and the lanes send idle frames until the next datum beat (R222). -/
  idleToDatum : Bool := false
  /-- Shallow idle: lanes that have shown a valid frame since Active applied. -/
  wake : Nat := 0
  /-- Latency and pads: N_P, N_F0, primitive pad, flash pad (0x3600 sub 0x09). -/
  np : Nat := 0
  nf0 : Nat := 0
  padP : Nat := 0
  padF : Nat := 0
  /-- The relation of the last training is in force: from UP until the next entry to CLOCK or DEEP, or loss (R168, R212). -/
  trained : Bool := false
  /-- A Merig link that has been UP and is not lost since (R240, R241). -/
  linked : Bool := false
  /-- A frame with DATUM = 1 has come since the last datum marker, and the local beat index of the beat that the frame was sent for: the
index of its completion less the beats that the alignment counts for the way (R212, R236). -/
  datumHeard : Bool := false
  datumIndex : Nat := 0
  /-- Serial number of the far end, as training learned it; a frame since the entry to UP has carried another relay word (R514, Table
  9-2). -/
  farSerial : Nat := 0
  farUp : Bool := false
  /-- WNUM of the last frame that a worker's group received, which its own frames echo (Table 9-2). -/
  wnumRx : Nat := 0
  /-- The margin of a frame of the beat in progress left its range (R208). -/
  wander : Bool := false
  /-- Merig control field: KEEPALIVE sent and last received. -/
  keepTx : Nat := 0
  keepRx : Nat := 0
  keepSeen : Bool := false
  /-- CMD = 1 frames still to send (R242). -/
  cmdFrames : Nat := 0
  /-- Carriage: flits sent and not acknowledged, with their sequence number and send count (R238). -/
  carOut : List (Nat × Nat × Flit) := []
  carSeqTx : Nat := 0
  carSeqRx : Nat := 0
  /-- A flit has been accepted since the far end may have started anew: the next one must be in order (R238). -/
  carKnown : Bool := false
  carNak : Bool := false
  carIdle : Nat := 0
  /-- The carriage flit of the block received in the beat in progress, with its sequence number. -/
  carBeatFlit : Option (Nat × Flit) := none
  /-- Place in `carOut` of the next flit to send again. -/
  carNext : Nat := 0
  /-- Beats from a frame's beat to the local beat in which the group completes it, fixed by alignment (R233). -/
  lag : Nat := 0
  /-- Flits waiting to be sent a first time. -/
  carWait : List Flit := []
  /-- Keyed mix: beat counters since key load and key words per direction, `none` before a load (R244, R476). -/
  txKey : Option (BitVec 128) := none
  rxKey : Option (BitVec 128) := none
  txKeyBeats : Nat := 0
  rxKeyBeats : Nat := 0
  /-- The receive key before the last load and its counter at the load, for frames that their sender sent before it. -/
  rxOld : Option (BitVec 128) := none
  rxOldBeats : Nat := 0
  /-- Pending loads: APPLY_ROT and key (R475). -/
  txPending : Option (Nat × BitVec 128) := none
  rxPending : Option (Nat × BitVec 128) := none
  /-- Flash word taken or presented in this beat, for the flash-out pins (R451). -/
  flash : Nat := 0
  flashUntil : Nat := 0
  deriving DecidableEq, Repr

/-- One lane's receive and transmit state (R199, R205 to R208). -/
structure Lane where
  lastSeq : Nat := 0
  seqKnown : Bool := false
  sinceValid : Nat := 0
  /-- Consecutive beats without a valid frame. -/
  bad : Nat := 0
  /-- A frame was classified in the beat in progress. -/
  seen : Bool := false
  /-- Payload delivered in the beat in progress, and the payload as received. -/
  payload : Nat := 0
  raw : Nat := 0
  /-- The beat's frame passed its checks, a DARK frame included; and what its idle code asks: 1 ENTER_SHALLOW, 2 ENTER_DEEP. -/
  good : Bool := false
  idle : Nat := 0
  /-- Consecutive valid frames while the group is in LOCK. -/
  run : Nat := 0
  /-- A frame of a keyed link that waits for the other lanes of its half (R244), and its margin. -/
  waits : Option (BitVec 400) := none
  /-- Word pairs taken from the transmit port in this beat, pair 0 first, and whether any was under reset or no context. -/
  txPairs : List (BitVec 32) := []
  txDark : Bool := false
  /-- Frames formed whose first UI has not left the balls, with the FAB cycle in which it does (R169). -/
  txWait : List (Nat × Option (BitVec 400)) := []
  /-- Frame on the balls: UI k at bit k; `none` where the lane sends nothing. -/
  txFrame : Option (BitVec 400) := none
  deriving DecidableEq, Repr

/-- Lane groups and lanes (R196 to R225). -/
structure Lanes where
  groups : Tbl Group := []
  lanes : Tbl Lane := []
  /-- Word pairs to be presented at lane receive ports (R206): due cycle, lane, pair. -/
  rxq : List Flight := []
  /-- Pairs of Merig frames that have not completed, as they come in the FAB cycle in progress (R230, R232). -/
  early : List EarlyPair := []
  replaced : Nat := 0
  /-- Capture records of the last beat, on their way to the rings (R155): group, bytes. -/
  records : List (Nat × List Byte) := []
  deriving DecidableEq, Repr

/-- A worker as its manager sees it (Table 9-9). -/
structure Worker where
  state : Nat := 0          -- Table 9-4
  before : Nat := 0         -- state it entered TRAINING from
  serial : Nat := 0
  dstate : Nat := 0
  darkEntries : Nat := 0
  lastDark : Nat := 0
  resetSent : Bool := false -- a remote reset order was sent (cause 2)
  resetUntil : Nat := 0     -- FAB cycle until which a loss of every link counts as that reset's
  target : Nat := 0
  relayData : List Byte := []
  relayAbort : Nat := 0
  relayOpen : Option (Path × Bool) := none
  relayTxn : Nat := 0
  /-- RELAY words still to send to the worker. -/
  relayOut : List Nat := []
  deriving DecidableEq, Repr

/-- Merig links and the hierarchy (R226 to R248). -/
structure Merig where
  own : Nat := 0            -- R241
  wnum : Nat := 0xFF
  flashes : List Nat := List.replicate 8 0
  flashClasses : Nat := 0   -- classes counted in this beat
  suppressed : Nat := 0
  resends : Nat := 0
  dropped : Nat := 0
  chain : List Nat := List.replicate 32 0
  chainRunning : Bool := false
  chainWorkers : Nat := 0
  /-- LENGTH and ADDR of the chain load that runs, or ran last (R246, Table 9-6). -/
  chainLength : Nat := 0
  chainAddr : Nat := 0
  workers : Tbl Worker := []
  /-- A worker has aligned and waits for the frame that carries its manager's counter (R236). -/
  adoptDue : Bool := false
  /-- RELAY words a worker still has to send. -/
  relayOut : List Nat := []
  /-- A worker resumes at the next datum beat (R241). -/
  resumeAtDatum : Bool := false
  /-- A worker has received CMD = 1 in a good frame and has not acted on it (R242). -/
  cmdDue : Bool := false
  /-- Renumbering waiting for the next beat edge: beat index and counter (R510). -/
  renumber : Option (Nat × Nat) := none
  deriving DecidableEq, Repr

/-- A best-effort transaction without an end yet (R258, R259). -/
structure Txn where
  req : ReqId
  addr : Nat
  write : Bool
  /-- Bytes asked for or written, and the data of a write that its requester posted. -/
  size : Nat := 64
  data : Nat := 0
  /-- The request is past its first router, or is answered there (R265); a posted one has not yet been sent. -/
  entered : Bool := true
  /-- NOC cycle from which the request is at its router: it crosses KEEP_NOC until then (R177). -/
  fromCycle : Nat := 0
  /-- Posted while the domain of its requester was fenced: it is not issued before the fence is lifted (R265). -/
  held : Bool := false
  deriving DecidableEq, Repr

/-- An answer on its way to its requester (R252, R255). -/
structure NocAnswer where
  req : ReqId
  status : Status
  data : Line
  deriving DecidableEq, Repr

/-- A completion record (Table 10-9a) as its 128-bit number, and a queued descriptor. -/
structure MoveEngine where
  queue : List Line := []
  records : List Nat := List.replicate 16 0
  deriving DecidableEq, Repr

/-- A flit waiting at a router input (R256). -/
structure RouterFlit where
  router : Nat
  input : Nat
  output : Nat
  flit : Flit
  waited : Nat
  /-- What the array of a memory that it reaches will find. -/
  err : EccClass := .clean
  /-- On its way: the NOC cycle, as `State.nocCycle` counts, in which it can leave the router or is accepted by the attachment
  behind output `output` of the last router (R186). -/
  due : Nat := 0
  /-- Its transaction has ended without it (R258, R266). -/
  stale : Bool := false
  deriving DecidableEq, Repr

/-- An access that its attachment has accepted and that is not yet performed: it crosses into its target's domain until NOC cycle `due`
(R395), or waits for a free slot of the pool (R311). Scheduled data has no requester. -/
structure Entering where
  req : Option ReqId
  flit : Flit
  due : Nat := 0
  /-- Its size and alignment are those the target accepts. -/
  legal : Bool := true
  /-- What the array of the memory will find. -/
  err : EccClass := .clean
  deriving DecidableEq, Repr

/-- The on-chip network (R249 to R273). -/
structure Noc where
  corrections : Tbl Nat := []
  discarded : Nat := 0
  poisoned : Nat := 0
  e2eFails : Nat := 0
  timedOut : Nat := 0
  late : Nat := 0
  peakTags : Nat := 0
  schedDiscarded : Nat := 0
  deviceFence : BitVec 101 := 0
  hostFence : BitVec 101 := 0
  /-- Fence states (0x3700 sub 0x12). -/
  fenceState : Tbl Nat := []
  txns : List Txn := []
  /-- Answers that wait for their way back, in the order in which their targets gave them; one whose tag is stale answers a transaction
  that has ended without it (R258). -/
  answers : List NocAnswer := []
  /-- Transactions that ended without their answer while their request was with a worker, by request and address: the worker's answer
  will be discarded as late (R258). -/
  orphans : List (ReqId × Nat) := []
  /-- Accesses of moves whose requests were sent to a worker: the worker's answer has been given with the move (R269). -/
  absorb : List (ReqId × Nat) := []
  /-- Accesses accepted by their attachments and not yet performed. -/
  atTarget : List Entering := []
  /-- Requests of which a router corrected a flit on the way (R255). -/
  pathCorrected : List ReqId := []
  /-- Best-effort flits waiting at router outputs (R256). -/
  waiting : List RouterFlit := []
  /-- Flits on their way: the router and input at which each is offered next, or, with an output from 4 on, the attachment that it
  leaves to (R186). -/
  flying : List RouterFlit := []
  /-- Responses that cross an asynchronous HOLD_NOC or KEEP_NOC boundary, with the NOC cycle until which they do (R177). -/
  crossing : List (ReqId × Nat) := []
  /-- The last flit that each router output sent, keyed 16 × router + output. -/
  sent : Tbl (Option Flit) := []
  /-- NOC cycles of the beat in progress and later ones in which each output has granted its link, as `State.nocCycle` counts. -/
  granted : Tbl (List Nat) := []
  movers : List MoveEngine := List.replicate 4 {}
  deriving DecidableEq, Repr

/-- Channel states (Table 11-4). -/
inductive ChState where
  | off | training | ready | selfRefresh | retraining | faulty | none
  deriving DecidableEq, Repr

/-- What holds a channel's maintenance claim (R292). -/
inductive ChClaim where
  | none | retraining | rfm | rescramble
  deriving DecidableEq, Repr

/-- A stored sub-burst: scrambled data, epoch and poison (R278, Table 11-3). -/
structure SubBurst where
  data : BitVec 256
  epoch : Nat
  poison : Bool
  deriving DecidableEq, Repr

/-- A request held by a DRAM controller (R284, R290): request, address, write data. -/
structure DramReq where
  req : ReqId
  addr : Nat
  /-- 0 read, 1 line write, 2 word write. -/
  kind : Nat
  data : Nat
  be : Nat
  bad : Bool
  /-- What the check of its sub-bursts A and B will find. -/
  errA : NibbleErr := .clean
  errB : NibbleErr := .clean
  /-- Its place in the order in which the controller received requests and archive flits (R284). -/
  arrived : Nat := 0
  deriving DecidableEq, Repr

/-- A command that a controller issues to its memory (R285, R287). -/
inductive DramCommand where
  | activate (bank row : Nat)
  | access (off : Nat)
  | precharge (bank : Nat)
  | refresh (bank : Nat)
  /-- The refresh-management command. -/
  | manage (bank : Nat)
  deriving DecidableEq, Repr

/-- What the sub-bursts of a channel that no entry lists hold: what power-on left, what a per-block reset left, what a sweep
rewrote under an epoch, or the zeros of an initialise (R289, R304, R430). -/
inductive DramBase where
  | powerOn
  | lost (gen : Nat)
  /-- What a sweep makes of older contents: read with the keys held then, rewritten under an epoch and its key. The interleave code and the
  capacity in force then give the addresses. -/
  | swept (epoch : Nat) (key : BitVec 128) (keys : Tbl (Option (BitVec 128))) (ilv cap : Nat) (old : DramBase)
  /-- Zeros written by an initialise under an epoch and its key. -/
  | zeroed (epoch : Nat) (key : BitVec 128) (ilv cap : Nat)
  /-- Offsets below a bound hold the first, the others the second. -/
  | mixed (bound : Nat) (low high : DramBase)
  deriving DecidableEq, Repr

/-- An archive flit in a channel's buffer (R294). -/
structure ArchiveFlit where
  addr : Nat
  data : Line
  poison : Bool
  /-- 64 for a flit; 16 for an index record that waits for its controller (R296). -/
  size : Nat := 64
  arrived : Nat := 0
  deriving DecidableEq, Repr

/-- One DRAM channel (R274 to R292). -/
structure Channel where
  state : ChState := .off
  causes : Nat := 0
  corrected : Nat := 0
  uncorrectable : Nat := 0
  epochErrs : Nat := 0
  poisoned : Nat := 0
  lastError : Nat := 0
  alerts : Nat := 0
  replays : Nat := 0
  rfmIssued : Nat := 0
  refreshes : Nat := 0
  linesDone : Nat := 0
  linesPoisoned : Nat := 0
  /-- Lines that the sweep or initialise in progress has written (R289). -/
  sweepPos : Nat := 0
  /-- Lines from 0 that a sweep has written under an epoch which a rekey or a security response has since left (R283). -/
  resweep : Nat := 0
  epoch : Nat := 0
  tagMap : Nat := 0xFFFF
  lastRefusal : Nat := 0
  trainings : Nat := 0
  claim : ChClaim := .none
  initialising : Bool := false
  keys : Tbl (Option (BitVec 128)) := []
  /-- No current key after a security response with a full tag map (R471). -/
  noKey : Bool := false
  /-- The initialise of a channel that held no key runs (R471). -/
  opening : Bool := false
  /-- Waiting for its first key after a failed health test (R477). -/
  waitsEntropy : Bool := false
  lfsr : Nat := 1
  /-- Banks owed a refresh-management command before their next ACT (R285). -/
  rfmOwed : List Nat := []
  openRows : Tbl Nat := []
  /-- FAB cycle, plus 1, of the last access to each bank (R284). -/
  rowUsed : Tbl Nat := []
  /-- The retry buffer: the last 32 commands, oldest first (R287). -/
  retry : List DramCommand := []
  held : List DramReq := []
  /-- Requests that found all 1,024 tags in use: they wait at the router input (R257, R284). -/
  queued : List DramReq := []
  /-- What the unlisted sub-bursts hold. -/
  base : DramBase := .powerOn
  buffer : List ArchiveFlit := []
  /-- Requests and archive flits received (R284). -/
  arrivals : Nat := 0
  deriving DecidableEq, Repr

/-- A segment of an archive stream (R296 to R298). -/
structure Segment where
  rot : Nat
  start : Nat
  bytes : Nat
  classes : Nat
  pinned : Bool
  coast : Bool
  adrift : Bool
  recorded : Bool
  deriving DecidableEq, Repr

/-- One archive stream (R293 to R302, Table 11-8). -/
structure Stream where
  wp : Nat := 0
  rel : Nat := 0
  records : Nat := 0
  sent : Nat := 0
  stopped : Bool := false
  frozen : Bool := false
  full : Bool := false
  fullRaised : Bool := false
  active : Bool := false
  /-- Segments not yet released, oldest first; the last one is the rotation in progress. -/
  segs : List Segment := []
  /-- Rotations still to pin by a later segment, from PIN_FWD of a past flash. -/
  pinUntil : Nat := 0
  deriving DecidableEq, Repr

/-- The LPDDR6 archive (R274 to R306). -/
structure Dram where
  channels : Tbl Channel := []
  streams : Tbl Stream := []
  /-- Stored sub-bursts, keyed channel × 2^33 + offset / 32; an unwritten one holds what power-on left. -/
  cells : Tbl (Option SubBurst) := []
  deriving DecidableEq, Repr

/-- Core states (Table 12-7). -/
inductive Core where
  | stopped | waiting | running | roundWait | halted | faulted
  deriving DecidableEq, Repr

/-- One NoC tag of a core (R317 to R319). -/
structure Tag where
  number : Nat
  read : Bool
  landing : Nat
  ended : Option Status
  abandoned : Bool
  /-- Words of the landing line, by bit, that the core has stored to since posting (R319). -/
  stored : Nat := 0
  /-- The landing line as it was before the read landed (R319). -/
  before : Nat := 0
  /-- Drained after the core's fault: freed at the acknowledgement of its fence (R329). -/
  draining : Bool := false
  deriving DecidableEq, Repr

/-- A waiting instruction (R318, R321). -/
inductive Wait where
  | none
  | nwait (kd tag : Nat)
  | wbeat (kd beat : Nat)
  deriving DecidableEq, Repr

/-- One Keeper core (R307 to R330). -/
structure Keeper where
  regs : Tbl (BitVec 64) := []
  pc : Nat := 0
  state : Core := .stopped
  wait : Wait := .none
  /-- KEEP cycle, counted since the root dividers started, at which the next instruction issues (R307). -/
  cycle : Nat := 0
  /-- KEEP cycle, plus 1, of the slot that serves the core's last pool access (R311). -/
  poolSlot : Nat := 0
  /-- Cycles a waiting NWAIT waits at most. -/
  waitLimit : Nat := 0
  /-- Sequential execution left 65,535: the PC_RANGE fault is due with this word (R316). -/
  pcOver : Bool := false
  datumPending : Bool := false
  overruns : Nat := 0
  late : Bool := false
  tagsOut : Bool := false
  mboxOvf : Bool := false
  mailbox : List Nat := []
  emcy : List Emcy := []
  tags : List Tag := []
  faultRecord : Nat := 0
  faultAddr : Nat := 0
  overrunCount : Nat := 0
  watchdogs : Nat := 0
  mboxDrops : Nat := 0
  lastRound : Nat := 0
  longestRound : Nat := 0
  rounds : Nat := 0
  emcyDrops : Nat := 0
  corrected : Nat := 0
  lastEvpost : Nat := 0
  lateRounds : Nat := 0
  deriving DecidableEq, Repr

/-- Region states (R385). -/
inductive Region where
  | empty | loading | valid | faulty | failed
  deriving DecidableEq, Repr

/-- Load states (Table 14-8). -/
inductive Load where
  | idle | header | frames | signature | checking | done | failed
  deriving DecidableEq, Repr

/-- A background or requested scrub position: slot, sector and frame number in address order (R378, R513). -/
structure ScrubPos where
  region : Nat := 0
  frame : Nat := 0
  deriving DecidableEq, Repr

/-- Configuration storage, loading and scrubbing (R362 to R386). -/
structure Cfg where
  /-- Survey port instruction code in force (Table 14-1). -/
  tap : Nat := 1
  splice : Option Nat := none
  /-- Data register of the instruction in force, as captured or read. -/
  tdr : Nat := 0
  /-- Draw that the boundary-scan register's contents come from (R362). -/
  boundary : Nat := 0
  probeChannel : Nat := 0
  /-- What the instruction register captured at the last scan and shifts out (R362). -/
  irOut : Nat := 0
  /-- The 1-bit register between TDI and TDO, and the bits that the last Shift-DR put on TDO (R369). -/
  pass : Bool := false
  tdo : List Bool := []
  /-- The last bytes on the wide pins that a spliced chain's wide port has still to show, and those that it showed last (R363). -/
  twd : List Byte := []
  chainWide : List Byte := []
  load : Load := .idle
  error : Nat := 0
  mask : Nat := 0
  slot : Nat := 0
  bytes : Nat := 0
  /-- An Update-IR selected CFG_LOAD or CFG_WIDE since the last load took its last byte (R368). -/
  armed : Bool := false
  header : List Byte := List.replicate 64 0
  framesSeen : Nat := 0
  /-- Bytes taken so far since the image's first, for the CRC and digest. -/
  stream : List Byte := []
  /-- TDI bits that do not yet make a byte, and bytes that do not yet make a header, frame, trailer or signature block (R369). -/
  bits : List Bool := []
  partBytes : List Byte := []
  cleared : Bool := false
  buffered : List (Nat × Nat) := []
  /-- The signature block taken (Table 14-6). -/
  sigBlock : List Byte := []
  /-- Frames stored: slot × 2^32 + frame address → 2,560-bit payload. -/
  frames : Tbl Nat := []
  /-- Upset bits per stored frame, same key: bits that read flipped until corrected (R379). -/
  upsets : Tbl Nat := []
  /-- Check bits and CRC of stored frames, same key (R371). -/
  checks : Tbl Nat := []
  regions : Tbl Region := []
  contracts : Tbl Nat := []
  digests : Tbl Nat := []
  loads : Nat := 0
  fails : Nat := 0
  passesA : Nat := 0
  passesB : Nat := 0
  corrected : Nat := 0
  uncorrectable : Nat := 0
  lastError : Nat := 0
  peer : Nat := 0
  lastRefusal : Nat := 0
  /-- Positions of scrubbers A and B, and of a scrub request in each half. -/
  posA : ScrubPos := {}
  posB : ScrubPos := {}
  request : Option Nat := none
  reqA : Option ScrubPos := none
  reqB : Option ScrubPos := none
  turnA : Bool := false
  turnB : Bool := false
  /-- The pass after a warm reset is still to end (R383), per scrubber. -/
  warmPassA : Bool := false
  warmPassB : Bool := false
  deriving DecidableEq, Repr

/-- Lantern states (Table 15-6). -/
inductive Lantern where
  | off | locking | locked | coast | relock | align
  deriving DecidableEq, Repr

/-- Clocks (R387 to R405). -/
structure Clocks where
  lantern : Lantern := .off
  xoGood : Bool := false
  refGood : Bool := false
  aonFallback : Bool := false
  daymark : Bool := false
  memLock : Bool := false
  memHoldover : Bool := false
  xoCount : Nat := 0
  refCount : Nat := 0
  refDev : Int := 0
  xoPasses : Nat := 0
  xoWindows : Nat := 0
  refPasses : Nat := 0
  /-- The window in progress holds a missing edge (R397). -/
  refTainted : Bool := false
  coasts : Nat := 0
  coastBeats : Nat := 0
  loops : BitVec 64 := 0
  causes : Nat := 0
  enteredService : Bool := false
  /-- A warm reset's return of the crossing-mode word to 0 waits for the first datum beat (R398). -/
  crossClear : Bool := false
  /-- Crossing points, by bit of the crossing-mode word and number, that still hold a transfer of the mode before the last change of the
  word: it changes when the transfer ends (R395). -/
  crossOld : List (Nat × Nat) := []
  deriving DecidableEq, Repr

/-- Power and thermal management (R406 to R425). -/
structure Power where
  state : Nat := 0          -- power state in force: 0 to 3
  transition : Nat := 0     -- 4 while entering, 5 while exiting, else 0
  regOn : Nat := 0
  regFault : Nat := 0
  rails : List Byte := List.replicate 16 0
  regFaults : Nat := 0
  readings : Tbl Int := []
  estimates : Tbl Int := []
  broken : BitVec 128 := 0
  /-- Samples of each layer's sensors, newest first: the sensor and its reading (R415). -/
  samples : Tbl (List (Nat × Int)) := []
  lowRuns : Tbl Nat := []
  thermal : Nat := 0        -- Table 16-5
  /-- Sectors whose VL3 domain is off; sectors ramping; sectors that may run at the next datum beat. -/
  vl3Off : List Nat := []
  ramping : List Nat := []
  restart : List Nat := []
  pgLow : Tbl Nat := []
  /-- Failures in a row of transaction `i` of an entry's poll, keyed 4 × entry + i (R423). -/
  busFails : Tbl Nat := []
  pmbusStatus : Tbl Nat := []
  pmbusFaults : Tbl Nat := []
  nextPoll : Option Nat := none
  /-- The entry polled last in the ascending order; 32 before the first (R423). -/
  pollPos : Nat := 32
  /-- Enabled entries whose VOUT_MODE has been read, by bit (Table 16-7). -/
  voutRead : Nat := 0
  operationOff : List Nat := []
  nvmPending : Nat := 0
  /-- The option image held while its NVM write is pending (R421). -/
  nvmImage : List Byte := []
  deriving DecidableEq, Repr

/-- One pin watch (R457 to R459). -/
structure PinWatch where
  vec : Nat := 0
  prev : Nat := 0
  fresh : Bool := true
  armed : Bool := false
  /-- Beats since the arming beat. -/
  since : Nat := 0
  fires : Nat := 0
  rot : Nat := 0
  beat : Nat := 0
  /-- The vector of this beat has been looked at by a match step. -/
  judged : Bool := false
  deriving DecidableEq, Repr

/-- Pins (R441 to R461). -/
structure Pins where
  /-- Mux words in force, 16 bits per pin, and those of before the datum beat in progress (R448). -/
  muxBefore : Nat := 0
  changing : Bool := false
  outLevels : BitVec 96 := 0
  /-- Levels the outside leaves on the balls, and the balls that nothing outside drives. -/
  ext : BitVec 96 := 0
  floating : BitVec 96 := 0
  /-- Levels the device drives, and which balls it drives. -/
  drive : BitVec 96 := 0
  driven : BitVec 96 := 0
  classes : List Nat := List.replicate 6 0
  conflicts : Nat := 0
  busyLatch : Bool := false
  busyShown : Bool := true
  stopLatch : Bool := false
  beacon : Bool := false
  /-- The datum-marker pin is new: its sample of this beat serves only as the previous one (R451). -/
  markerFresh : Bool := false
  sleeping : Bool := false
  /-- Pins whose output keeps its level through the datum beat in progress (R448). -/
  frozen : BitVec 96 := 0
  held : BitVec 96 := 0
  heldDriven : BitVec 96 := 0
  /-- Levels that the device drove in the last FAB cycle that has ended, and which balls it drove (R448, R456). -/
  lastDrive : BitVec 96 := 0
  lastDriven : BitVec 96 := 0
  /-- Samples of the datum-marker pin at the edges that opened this beat and the one before it (R451). -/
  markerNow : Bool := false
  markerPrev : Bool := false
  /-- Output registers of the last two FAB cycles (R447), newest first: the GPIO pins and BEACON. -/
  pipe : List (BitVec 96 × Bool) := []
  /-- OR of each pin's level over the beat in progress and over the previous beat (FUNC 10, R457). -/
  pulse : BitVec 96 := 0
  pulsePrev : BitVec 96 := 0
  watches : List PinWatch := List.replicate 8 {}
  conTx : List (List Byte) := [[], [], [], []]
  conRx : List (List Byte) := [[], [], [], []]
  conDrops : List Nat := [0, 0, 0, 0]
  /-- Progress of the byte that each console transmits, in beat-rate units (R455). -/
  conAcc : List Nat := [0, 0, 0, 0]
  /-- Levels of SCL and SDA that the PMBus master has yet to drive, on the dedicated pins and on the mirror, a released line being high; the
  first is driven now, and none is left when the bus idles (R422, R454). -/
  pmWave : List (Bool × Bool) := []
  /-- Progress of the step of the bus in force, in beat-rate units. -/
  pmAcc : Nat := 0
  deriving DecidableEq, Repr

/-- Security and life cycle (R462 to R480). -/
structure Security where
  life : Nat := 1
  nonce : List Byte := List.replicate 32 0
  attState : Nat := 0
  report : List Byte := []
  attNonce : List Byte := []
  attRot : Nat := 0
  causes : Nat := 0
  alarms : Nat := 0
  sramWiping : Bool := false
  lcPending : Bool := false
  deriving DecidableEq, Repr

/-- The state of the block. -/
structure State where
  part : Part := {}
  nvm : Nvm := {}
  backup : Backup := {}
  rst : Reset := {}
  time : Time := {}
  dev : Dev := .service
  /-- Values of the writable dictionary objects, keyed index × 256 + sub, little-endian (R333). -/
  dict : Tbl Nat := []
  stg : Staging := {}
  eng : Engine := {}
  can : Can := {}
  ev : Events := {}
  fab : Fabric := {}
  pat : Pattern := {}
  hold : Hold := {}
  con : Contract := {}
  lan : Lanes := {}
  mer : Merig := {}
  noc : Noc := {}
  dram : Dram := {}
  keep : Tbl Keeper := []
  cfg : Cfg := {}
  clk : Clocks := {}
  pwr : Power := {}
  pins : Pins := {}
  sec : Security := {}
  /-- Bytes of hold memory, Keeper stores, the pool and the secure SRAM by NoC address. -/
  mem : List Host.Cell := []
  /-- Warm resets since hold memory was last cleared: its contents are open when this is not 0 (R163). -/
  memGen : Nat := 0
  /-- Cold resets: DRAM contents are open after each (R304). -/
  dramGen : Nat := 0
  /-- The model's own: how many free values have been drawn. -/
  freeCtr : Nat := 0
  /-- Commands waiting, first in, first out. -/
  pending : List Instr := []
  deriving DecidableEq, Repr

/-- The machine right after reset: power-on reset is held (step 1 of Table 17-6), every register at its Default and every
queue empty. -/
def State.reset : State := {}

end Sys2Proof.Machine
end

