-- ==== Sys2Proof/Machine/Objects.lean ====
section
/-! DEFINITION. The object dictionary's table of objects: index, sub-index, length, access code and apply class of every
object, the defaults of the writable ones, and access to their stored values (R7 to R10, R359). -/

namespace Sys2Proof.Machine

/-- Access codes (Table 0-5). -/
inductive Acc where
  | ro | rw | wo | w1c | rws
  deriving DecidableEq, Repr

/-- Apply classes (R9); `fixed` for an object that is only read. -/
inductive Cls where
  | fixed | now | boundary | reset | service
  deriving DecidableEq, Repr

/-- Objects at indices `lo` to `lo + n − 1` and sub-indices `sub` to `sub + subN − 1`, each of `len` bytes (0: of varying
length). -/
structure ObjRow where
  lo : Nat
  n : Nat
  sub : Nat
  subN : Nat
  len : Nat
  acc : Acc
  cls : Cls
  deriving DecidableEq, Repr

/-- Objects of Table 13-15. -/
def rowsCommunication : List ObjRow := [
    ⟨0x1000, 1, 0x0, 1, 4, .ro, .fixed⟩, ⟨0x1001, 1, 0x0, 1, 1, .ro, .fixed⟩, ⟨0x1003, 1, 0x0, 1, 1, .rw, .now⟩,
    ⟨0x1003, 1, 0x1, 8, 4, .ro, .fixed⟩, ⟨0x1008, 1, 0x0, 1, 10, .ro, .fixed⟩, ⟨0x1009, 1, 0x0, 1, 0, .ro, .fixed⟩,
    ⟨0x1014, 1, 0x0, 1, 4, .ro, .fixed⟩, ⟨0x1015, 1, 0x0, 1, 2, .rw, .now⟩, ⟨0x1016, 1, 0x0, 1, 1, .ro, .fixed⟩,
    ⟨0x1016, 1, 0x1, 8, 4, .rw, .now⟩, ⟨0x1017, 1, 0x0, 1, 2, .rw, .now⟩, ⟨0x1018, 1, 0x0, 1, 1, .ro, .fixed⟩,
    ⟨0x1018, 1, 0x1, 4, 4, .ro, .fixed⟩, ⟨0x1F80, 1, 0x0, 1, 4, .rw, .now⟩, ⟨0x1F82, 1, 0x0, 1, 1, .wo, .now⟩,
    ⟨0x1F83, 1, 0x0, 1, 1, .ro, .fixed⟩, ⟨0x1F83, 1, 0x1, 2, 1, .ro, .fixed⟩, ⟨0x1F83, 1, 0x3, 7, 4, .ro, .fixed⟩,
    ⟨0x1F83, 1, 0xA, 1, 2, .ro, .fixed⟩, ⟨0x1F83, 1, 0xB, 1, 1, .ro, .fixed⟩]

/-- Objects of Table 1-4. -/
def rowsIdentity : List ObjRow := [
    ⟨0x2000, 1, 0x1, 1, 0, .ro, .fixed⟩, ⟨0x2000, 1, 0x2, 1, 2, .ro, .fixed⟩, ⟨0x2000, 1, 0x3, 2, 1, .ro, .fixed⟩,
    ⟨0x2000, 1, 0x5, 1, 32, .ro, .fixed⟩, ⟨0x2000, 1, 0x6, 1, 2, .ro, .fixed⟩, ⟨0x2000, 1, 0x7, 1, 16, .ro, .fixed⟩,
    ⟨0x2000, 1, 0x8, 1, 260, .ro, .fixed⟩, ⟨0x2000, 1, 0x9, 1, 8, .ro, .fixed⟩, ⟨0x2000, 1, 0xA, 4, 1, .ro, .fixed⟩]

/-- Objects of Table 2-9. -/
def rowsRotation : List ObjRow := [
    ⟨0x2000, 1, 0x10, 1, 2, .rws, .boundary⟩, ⟨0x2000, 1, 0x11, 1, 1, .rws, .boundary⟩, ⟨0x2000, 1, 0x12, 1, 8, .ro, .fixed⟩,
    ⟨0x2000, 1, 0x13, 1, 2, .ro, .fixed⟩, ⟨0x2000, 1, 0x14, 1, 1, .rws, .boundary⟩, ⟨0x2000, 1, 0x15, 1, 1, .ro, .fixed⟩,
    ⟨0x2000, 1, 0x16, 1, 16, .rws, .boundary⟩, ⟨0x2000, 1, 0x17, 1, 16, .ro, .fixed⟩, ⟨0x2000, 1, 0x18, 2, 4, .ro, .fixed⟩,
    ⟨0x2000, 1, 0x1A, 1, 2, .ro, .fixed⟩, ⟨0x2000, 1, 0x1B, 1, 320, .ro, .fixed⟩, ⟨0x2000, 1, 0x1C, 4, 4, .ro, .fixed⟩,
    ⟨0x2000, 1, 0x20, 1, 16, .ro, .fixed⟩, ⟨0x2000, 1, 0x21, 1, 8, .ro, .fixed⟩]

/-- Objects of Table 15-8. -/
def rowsClock : List ObjRow := [
    ⟨0x2100, 1, 0x1, 1, 4, .rw, .service⟩, ⟨0x2100, 1, 0x2, 1, 1, .rw, .service⟩, ⟨0x2100, 1, 0x3, 1, 2, .rw, .service⟩,
    ⟨0x2100, 1, 0x4, 1, 2, .rws, .boundary⟩, ⟨0x2100, 1, 0x5, 1, 2, .rw, .now⟩, ⟨0x2100, 1, 0x6, 1, 2, .ro, .fixed⟩,
    ⟨0x2100, 1, 0x7, 1, 1, .ro, .fixed⟩, ⟨0x2100, 1, 0x8, 4, 4, .ro, .fixed⟩, ⟨0x2100, 1, 0xC, 2, 8, .ro, .fixed⟩,
    ⟨0x2100, 1, 0xE, 1, 2, .w1c, .now⟩]

/-- Objects of Table 17-7. -/
def rowsReset : List ObjRow := [
    ⟨0x2200, 1, 0x1, 1, 1, .wo, .now⟩, ⟨0x2200, 1, 0x2, 1, 32, .rw, .now⟩, ⟨0x2200, 1, 0x3, 1, 4, .rw, .now⟩,
    ⟨0x2200, 1, 0x4, 1, 2, .rw, .now⟩, ⟨0x2200, 1, 0x5, 1, 1, .rw, .now⟩, ⟨0x2200, 1, 0x6, 1, 32, .rw, .now⟩,
    ⟨0x2200, 1, 0x7, 1, 33, .rw, .now⟩, ⟨0x2200, 1, 0x8, 1, 1, .wo, .now⟩, ⟨0x2200, 1, 0x9, 1, 4, .ro, .fixed⟩,
    ⟨0x2200, 1, 0xA, 1, 128, .ro, .fixed⟩, ⟨0x2200, 1, 0xB, 1, 28, .ro, .fixed⟩, ⟨0x2200, 1, 0x10, 2, 512, .ro, .fixed⟩,
    ⟨0x2200, 1, 0x12, 1, 508, .wo, .service⟩, ⟨0x2200, 1, 0x13, 1, 1, .ro, .fixed⟩, ⟨0x2200, 1, 0x14, 1, 512, .ro, .fixed⟩,
    ⟨0x2200, 1, 0x15, 1, 1, .w1c, .now⟩]

/-- Objects of Table 16-9. -/
def rowsPower : List ObjRow := [
    ⟨0x2300, 1, 0x1, 1, 1, .rws, .boundary⟩, ⟨0x2300, 1, 0x2, 1, 1, .ro, .fixed⟩, ⟨0x2300, 1, 0x3, 1, 2, .rws, .boundary⟩,
    ⟨0x2300, 1, 0x4, 1, 1040, .rws, .boundary⟩, ⟨0x2300, 1, 0x5, 1, 1, .ro, .fixed⟩, ⟨0x2300, 1, 0x6, 1, 16, .ro, .fixed⟩,
    ⟨0x2300, 1, 0x7, 1, 4, .ro, .fixed⟩, ⟨0x2300, 1, 0x10, 2, 1, .rws, .boundary⟩, ⟨0x2300, 1, 0x12, 1, 1, .ro, .fixed⟩,
    ⟨0x2300, 1, 0x13, 1, 16, .rw, .now⟩, ⟨0x2300, 1, 0x14, 1, 256, .ro, .fixed⟩, ⟨0x2300, 1, 0x15, 1, 10, .ro, .fixed⟩,
    ⟨0x2300, 1, 0x16, 1, 32, .ro, .fixed⟩, ⟨0x2300, 1, 0x17, 1, 16, .w1c, .now⟩, ⟨0x2300, 1, 0x18, 1, 1, .ro, .fixed⟩,
    ⟨0x2300, 1, 0x19, 1, 2, .rw, .service⟩, ⟨0x2300, 1, 0x1A, 1, 32, .ro, .fixed⟩, ⟨0x2300, 1, 0x1B, 1, 4, .ro, .fixed⟩,
    ⟨0x2300, 1, 0x30, 1, 2, .rw, .now⟩, ⟨0x2300, 1, 0x31, 1, 256, .rw, .now⟩, ⟨0x2300, 1, 0x32, 1, 64, .ro, .fixed⟩,
    ⟨0x2300, 1, 0x33, 1, 128, .ro, .fixed⟩, ⟨0x2300, 1, 0x40, 1, 4, .ro, .fixed⟩]

/-- Objects of Table 18-7. -/
def rowsPin : List ObjRow := [
    ⟨0x2400, 1, 0x1, 1, 192, .rws, .boundary⟩, ⟨0x2400, 1, 0x2, 1, 192, .ro, .fixed⟩, ⟨0x2400, 1, 0x3, 1, 12, .rw, .now⟩,
    ⟨0x2400, 1, 0x4, 1, 12, .ro, .fixed⟩, ⟨0x2400, 1, 0x5, 1, 6, .ro, .fixed⟩, ⟨0x2400, 1, 0x6, 1, 1, .ro, .fixed⟩,
    ⟨0x2400, 1, 0x7, 2, 1, .w1c, .now⟩, ⟨0x2400, 1, 0x10, 8, 32, .rws, .boundary⟩, ⟨0x2400, 1, 0x18, 1, 128, .ro, .fixed⟩,
    ⟨0x2400, 1, 0x20, 1, 1, .rw, .service⟩, ⟨0x2400, 1, 0x21, 4, 0, .wo, .now⟩, ⟨0x2400, 1, 0x25, 4, 0, .ro, .fixed⟩,
    ⟨0x2400, 1, 0x29, 1, 16, .ro, .fixed⟩]

/-- Objects of Table 20-11. -/
def rowsEvent : List ObjRow := [
    ⟨0x2500, 1, 0x1, 1, 3072, .rw, .now⟩, ⟨0x2500, 1, 0x2, 1, 3072, .ro, .fixed⟩, ⟨0x2500, 1, 0x3, 1, 4, .wo, .now⟩,
    ⟨0x2500, 1, 0x4, 1, 8, .ro, .fixed⟩, ⟨0x2500, 1, 0x5, 1, 1024, .ro, .fixed⟩, ⟨0x2500, 1, 0x6, 1, 1, .wo, .now⟩,
    ⟨0x2500, 1, 0x7, 1, 8, .ro, .fixed⟩, ⟨0x2500, 1, 0x10, 8, 8, .rws, .boundary⟩, ⟨0x2500, 1, 0x18, 1, 8, .rw, .now⟩,
    ⟨0x2500, 1, 0x20, 1, 128, .ro, .fixed⟩, ⟨0x2500, 1, 0x21, 1, 4, .ro, .fixed⟩]

/-- Objects of Table 19-10. -/
def rowsSecurity : List ObjRow := [
    ⟨0x2600, 1, 0x1, 1, 1, .ro, .fixed⟩, ⟨0x2600, 1, 0x2, 1, 0, .wo, .service⟩, ⟨0x2600, 1, 0x3, 2, 32, .ro, .fixed⟩,
    ⟨0x2600, 1, 0x5, 1, 1793, .ro, .fixed⟩, ⟨0x2600, 1, 0x6, 1, 3081, .ro, .fixed⟩, ⟨0x2600, 1, 0x10, 1, 32, .wo, .now⟩,
    ⟨0x2600, 1, 0x11, 1, 0, .ro, .fixed⟩, ⟨0x2600, 1, 0x12, 1, 1, .ro, .fixed⟩, ⟨0x2600, 1, 0x20, 1, 1, .rw, .service⟩,
    ⟨0x2600, 1, 0x21, 1, 2, .w1c, .now⟩, ⟨0x2600, 1, 0x22, 1, 4, .ro, .fixed⟩, ⟨0x2600, 1, 0x30, 1, 0, .wo, .now⟩,
    ⟨0x2600, 1, 0x31, 1, 1, .wo, .now⟩, ⟨0x2600, 1, 0x32, 1, 256, .ro, .fixed⟩, ⟨0x2600, 1, 0x33, 1, 4, .ro, .fixed⟩]

/-- Objects of Table 14-11. -/
def rowsConfig : List ObjRow := [
    ⟨0x2800, 1, 0x1, 1, 128, .ro, .fixed⟩, ⟨0x2800, 1, 0x2, 1, 8, .ro, .fixed⟩, ⟨0x2800, 1, 0x3, 1, 4096, .ro, .fixed⟩,
    ⟨0x2800, 1, 0x4, 2, 4, .ro, .fixed⟩, ⟨0x2800, 1, 0x6, 1, 64, .ro, .fixed⟩, ⟨0x2800, 1, 0x7, 1, 4, .wo, .now⟩,
    ⟨0x2800, 1, 0x8, 1, 16, .rw, .now⟩, ⟨0x2800, 1, 0x9, 1, 2, .rw, .now⟩, ⟨0x2800, 1, 0xA, 1, 1, .wo, .now⟩,
    ⟨0x2800, 1, 0xB, 1, 8, .ro, .fixed⟩, ⟨0x2800, 1, 0xC, 2, 4, .ro, .fixed⟩, ⟨0x2800, 1, 0xE, 1, 8, .ro, .fixed⟩,
    ⟨0x2800, 1, 0xF, 1, 1024, .ro, .fixed⟩, ⟨0x2800, 1, 0x10, 1, 4, .ro, .fixed⟩, ⟨0x2800, 1, 0x11, 2, 1, .ro, .fixed⟩]

/-- Objects of Tables 3-9 and 3-10. -/
def rowsFabric : List ObjRow := [
    ⟨0x3000, 1, 0x1, 1, 4, .rws, .boundary⟩, ⟨0x3000, 1, 0x2, 1, 128, .rws, .boundary⟩,
    ⟨0x3000, 1, 0x3, 1, 128, .ro, .fixed⟩, ⟨0x3000, 1, 0x4, 1, 2, .rws, .boundary⟩, ⟨0x3000, 1, 0x5, 1, 1, .rws, .boundary⟩,
    ⟨0x3000, 1, 0x6, 1, 8, .ro, .fixed⟩, ⟨0x3000, 1, 0x7, 1, 4, .ro, .fixed⟩, ⟨0x4000, 256, 0x1, 1, 256, .ro, .fixed⟩,
    ⟨0x4000, 256, 0x2, 1, 1, .rws, .boundary⟩, ⟨0x4000, 256, 0x3, 1, 8, .ro, .fixed⟩, ⟨0x4000, 256, 0x4, 1, 4, .ro, .fixed⟩]

/-- Objects of Table 4-12. -/
def rowsCrossbar : List ObjRow := [
    ⟨0x3000, 1, 0x10, 1, 32, .ro, .fixed⟩, ⟨0x3000, 1, 0x11, 1, 4, .ro, .fixed⟩, ⟨0x4000, 256, 0x10, 1, 2, .rws, .boundary⟩,
    ⟨0x4000, 256, 0x11, 1, 2, .rw, .now⟩, ⟨0x4000, 256, 0x12, 1, 4, .ro, .fixed⟩, ⟨0x4000, 256, 0x13, 2, 2, .ro, .fixed⟩,
    ⟨0x4000, 256, 0x15, 2, 8, .ro, .fixed⟩]

/-- Objects of Tables 5-7 and 5-8. -/
def rowsPattern : List ObjRow := [
    ⟨0x3100, 1, 0x1, 1, 1, .rws, .boundary⟩, ⟨0x3100, 1, 0x2, 1, 1, .ro, .fixed⟩, ⟨0x3100, 1, 0x3, 1, 8, .ro, .fixed⟩,
    ⟨0x3100, 1, 0x4, 2, 4, .ro, .fixed⟩, ⟨0x3100, 1, 0x6, 1, 32, .ro, .fixed⟩, ⟨0x4100, 256, 0x1, 2, 1, .rws, .boundary⟩,
    ⟨0x4100, 256, 0x3, 2, 1, .ro, .fixed⟩, ⟨0x4100, 256, 0x5, 1, 8, .ro, .fixed⟩, ⟨0x4100, 256, 0x6, 3, 4, .ro, .fixed⟩,
    ⟨0x4100, 256, 0x9, 1, 1, .w1c, .now⟩, ⟨0x4100, 256, 0xA, 2, 2, .ro, .fixed⟩, ⟨0x4100, 256, 0xC, 1, 4, .ro, .fixed⟩,
    ⟨0x4100, 256, 0xD, 2, 2, .ro, .fixed⟩, ⟨0x4100, 256, 0xF, 1, 1, .ro, .fixed⟩, ⟨0x4100, 256, 0x10, 1, 4, .ro, .fixed⟩,
    ⟨0x4100, 256, 0x11, 1, 8, .ro, .fixed⟩]

/-- Objects of Tables 6-10 and 6-11. -/
def rowsHold : List ObjRow := [
    ⟨0x3200, 1, 0x1, 1, 8, .wo, .now⟩, ⟨0x3200, 1, 0x2, 1, 2, .wo, .now⟩, ⟨0x3200, 1, 0x3, 1, 4, .wo, .now⟩,
    ⟨0x3200, 1, 0x4, 1, 2, .ro, .fixed⟩, ⟨0x3200, 1, 0x5, 1, 4, .ro, .fixed⟩, ⟨0x3200, 1, 0x6, 1, 2, .ro, .fixed⟩,
    ⟨0x3200, 1, 0x10, 1, 4, .rws, .boundary⟩, ⟨0x3200, 1, 0x11, 1, 4096, .ro, .fixed⟩,
    ⟨0x3200, 1, 0x12, 1, 128, .ro, .fixed⟩, ⟨0x3200, 1, 0x13, 1, 256, .rws, .boundary⟩,
    ⟨0x3200, 1, 0x14, 1, 128, .ro, .fixed⟩, ⟨0x3200, 1, 0x15, 1, 32, .rw, .now⟩, ⟨0x3200, 1, 0x16, 1, 128, .w1c, .now⟩,
    ⟨0x3200, 1, 0x17, 1, 256, .ro, .fixed⟩, ⟨0x3200, 1, 0x18, 2, 4, .ro, .fixed⟩,
    ⟨0x4200, 256, 0x1, 1, 128, .rws, .boundary⟩, ⟨0x4200, 256, 0x2, 1, 64, .ro, .fixed⟩,
    ⟨0x4200, 256, 0x3, 1, 2048, .ro, .fixed⟩, ⟨0x4200, 256, 0x4, 1, 32, .w1c, .now⟩, ⟨0x4200, 256, 0x5, 4, 4, .ro, .fixed⟩,
    ⟨0x4200, 256, 0x9, 1, 2, .ro, .fixed⟩, ⟨0x4200, 256, 0xA, 1, 4, .ro, .fixed⟩, ⟨0x4200, 256, 0xB, 1, 8, .ro, .fixed⟩,
    ⟨0x4200, 256, 0xC, 1, 64, .ro, .fixed⟩]

/-- Objects of Table 7-9. -/
def rowsContract : List ObjRow := [
    ⟨0x3300, 1, 0x1, 1, 2, .ro, .fixed⟩, ⟨0x3300, 1, 0x2, 1, 512, .ro, .fixed⟩, ⟨0x3300, 1, 0x3, 1, 1, .ro, .fixed⟩,
    ⟨0x3300, 1, 0x4, 1, 2, .ro, .fixed⟩, ⟨0x3300, 1, 0x5, 1, 4, .ro, .fixed⟩, ⟨0x3300, 1, 0x6, 2, 2, .ro, .fixed⟩,
    ⟨0x3300, 1, 0x8, 2, 4, .ro, .fixed⟩, ⟨0x3300, 1, 0xA, 1, 2, .ro, .fixed⟩, ⟨0x3300, 1, 0xB, 1, 4, .ro, .fixed⟩,
    ⟨0x3300, 1, 0xC, 1, 64, .ro, .fixed⟩]

/-- Objects of Tables 8-11 and 8-12. -/
def rowsLane : List ObjRow := [
    ⟨0x3400, 1, 0x1, 2, 4, .ro, .fixed⟩, ⟨0x3400, 1, 0x3, 1, 8, .ro, .fixed⟩, ⟨0x3400, 1, 0x4, 1, 4, .ro, .fixed⟩,
    ⟨0x3500, 32, 0x1, 3, 1, .rws, .boundary⟩, ⟨0x3500, 32, 0x4, 1, 1, .ro, .fixed⟩, ⟨0x3500, 32, 0x5, 1, 2, .rws, .boundary⟩,
    ⟨0x3500, 32, 0x6, 2, 1, .rws, .boundary⟩, ⟨0x3500, 32, 0x8, 1, 2, .rws, .boundary⟩, ⟨0x3500, 32, 0x9, 1, 16, .rw, .now⟩,
    ⟨0x3500, 32, 0xA, 1, 1, .wo, .now⟩, ⟨0x3500, 32, 0xB, 2, 1, .rw, .now⟩, ⟨0x3500, 32, 0xD, 1, 4, .ro, .fixed⟩,
    ⟨0x3500, 32, 0xE, 1, 8, .ro, .fixed⟩, ⟨0x3500, 32, 0xF, 1, 2, .w1c, .now⟩, ⟨0x3500, 32, 0x10, 1, 8, .ro, .fixed⟩,
    ⟨0x3500, 32, 0x11, 5, 4, .ro, .fixed⟩, ⟨0x3500, 32, 0x16, 1, 8, .ro, .fixed⟩, ⟨0x3500, 32, 0x17, 1, 0, .wo, .now⟩,
    ⟨0x3500, 32, 0x18, 1, 4, .ro, .fixed⟩, ⟨0x3500, 32, 0x19, 1, 0, .ro, .fixed⟩, ⟨0x3500, 32, 0x1A, 1, 4, .ro, .fixed⟩,
    ⟨0x3500, 32, 0x1B, 1, 1, .ro, .fixed⟩, ⟨0x3500, 32, 0x1C, 1, 4, .ro, .fixed⟩]

/-- Objects of Tables 9-8 and 9-9. -/
def rowsMerig : List ObjRow := [
    ⟨0x3600, 1, 0x1, 2, 1, .rw, .service⟩, ⟨0x3600, 1, 0x3, 1, 32, .rw, .service⟩, ⟨0x3600, 1, 0x4, 1, 32, .rws, .boundary⟩,
    ⟨0x3600, 1, 0x5, 1, 4, .rw, .service⟩, ⟨0x3600, 1, 0x6, 1, 1, .rw, .now⟩, ⟨0x3600, 1, 0x7, 2, 1, .ro, .fixed⟩,
    ⟨0x3600, 1, 0x9, 1, 128, .ro, .fixed⟩, ⟨0x3600, 1, 0xA, 2, 4, .ro, .fixed⟩, ⟨0x3600, 1, 0xC, 1, 64, .ro, .fixed⟩,
    ⟨0x3600, 1, 0xD, 3, 4, .ro, .fixed⟩, ⟨0x3600, 1, 0x10, 1, 1, .rw, .service⟩, ⟨0x3600, 1, 0x11, 1, 0, .wo, .now⟩,
    ⟨0x3600, 1, 0x12, 1, 32, .ro, .fixed⟩, ⟨0x5000, 32, 0x1, 1, 1, .ro, .fixed⟩, ⟨0x5000, 32, 0x2, 1, 4, .ro, .fixed⟩,
    ⟨0x5000, 32, 0x3, 1, 8, .ro, .fixed⟩, ⟨0x5000, 32, 0x4, 1, 1, .ro, .fixed⟩, ⟨0x5000, 32, 0x5, 1, 4, .ro, .fixed⟩,
    ⟨0x5000, 32, 0x6, 1, 8, .ro, .fixed⟩, ⟨0x5000, 32, 0x7, 1, 1, .wo, .now⟩, ⟨0x5000, 32, 0x10, 1, 4, .rw, .now⟩,
    ⟨0x5000, 32, 0x11, 1, 0, .rw, .now⟩, ⟨0x5000, 32, 0x12, 1, 4, .ro, .fixed⟩]

/-- Objects of Table 10-10. -/
def rowsNoc : List ObjRow := [
    ⟨0x3700, 1, 0x1, 1, 67592, .rws, .boundary⟩, ⟨0x3700, 1, 0x3, 1, 4, .rw, .now⟩, ⟨0x3700, 1, 0x5, 1, 256, .ro, .fixed⟩,
    ⟨0x3700, 1, 0x6, 5, 4, .ro, .fixed⟩, ⟨0x3700, 1, 0xB, 2, 2, .ro, .fixed⟩, ⟨0x3700, 1, 0x10, 1, 2, .wo, .now⟩,
    ⟨0x3700, 1, 0x11, 1, 13, .ro, .fixed⟩, ⟨0x3700, 1, 0x12, 1, 101, .ro, .fixed⟩, ⟨0x3700, 1, 0x13, 1, 4, .rw, .now⟩,
    ⟨0x3700, 1, 0x14, 1, 4, .ro, .fixed⟩, ⟨0x3700, 1, 0x20, 4, 64, .wo, .now⟩, ⟨0x3700, 1, 0x24, 4, 256, .ro, .fixed⟩]

/-- Objects of Tables 11-9 and 11-10. -/
def rowsDram : List ObjRow := [
    ⟨0x3800, 1, 0x1, 3, 1, .rw, .service⟩, ⟨0x3800, 1, 0x4, 1, 8, .ro, .fixed⟩, ⟨0x3800, 1, 0x5, 1, 4, .rw, .now⟩,
    ⟨0x3800, 1, 0x6, 1, 2, .rw, .now⟩, ⟨0x3800, 1, 0x7, 1, 1, .rw, .now⟩, ⟨0x3800, 1, 0x8, 1, 2, .rw, .now⟩,
    ⟨0x3800, 1, 0x9, 1, 4, .rw, .reset⟩, ⟨0x3800, 1, 0x10, 1, 1024, .rws, .boundary⟩,
    ⟨0x3800, 1, 0x11, 1, 1024, .ro, .fixed⟩, ⟨0x3800, 1, 0x12, 1, 9, .wo, .now⟩, ⟨0x3800, 1, 0x13, 1, 4, .rw, .now⟩,
    ⟨0x3800, 1, 0x14, 1, 64, .ro, .fixed⟩, ⟨0x3810, 16, 0x1, 1, 1, .ro, .fixed⟩, ⟨0x3810, 16, 0x2, 1, 2, .w1c, .now⟩,
    ⟨0x3810, 16, 0x3, 4, 4, .ro, .fixed⟩, ⟨0x3810, 16, 0x7, 1, 8, .ro, .fixed⟩, ⟨0x3810, 16, 0x8, 2, 4, .ro, .fixed⟩,
    ⟨0x3810, 16, 0xA, 1, 8, .ro, .fixed⟩, ⟨0x3810, 16, 0xB, 3, 1, .wo, .now⟩, ⟨0x3810, 16, 0xE, 1, 8, .ro, .fixed⟩,
    ⟨0x3810, 16, 0xF, 1, 1, .ro, .fixed⟩, ⟨0x3810, 16, 0x10, 1, 2, .ro, .fixed⟩, ⟨0x3810, 16, 0x11, 1, 1, .ro, .fixed⟩,
    ⟨0x3810, 16, 0x12, 1, 4, .ro, .fixed⟩]

/-- Objects of Table 12-11. -/
def rowsKeeper : List ObjRow := [
    ⟨0x3900, 4, 0x1, 1, 1, .wo, .now⟩, ⟨0x3900, 4, 0x2, 1, 2, .rw, .now⟩, ⟨0x3900, 4, 0x3, 1, 1, .ro, .fixed⟩,
    ⟨0x3900, 4, 0x4, 1, 2, .ro, .fixed⟩, ⟨0x3900, 4, 0x5, 3, 8, .ro, .fixed⟩, ⟨0x3900, 4, 0x8, 2, 4, .ro, .fixed⟩,
    ⟨0x3900, 4, 0xA, 1, 1, .rw, .now⟩, ⟨0x3900, 4, 0xB, 3, 4, .ro, .fixed⟩, ⟨0x3900, 4, 0xE, 1, 256, .ro, .fixed⟩,
    ⟨0x3900, 4, 0xF, 1, 8, .ro, .fixed⟩, ⟨0x3900, 4, 0x10, 1, 2, .ro, .fixed⟩, ⟨0x3900, 4, 0x11, 2, 4, .ro, .fixed⟩,
    ⟨0x3900, 4, 0x13, 1, 8, .ro, .fixed⟩, ⟨0x3900, 4, 0x14, 1, 4, .ro, .fixed⟩]

/-- Every object of the dictionary (R359, Table 13-14). -/
def objRows : List ObjRow :=
  rowsCommunication ++ rowsIdentity ++ rowsRotation ++ rowsClock ++ rowsReset ++ rowsPower ++ rowsPin ++ rowsEvent ++ rowsSecurity ++
  rowsConfig ++
  rowsFabric ++ rowsCrossbar ++ rowsPattern ++ rowsHold ++ rowsContract ++ rowsLane ++ rowsMerig ++ rowsNoc ++ rowsDram ++ rowsKeeper

/-- The row covers the index. -/
def ObjRow.hasIndex (r : ObjRow) (idx : Nat) : Bool := decide (r.lo ≤ idx) && decide (idx < r.lo + r.n)

/-- The row covers the index and the sub-index. -/
def ObjRow.covers (r : ObjRow) (idx sub : Nat) : Bool :=
  r.hasIndex idx && decide (r.sub ≤ sub) && decide (sub < r.sub + r.subN)

/-- Some object has this index. -/
def indexExists (idx : Nat) : Bool := objRows.any (fun r => r.hasIndex idx)

/-- The object at an index and sub-index. -/
def objRow (idx sub : Nat) : Option ObjRow := objRows.find? (fun r => r.covers idx sub)

/-- Key of an object in `State.dict`. -/
def okey (idx sub : Nat) : Nat := idx * 256 + sub

/-- Defaults of the stored objects (the Default columns of the object tables); 0 where none is named here. -/
def objDefault (key : Nat) : Nat :=
  let idx := key / 256
  let sub := key % 256
  if idx = 0x2000 then
    if sub = 0x10 then 2880 else if sub = 0x11 then 16 else if sub = 0x16 then repByte 16 8 else 0
  else if idx = 0x1017 then 100
  else if idx = 0x2100 then
    if sub = 1 then 80000 else if sub = 2 then 96 else if sub = 3 then 0x0044 else if sub = 5 then 200 else 0
  else if idx = 0x2300 then
    if sub = 0x10 then 95 else if sub = 0x11 then 100 else if sub = 0x13 then repByte 16 15 else if sub = 0x19 then 80
    else if sub = 0x30 then 0x0A01 else if sub = 0x31 then packFn 64 32 (fun _ => 0xFF000000) else 0
  else if idx = 0x2400 then if 0x10 ≤ sub ∧ sub ≤ 0x17 then watchDefault else 0
  else if idx = 0x2800 then if sub = 8 then repByte 16 15 else if sub = 9 then 48 else 0
  else if idx = 0x3100 then if sub = 1 then 1 else 0
  else if idx = 0x3200 then
    if sub = 0x10 then 0xFFFFFFFF else if sub = 0x13 then packFn 64 32 (fun _ => outputRingDefault) else 0
  else if 0x3500 ≤ idx ∧ idx < 0x3520 then
    if sub = 2 then 3 else if sub = 6 then 0xFF else if sub = 7 then 1 else if sub = 9 then packFn 16 8 (fun _ => 0x8216)
    else if sub = 0xB then 1 else if sub = 0xC then 1 else 0
  else if idx = 0x3600 then
    if sub = 1 then 64 else if sub = 3 then repByte 32 0xFF else if sub = 5 then 0xFFFFFFFF else if sub = 6 then 1
    else if sub = 0x10 then 1 else 0
  else if idx = 0x3700 then if sub = 3 then 65536 else if sub = 0x13 then 65536 else 0
  else if idx = 0x3800 then
    if sub = 1 then 7 else if sub = 2 then 4 else if sub = 3 then 1 else if sub = 5 then 9600 else if sub = 6 then 64
    else if sub = 7 then 11 else if sub = 8 then 100 else if sub = 9 then 1 else 0
  else if 0x3900 ≤ idx ∧ idx < 0x3904 then if sub = 0xA then 1 else 0
  else if 0x4200 ≤ idx ∧ idx < 0x4300 then if sub = 1 then packFn 64 16 (fun _ => bankDefault) else 0
  else 0
where
  /-- Default of a hold bank's configuration word: RAM, WAIT 1,024 (Table 6-4). -/
  bankDefault : Nat := 1024 * 2 ^ 48
  /-- Default of an output ring's configuration word: MODE 1, CONS 0, WAIT 1,024 (Table 6-10). -/
  outputRingDefault : Nat := 1024 * 2 ^ 48 + 1
  /-- Default of a pin watch's configuration (Table 18-6). -/
  watchDefault : Nat := repByte 16 127 + 2 ^ 176

/-- The stored value of a writable object, little-endian. -/
def State.obj (s : State) (idx sub : Nat) : Nat := Tbl.get objDefault s.dict (okey idx sub)

/-- A stored value replaced. -/
def State.setObj (s : State) (idx sub v : Nat) : State := { s with dict := Tbl.set objDefault s.dict (okey idx sub) v }

end Sys2Proof.Machine
end

