-- ==== Sys2Proof/Machine/Events.lean ====
section
/-! DEFINITION. The event block: default severities of every event, descriptors, raising, and the routes a raised event
takes: counter, mailboxes, EMCY queue, BUSY latch, BEACON stop latch and AON log (R481 to R487, R325, R350, R351). -/

namespace Sys2Proof.Machine

/-- Events 0 to 63: system (Tables 2-10, 3-11, 4-13, 5-10, 6-12, 7-10, 11-12, 20-12). -/
def sevSystem (e : Nat) : Option Nat :=
  if e ∈ [18, 28, 29, 31, 38, 40, 41, 42, 43, 44, 45, 46, 47] then some 0
  else if e ∈ [19, 20, 21, 22, 23, 24, 27, 30, 33, 34, 36, 37, 39] then some 1
  else if e ∈ [16, 17, 25, 26, 32, 35] then some 2
  else none

/-- Events 64 to 127: clocks, power, thermal, reset, NVM (Tables 15-11, 16-10, 17-8, 20-12). -/
def sevClocks (e : Nat) : Option Nat :=
  if e ∈ [65, 67, 68, 69, 80, 91, 96, 101] then some 0
  else if e ∈ [72, 81, 83, 90, 97, 99, 100] then some 1
  else if e ∈ [64, 66, 70, 71, 82, 84, 85, 87, 88, 89, 98, 102] then some 2
  else if e = 86 then some 3
  else none

/-- Events 1,280 to 1,535: NoC, configuration, pins, Keepers, dictionary, security (Tables 10-12, 14-12, 18-8, 12-12, 13-16,
19-11). -/
def sevHigh (e : Nat) : Option Nat :=
  if e ∈ [1280, 1285, 1288, 1290, 1344, 1346, 1351, 1504, 1514, 1515, 1516] then some 0
  else if e ∈ [1282, 1284, 1287, 1289, 1348, 1349, 1350, 1416, 1418, 1419, 1505, 1507, 1509, 1510, 1513] then some 1
  else if e ∈ [1281, 1283, 1286, 1345, 1347, 1417, 1506, 1508, 1511, 1512] then some 2
  else if 1408 ≤ e ∧ e < 1416 then some 0
  else if 1472 ≤ e ∧ e < 1488 then (if e % 4 = 1 ∨ e % 4 = 3 then some 1 else some 2)
  else if 1488 ≤ e ∧ e < 1504 then some 0
  else none

/-- Default severity of an event, `none` for a number no chapter defines (R481). -/
def defSev (e : Nat) : Option Nat :=
  if e < 64 then sevSystem e
  else if e < 128 then sevClocks e
  else if e < 256 then some (if e % 4 = 0 then 2 else if e % 4 = 2 then 0 else 1)
  else if e < 768 then some (if e % 2 = 0 then 0 else 2)
  else if e < 1024 then some 1
  else if e < 1152 then
    some (if e % 8 = 0 ∨ e % 8 = 5 ∨ e % 8 = 7 then 0 else if e % 8 = 3 ∨ e % 8 = 6 then 1 else 2)
  else if e < 1280 then some (if e % 4 = 0 then 2 else if e % 4 = 2 then 0 else 1)
  else sevHigh e

/-- Default descriptor: enabled, the default severity, EMCY for error and fatal (R482, Table 20-2). -/
def descDefault (e : Nat) : Nat :=
  match defSev e with
  | none => 0
  | some v => 0x8000 + v * 0x2000 + (if 2 ≤ v then 0x10 else 0)

/-- Descriptor of an event in force. -/
def State.desc (s : State) (e : Nat) : Nat := Tbl.get descDefault s.ev.desc e

/-- Severity field of a descriptor. -/
def descSev (d : Nat) : Nat := bitsAt d 13 2

/-- Counter of an event. -/
def State.eventCount (s : State) (e : Nat) : Nat := Tbl.at 0 s.ev.count e

/-- A Keeper core. -/
def State.keeper (s : State) (k : Nat) : Keeper := Tbl.at {} s.keep k

/-- A Keeper core replaced. -/
def State.setKeeper (s : State) (k : Nat) (c : Keeper) : State := { s with keep := Tbl.upd {} s.keep k c }

/-- A device that is a manager. -/
def State.manager (s : State) : Bool := s.rst.roleManager

/-- The Lantern loop has locked since the reset: beats run (R40, R50). -/
def State.beatsRun (s : State) : Bool :=
  match s.clk.lantern with
  | .off => false
  | .locking => false
  | _ => true

/-- A raise of event `e`, stamped with rotation and beat, and with 0 for both before Lantern lock (R484). -/
def State.stampOf (s : State) (e : Nat) : Raised :=
  if s.beatsRun then ⟨e, s.time.rot, s.time.beat⟩ else ⟨e, 0, 0⟩

/-- The condition of event `e` occurs: it waits for the event block (R484). -/
def raise (e : Nat) (s : State) : State :=
  { s with ev := { s.ev with waiting := s.ev.waiting ++ [s.stampOf e] } }

/-- Raise an event that is raised once in each beat. -/
def raiseOnce (e : Nat) (s : State) : State :=
  if e ∈ s.ev.thisBeat then s else raise e { s with ev := { s.ev with thisBeat := e :: s.ev.thisBeat } }

/-- Raise an event when a condition holds. -/
def raiseIf (b : Bool) (e : Nat) (s : State) : State := if b then raise e s else s

/-- A free value's number, drawn. -/
def State.draw (s : State) : State := { s with freeCtr := s.freeCtr + 1 }

/-- Enter the AON event log, newest first, 64 entries (R487). -/
def logEvent (r : Raised) (sev : Nat) (shutdown : Bool) (s : State) : State :=
  { s with
    ev := { s.ev with log := (⟨r.rot, Config.bakTime s.freeCtr % 2 ^ 48, shutdown, sev, r.event⟩ :: s.ev.log).take 64 }
    freeCtr := s.freeCtr + 1 }

/-- A mailbox entry (Table 12-6). -/
def mailboxEntry (r : Raised) (sev : Nat) : Nat :=
  2 ^ 63 + sev * 2 ^ 61 + r.event % 2048 * 2 ^ 50 + r.beat % 4096 * 2 ^ 38 + r.rot % 2 ^ 32

/-- An entry reaches the mailbox of Keeper `k`; a full mailbox of 64 drops it (R325). -/
def mailboxPush (k entry : Nat) (s : State) : State :=
  let c := s.keeper k
  if c.mailbox.length < 64 then s.setKeeper k { c with mailbox := c.mailbox ++ [entry] }
  else raiseOnce (1475 + 4 * k) (s.setKeeper k { c with mboxDrops := satInc 32 c.mboxDrops, mboxOvf := true })

/-- A message reaches the engine's EMCY queue of 32; a full queue drops it with event 1509 (R351). -/
def emcyPush (m : Emcy) (s : State) : State :=
  if s.can.emcyQueue.length < 32 then { s with can := { s.can with emcyQueue := s.can.emcyQueue ++ [m] } }
  else raise 1509 { s with can := { s.can with emcyDropped := satInc 32 s.can.emcyDropped } }

/-- The event is a manager's entry of a worker to DARK, whose EMCY is its own action; on a worker the event is that of ADRIFT (R241,
R350). -/
def State.isDarkEvent (s : State) (e : Nat) : Bool :=
  s.manager && decide (1152 ≤ e) && decide (e < 1280) && decide (e % 4 = 0)

/-- Count the event, add it to the device total and make it the last event raised (R483, Table 20-11). -/
def countEvent (r : Raised) (sev : Nat) (s : State) : State :=
  { s with ev := { s.ev with
      count := Tbl.upd 0 s.ev.count r.event (satInc 16 (s.eventCount r.event))
      total := wrapInc 64 s.ev.total
      last := mailboxEntry r sev } }

/-- Route to the mailboxes that the descriptor selects (R325). -/
def routeMail (r : Raised) (d : Nat) (s : State) : State :=
  (whichBelow 4 (bitOf d)).foldl (fun s k => mailboxPush k (mailboxEntry r (descSev d)) s) s

/-- Route to EMCY: code 0xFE00 and the severity, event number and rotation counter (R350, Tables 13-8 and 13-9). -/
def routeEmcy (r : Raised) (d : Nat) (s : State) : State :=
  if bitOf d 4 && !s.isDarkEvent r.event then
    emcyPush { code := 0xFE00 + descSev d, field := r.event + r.rot % 2 ^ 24 * 2 ^ 16 }
      (if 2 ≤ descSev d then { s with can := { s.can with manufacturerBit := true } } else s)
  else s

/-- Route to the BUSY latch and the BEACON stop latch (R452, R453). -/
def routePins (d : Nat) (s : State) : State :=
  let s1 := if bitOf d 5 then { s with pins := { s.pins with busyLatch := true } } else s
  if bitOf d 6 && !s1.pins.stopLatch then raise 1417 { s1 with pins := { s1.pins with stopLatch := true } } else s1

/-- Route to the AON event log: severities 2 and 3, and event 99 (R487). -/
def routeLog (r : Raised) (d : Nat) (s : State) : State :=
  if 2 ≤ descSev d ∨ r.event = 99 then logEvent r (descSev d) false s else s

/-- What the event block does with one raise (R483). -/
def route (r : Raised) (s : State) : State :=
  let d := s.desc r.event
  if bitOf d 15 then routeLog r d (routePins d (routeEmcy r d (routeMail r d (countEvent r (descSev d) s))))
  else if r.event = 99 then logEvent r (descSev d) false s
  else s

/-- The Keeper whose EMCY queue holds the oldest message. -/
def oldestEmcy (s : State) : Option (Nat × Emcy) :=
  (List.range 4).foldl (fun best k =>
    match (s.keeper k).emcy, best with
    | [], b => b
    | m :: _, none => some (k, m)
    | m :: _, some (j, n) => if m.age < n.age then some (k, m) else some (j, n)) none

/-- Keeper messages move to the engine queue while it has room, oldest first (R351). -/
def drainEmcy : Nat → State → State
  | 0, s => s
  | n + 1, s =>
    if s.can.emcyQueue.length < 32 then
      match oldestEmcy s with
      | none => s
      | some (k, m) =>
        let c := s.keeper k
        drainEmcy n ({ s with can := { s.can with emcyQueue := s.can.emcyQueue ++ [m] } }.setKeeper k
          { c with emcy := c.emcy.tail })
    else s

/-- The event block samples the waiting raises, in ascending event number (R484). -/
def sample (s : State) : State :=
  (sortBy Raised.event s.ev.waiting).foldl (fun s r => route r s) { s with ev := { s.ev with waiting := [] } }

/-- End of every command: raises are sampled and routed, those their routes raise too, and Keeper EMCY messages move. -/
def settle (s : State) : State := drainEmcy 32 (sample (sample s))

/-- The outcome of every command: the next state, events settled. -/
def done (s : State) : Host.Outcome State Fault Refusal := .next (settle s)

/-- What a command of the FAB, HOLD or PAT domain raised waits for the end of its FAB cycle (R484). DEDUCED (log 163): while no beats run no
such cycle ends, and it is sampled at once. -/
def deferRaises (s : State) : State :=
  if s.beatsRun then { s with ev := { s.ev with waiting := [], fabDue := s.ev.fabDue ++ s.ev.waiting } } else s

/-- A FAB cycle has ended: all that was raised in it is sampled together (R484). -/
def takeRaises (s : State) : State :=
  { s with ev := { s.ev with waiting := s.ev.fabDue ++ s.ev.waiting, fabDue := [] } }

/-- The outcome of a command of the FAB, HOLD or PAT domain. -/
def doneFab (s : State) : Host.Outcome State Fault Refusal := done (deferRaises s)

end Sys2Proof.Machine
end

