-- ==== Sys2Proof/Machine/Logic.lean ====
section
/-! DEFINITION. The combinational rules of a station: frame addresses, product terms, steering, macrocells, crossbar
selection and the Sum-and-Sort unit, as functions of numbers (R16, R17, R58 to R73, R91 to R96, R101 to R106). -/

namespace Sys2Proof.Machine

/-- Sector of a logical station (R17). -/
def sectorOf (st : Nat) : Nat := 4 * (st / 16 / 4) + st % 16 / 4

/-- Number of a station within its sector (Table 14-3). -/
def stationIn (st : Nat) : Nat := 4 * (st / 16 % 4) + st % 16 % 4

/-- The stations of a sector, ascending (R17). -/
def stationsOf (k : Nat) : List Nat := whichBelow 256 (fun st => sectorOf st == k)

/-- Frame address (Table 14-3). -/
def frameAddr (sector station plot type index : Nat) : Nat :=
  sector * 2 ^ 28 + station * 2 ^ 24 + plot * 2 ^ 19 + type * 2 ^ 15 + index * 2 ^ 10

/-- Key of a stored frame. -/
def frameKey (slot addr : Nat) : Nat := slot * 2 ^ 32 + addr

/-- The stored payload of a frame as logic reads it: bits upset and not yet corrected read flipped (R379). -/
def State.frame (s : State) (slot addr : Nat) : Nat :=
  Tbl.at 0 s.cfg.frames (frameKey slot addr) ^^^ Tbl.at 0 s.cfg.upsets (frameKey slot addr)

/-- A frame of a logical station in a slot. -/
def State.stationFrame (s : State) (slot st plot type index : Nat) : Nat :=
  s.frame slot (frameAddr (sectorOf st) (stationIn st) plot type index)

/-- The context in force of a sector, 8 for none (0x2000 sub 0x17). -/
def State.ctxOf (s : State) (k : Nat) : Nat := s.stg.ctx.getD k 8

/-- The 320 literals of a plot: literal 2i is input i, literal 2i + 1 its complement (R60). -/
def literals (inputs : Nat) : Nat := natOfFn 320 (fun j => if j % 2 = 0 then bitOf inputs (j / 2) else !bitOf inputs (j / 2))

/-- A product term: 0 for an empty mask, else 1 exactly when every selected literal is 1 (R61). -/
def termValue (mask lits : Nat) : Bool := decide (mask ≠ 0) && decide (mask &&& lits = mask)

/-- The 256 terms of a plot from its term frames (R71). -/
def plotTerms (termFrame : Nat → Nat) (lits : Nat) : Nat :=
  natOfFn 256 (fun t => termValue (fieldAt 320 (termFrame (t / 8)) (t % 8)) lits)

/-- Group `g` feeds the OR of macrocell `m`: USED, and m = g + DEST − 7 (R62). -/
def steersTo (mframe g m : Nat) : Bool :=
  let w := bitsAt mframe (2048 + 5 * g) 5
  bitOf w 4 && decide (g + w % 16 = m + 7)

/-- The OR of every term of every group steered to a macrocell (R65). -/
def sumOf (mframe terms m : Nat) : Bool :=
  (List.range 64).any (fun g => steersTo mframe g m && decide (bitsAt terms (4 * g) 4 ≠ 0))

/-- Next value of a macrocell register (R65, Tables 3-2 and 3-5). -/
def macrocellNext (ctrl terms : Nat) (sum q reset : Bool) : Bool :=
  let pol := match bitsAt ctrl 24 2 with
    | 1 => true
    | 2 => bitOf terms (bitsAt ctrl 0 8)
    | _ => false
  let x := sum != pol
  if reset then bitOf ctrl 29
  else if bitOf ctrl 28 && bitOf terms (bitsAt ctrl 16 8) then false
  else if bitOf ctrl 27 && !bitOf terms (bitsAt ctrl 8 8) then q
  else if bitOf ctrl 26 then q != x
  else x

/-- The 64 macrocells of a plot after one FAB cycle. -/
def plotNext (termFrame : Nat → Nat) (mframe inputs q : Nat) (reset : Bool) : Nat :=
  let terms := plotTerms termFrame (literals inputs)
  natOfFn 64 (fun m => macrocellNext (fieldAt 32 mframe m) terms (sumOf mframe terms m) (bitOf q m) reset)

/-- The initial values that a plot's macrocell frame gives (R54). -/
def plotInit (mframe : Nat) : Nat := natOfFn 64 (fun m => bitOf (fieldAt 32 mframe m) 29)

/-- The 160 inputs of a plot: local macrocells where LOCAL is 1, crossbar sinks elsewhere (R59). -/
def plotInputs (mframe q sinks p : Nat) : Nat :=
  natOfFn 160 (fun i =>
    if i < 64 && bitOf mframe (2368 + i) then bitOf q (64 * p + i) else bitOf sinks (160 * p + i))

/-- Source index of a crossbar sink (Table 4-4). -/
def sinkSel (xbarFrame : Nat → Nat) (i : Nat) : Nat := fieldAt 12 (xbarFrame (i / 213)) (i % 213)

/-- A sink counts as holding a reserved index: 2,786 to 4,093, and no plot input with LOCAL = 1 (R92). -/
def sinkReserved (xbarFrame mframe : Nat → Nat) (i : Nat) : Bool :=
  let x := sinkSel xbarFrame i
  decide (2786 ≤ x) && decide (x ≤ 4093) &&
    !(decide (i < 5120) && decide (i % 160 < 64) && bitOf (mframe (i / 160)) (2368 + i % 160))

/-- What the crossbar sources of a station carry in one cycle (Table 4-2). -/
structure Sources where
  q : Nat
  lane : Nat
  trav : Nat
  ssu : Nat
  pat : Nat
  hold : Nat
  cyc : Nat
  beat : Nat
  parity : Nat
  strobe : Nat
  mailbox : Nat
  deriving DecidableEq, Repr

/-- The source vector: bit i is source i; reserved indices carry 0 (R91, R92). -/
def Sources.vector (x : Sources) : Nat :=
  x.q % 2 ^ 2048 + x.lane % 2 ^ 32 * 2 ^ 2048 + x.trav % 2 ^ 64 * 2 ^ 2080 + x.ssu % 2 ^ 64 * 2 ^ 2144 +
  x.pat % 2 ^ 32 * 2 ^ 2208 + x.hold % 2 ^ 512 * 2 ^ 2240 + x.cyc % 16 * 2 ^ 2752 + x.beat % 4096 * 2 ^ 2756 +
  x.parity % 2 * 2 ^ 2768 + x.strobe % 2 * 2 ^ 2769 + x.mailbox % 2 ^ 16 * 2 ^ 2770 + 2 ^ 4095

/-- The sink registers after one FAB cycle (R94). -/
def sinksNext (xbarFrame : Nat → Nat) (src : Nat) : Nat := natOfFn 6389 (fun i => bitOf src (sinkSel xbarFrame i))

/-- The sinks that present 0 under station reset: traverse outputs, lane transmit port, opcode, search strobe, hold strobes
(R95). -/
def resetSinkMask : Nat :=
  (2 ^ 64 - 1) * 2 ^ 5120 + (2 ^ 32 - 1) * 2 ^ 5184 + 15 * 2 ^ 5472 + 2 ^ 5620 +
    packFn 48 16 (fun _ => 3 * 2 ^ 46) * 2 ^ 5621

/-- What the sinks present (R95). -/
def sinksShown (sinks : Nat) (reset : Bool) : Nat := if reset then clearBits sinks resetSinkMask else sinks

/-- Operand k of the SSU (R101). -/
def ssuOperand (sinks k : Nat) : Nat := bitsAt sinks (5216 + 16 * k) 16

/-- The sixteen operands with their indices. -/
def ssuOperands (sinks : Nat) : List (Nat × Nat) := (List.range 16).map (fun k => (k, ssuOperand sinks k))

/-- Operands that take part: all, or those above TH when QUAL is 1 (R102, R103). -/
def ssuTaken (qual : Bool) (th : Nat) (ops : List (Nat × Nat)) : List (Nat × Nat) :=
  if qual then ops.filter (fun o => decide (th < o.2)) else ops

/-- The comparisons of CNTGT and MASKGT: operands above TH, or operands 0 to 14 above operand 15 (Table 4-7). -/
def ssuAbove (qual : Bool) (th : Nat) (ops : List (Nat × Nat)) : List (Nat × Nat) :=
  if qual then ops.filter (fun o => decide (th < o.2))
  else ops.filter (fun o => decide (o.1 < 15) && decide ((ops.getD 15 (15, 0)).2 < o.2))

/-- SUM: sum in [19:0], operands included in [24:20] (Table 4-8). -/
def ssuSum (l : List (Nat × Nat)) : Nat := (l.map Prod.snd).sum + l.length * 2 ^ 20

/-- MAX4: the four largest, lower index first between equals; index and value saturated at 0xFFF (R103, Table 4-8). -/
def ssuMax4 (l : List (Nat × Nat)) : Nat :=
  packFields 16 (((sortBy (fun o => 65535 - o.2) l).take 4).map (fun o => o.1 * 4096 + min o.2 0xFFF))

/-- The operand of least value, lowest index first. -/
def ssuLeast (l : List (Nat × Nat)) : Option (Nat × Nat) := (sortBy (fun o => o.2) l).head?

/-- The operand of greatest value, lowest index first. -/
def ssuGreatest (l : List (Nat × Nat)) : Option (Nat × Nat) := (sortBy (fun o => 65535 - o.2) l).head?

/-- MINMAX (Table 4-8). -/
def ssuMinMax (l : List (Nat × Nat)) : Nat :=
  match ssuLeast l, ssuGreatest l with
  | some a, some b => a.2 + b.2 * 2 ^ 16 + a.1 * 2 ^ 32 + b.1 * 2 ^ 36
  | _, _ => 2 ^ 40 + 0xFFFF

/-- MASKGT: the mask and its number of bits (Table 4-8). -/
def ssuMask (l : List (Nat × Nat)) : Nat := (l.map (fun o => 2 ^ o.1)).sum + l.length * 2 ^ 16

/-- PREFIX, result cycle q: running sums of operands 0 to 4q + j, saturated at 0xFFFF (Table 4-8). -/
def ssuPrefix (ops : List (Nat × Nat)) (q : Nat) : Nat :=
  packFn 16 4 (fun j => min ((ops.take (4 * q + j + 1)).map Prod.snd).sum 0xFFFF)

/-- The SSU's result for an opcode, threshold and operands; for PREFIX its first result cycle (R102 to R104). -/
def ssuResult (op th sinks : Nat) : Nat :=
  let ops := ssuOperands sinks
  let qual := bitOf op 3
  match op % 8 with
  | 1 => packFields 16 ((ops.take 4).map Prod.snd)
  | 2 => ssuSum (ssuTaken qual th ops)
  | 3 => ssuMax4 (ssuTaken qual th ops)
  | 4 => ssuMinMax (ssuTaken qual th ops)
  | 5 => (ssuAbove qual th ops).length
  | 6 => ssuMask (ssuAbove qual th ops)
  | 7 => ssuPrefix ops 0
  | _ => 0

end Sys2Proof.Machine
end

