-- ==== Sys2Proof/Machine/Staging.lean ====
section
/-! DEFINITION. Staged settings: near and far shadows, sequence numbers, records, the device's own selections, and the
application of near shadows at a datum beat (R44 to R51, R511). -/

namespace Sys2Proof.Machine

/-- Rotation length B in force. -/
def State.B (s : State) : Nat := s.obj 0x2000 0x10

/-- Swap window W in force. -/
def State.W (s : State) : Nat := s.obj 0x2000 0x11

/-- Lantern multiplier M. -/
def State.M (s : State) : Nat := s.obj 0x2100 2

/-- Lantern output f_R, kHz: M × f_ref, and 6.0 GHz in COAST. DESIGN CHOICE (log 185): through the slew of RELOCK, whose course the spec
leaves open, f_R is taken at the 6.0 GHz at which it begins (R387, R398, R399). -/
def State.rootKhz (s : State) : Nat :=
  match s.clk.lantern with
  | .coast => 6000000
  | .relock => 6000000
  | _ => s.M * s.obj 0x2100 1

/-- FAB cycles in one beat, M/8 (R35). -/
def State.fabPerBeat (s : State) : Nat := s.M / 8

/-- The staged global release has begun (R377). -/
def State.released (s : State) : Bool := decide (1 ≤ s.time.relStep)

/-- The rotation counter counts: after release, or on a worker that has aligned (R39). -/
def State.counting (s : State) : Bool := s.released || s.time.adopted

/-- A write that arrives now goes to the far shadow: its beat lies in the swap window (R46, R50). -/
def State.arrivesFar (s : State) : Bool := s.beatsRun && decide (s.B - s.W ≤ s.time.beat)

/-- Value of an object over which one part of a staged write is laid. -/
def StagePart.over (p : StagePart) (v : Nat) : Nat := mergeBits v p.value (p.mask &&& p.live)

/-- A staged write's effect on the value of one object. -/
def Staged.over (w : Staged) (key v : Nat) : Nat := (w.parts.filter (fun p => p.key == key)).foldl (fun v p => p.over v) v

/-- The value an object will have at the next datum beat, or with `far` at the one after, by the writes accepted so far
(R45, R52). -/
def State.projected (s : State) (far : Bool) (idx sub : Nat) : Nat :=
  let near := (s.stg.pend.filter (fun w => !w.far)).foldl (fun v w => w.over (okey idx sub) v) (s.obj idx sub)
  if far then (s.stg.pend.filter (fun w => w.far)).foldl (fun v w => w.over (okey idx sub) v) near else near

/-- The sequence number after `n`: 0xFFFF_FFFF is followed by 1 (R51). -/
def nextSeq (n : Nat) : Nat := if n = 0xFFFFFFFF then 1 else n + 1

/-- APPLY_ROT of a write that waits for the next datum beat, or the one after (Table 2-5). -/
def State.applyRot (s : State) (far : Bool) : Nat :=
  if s.counting then s.time.rot + (if far then 2 else 1) else s.time.rot

/-- The state of a record while its write waits: 1 near, 2 far. -/
def pendingState (far : Bool) : Nat := if far then 2 else 1

/-- A staged write is accepted: sequence number, shadow and record (R44, R46, R51). DESIGN CHOICE (log 150): while a start is
pending, a record that waits shows PRE 1 and the unreleased counter, since the release may still be held back at the datum beat;
what it shows meanwhile the spec does not say, and the datum beat that begins the release corrects it. DESIGN CHOICE (log 151):
MULTI is 0 for a write of one index and sub-index, though a DOMAIN covers several elements; it is 1 only for a write of several
objects (PROBE_SEL). -/
def stageAccept (path : Nat) (device safe cool : Bool) (parts : List StagePart) (s : State) : State :=
  let far := s.arrivesFar
  let seq := nextSeq s.stg.lastSeq
  let key := match parts with
    | [] => 0
    | p :: _ => p.key
  let r : Record := { seq := seq, index := key / 256, sub := key % 256, device := device, path := path, pre := !s.released,
                      multi := decide (1 < parts.length), applyRot := s.applyRot far, state := pendingState far }
  { s with stg := { s.stg with
      lastSeq := seq
      perPath := if device then s.stg.perPath else s.stg.perPath.set path seq
      pend := s.stg.pend ++ [⟨seq, path, device, far, parts, safe, cool⟩]
      recs := (r :: s.stg.recs).take 16 } }

/-- One part that covers a whole object of `len` bytes. -/
def wholePart (key len value : Nat) : StagePart := ⟨key, lowMask (8 * len), value % 256 ^ len, lowMask (8 * len)⟩

/-- A record's state replaced wherever it still stands in the ring. -/
def setRecState (seq v : Nat) (recs : List Record) : List Record :=
  recs.map (fun r => if r.seq = seq then { r with state := v } else r)

/-- Byte `k` of the sector selections withdrawn from one waiting write (R511). -/
def Staged.withdraw (k : Nat) (w : Staged) : Staged :=
  { w with parts := w.parts.map (fun p =>
      if p.key = okey 0x2000 0x16 then { p with live := clearBits p.live (0xFF * 256 ^ k) } else p) }

/-- The write has no field left. -/
def Staged.dead (w : Staged) : Bool := w.parts.all (fun p => decide (p.mask &&& p.live = 0))

/-- Some field of the first write takes effect when the later ones apply at the same datum beat (R47). -/
def Staged.survives (later : List Staged) (w : Staged) : Bool :=
  w.parts.any (fun p =>
    let covered := (later.flatMap (fun x => x.parts.filter (fun q => q.key == p.key))).foldl
      (fun m q => m ||| (q.mask &&& q.live)) 0
    decide (clearBits (p.mask &&& p.live) covered ≠ 0))

/-- Records of the writes that apply now: 3 where a field survives, else 4; PRE and APPLY_ROT of this datum beat (R47). -/
def applyRecords (rot : Nat) (pre : Bool) : List Staged → List Record → List Record
  | [], recs => recs
  | w :: ws, recs =>
    applyRecords rot pre ws (recs.map (fun r =>
      if r.seq = w.seq then { r with state := if w.survives ws then 3 else 4, applyRot := rot, pre := pre } else r))

/-- The writes in the near shadow, in order of acceptance. -/
def State.nearWrites (s : State) : List Staged := s.stg.pend.filter (fun w => !w.far)

/-- The objects that some near write covers. -/
def State.nearKeys (s : State) : List Nat := (s.nearWrites.flatMap (fun w => w.parts.map StagePart.key)).dedup

/-- Lay the near writes over the stored objects, the later over the earlier (R47, R49). -/
def applyValues (s : State) : State :=
  { s with dict := s.nearWrites.foldl (fun d w => w.parts.foldl (fun d p =>
      Tbl.set objDefault d p.key (p.over (Tbl.get objDefault d p.key))) d) s.dict }

/-- The near shadows become live: values, records, last number applied; nothing near is left (R49, R53). -/
def applyNear (s : State) : State :=
  let near := s.nearWrites
  let s1 := applyValues s
  { s1 with stg := { s1.stg with
      pend := s.stg.pend.filter (fun w => w.far)
      recs := applyRecords s.time.rot (!s.released) near s.stg.recs
      lastApplied := match near.getLast? with
        | some w => w.seq
        | none => s.stg.lastApplied } }

/-- The far shadows move into near, and every waiting record shows when its write will apply (R46, R53). -/
def shiftFar (s : State) : State :=
  let pend := s.stg.pend.map (fun w => { w with far := false })
  { s with stg := { s.stg with
      pend := pend
      recs := s.stg.recs.map (fun r =>
        if r.state = 1 ∨ r.state = 2 then
          { r with state := 1, pre := !s.released, applyRot := s.applyRot false } else r) } }

/-- A staged write record as its 20 bytes (Table 2-5). DESIGN CHOICE (log 152): R8 has the staged value reported by the swap status
objects, but Tables 2-5 and 2-9 give it no field; the model reports the index, sub-index, SEQ, APPLY_ROT and STATE, and no value. -/
def Record.number (r : Record) : Nat :=
  r.seq % 2 ^ 32 + r.index % 2 ^ 16 * 2 ^ 32 + r.sub % 256 * 2 ^ 48 +
  (b2n r.multi + 2 * b2n r.pre + 4 * (r.path % 4) + 16 * b2n r.device) * 2 ^ 56 +
  r.applyRot % 2 ^ 64 * 2 ^ 64 + r.state % 256 * 2 ^ 128

end Sys2Proof.Machine
end

