-- ==== Sys2Proof/Machine/Ops.lean ====
section
/-! DEFINITION. Named operations shared by the families: memory by NoC address, per-block resets, fences and best-effort
transactions of the NoC (R139, R255, R258, R259, R264 to R266, R270, R271), unit power (R409), dictionary answers (R337). -/

namespace Sys2Proof

/-- The identity of a request whose transaction has ended without its answer: its tag, which may be in use again, above the 16,384 tags
of Table 10-5 (R258, R266). -/
def ReqId.stale (r : ReqId) : ReqId := { r with tag := r.tag + 16384 }

/-- The request belongs to a transaction that has ended. -/
def ReqId.isStale (r : ReqId) : Bool := decide (16384 ≤ r.tag)

end Sys2Proof

namespace Sys2Proof.Machine

/-- First address of hold memory (R139). -/
def holdBase : Nat := 0x040000000000

/-- End of the used part of hold memory (R139). -/
def holdEnd : Nat := 0x040018000000

/-- The unit and word an address of hold memory names. -/
def unitAt (a : Nat) : Nat × Nat :=
  let o := a - holdBase
  if o < 0x10000000 then (o / 0x10000, o % 0x10000 / 4)
  else (4096 + (o - 0x10000000) / 0x200000, o % 0x200000 / 4)

/-- First address of the pattern load window, and the end of its used part (R125). -/
def patBase : Nat := 0x050000000000
def patEnd : Nat := 0x050004000000

/-- What an unlisted byte of memory reads as: 0, or in hold memory after a warm reset a free value (R163, R313). -/
def memDefault (gen a : Nat) : Byte :=
  if gen ≠ 0 ∧ holdBase ≤ a ∧ a < holdEnd then BitVec.ofNat 8 (Config.holdByte gen a) else 0

/-- Memory keeps its canonical form. -/
abbrev Memory.wf (s : State) : Bool := Tbl.wf (memDefault s.memGen) s.mem

/-- One byte of memory. -/
def State.readByte (s : State) (a : Nat) : Byte := Tbl.get (memDefault s.memGen) s.mem a

/-- One byte of memory written. -/
def State.writeByte (s : State) (a : Nat) (v : Byte) : State := { s with mem := Tbl.set (memDefault s.memGen) s.mem a v }

/-- `n` bytes from `a`. -/
def State.readBytes (s : State) (a : Nat) : Nat → List Byte
  | 0 => []
  | n + 1 => s.readByte a :: s.readBytes (a + 1) n

/-- Bytes written from `a` upwards. -/
def State.writeBytes : List Byte → Nat → State → State
  | [], _, s => s
  | b :: bs, a, s => State.writeBytes bs (a + 1) (s.writeByte a b)

/-- Little-endian number of `n` bytes at `a`. -/
def State.readNat (s : State) (a n : Nat) : Nat := ofBytes (s.readBytes a n)

/-- Little-endian number of `n` bytes written at `a`. -/
def State.writeNat (s : State) (a n v : Nat) : State := State.writeBytes (toBytes n v) a s

/-- A 64-byte line at `a` (rounded down). -/
def State.readLine (s : State) (a : Nat) : Line := BitVec.ofNat 512 (s.readNat (a / 64 * 64) 64)

/-- A range of memory given new bytes in one step. -/
def fillMem (gen base n : Nat) (f : Nat → Byte) (m : List Host.Cell) : List Host.Cell :=
  m.filter (fun c => decide (c.1 < base)) ++
  (((List.range n).map (fun i => (base + i, f (base + i)))).filter (fun c => decide (c.2 ≠ memDefault gen c.1)) ++
   m.filter (fun c => decide (base + n ≤ c.1)))

/-- A range of memory given new bytes. -/
def State.fillRange (s : State) (base n : Nat) (f : Nat → Byte) : State :=
  { s with mem := fillMem s.memGen base n f s.mem }

/-- The bytes of a 4-byte write that `be` enables, over an old word (R147, R312). -/
def mergeBE (old new be : Nat) : Nat :=
  packFn 8 4 (fun i => if bitOf be i then byteAt new i else byteAt old i)

/-! Physical stations (R20, R21, R23). -/

/-- Physical column of logical column `col` in a row whose rename entry is `m` (R20). -/
def physColumn (m col : Nat) : Nat := if col < m then col else col + 1

/-- Rename entry of a row, in the option-byte shadow (R22). -/
def State.skipColumn (s : State) (row : Nat) : Nat := s.rst.rename.getD row 16

/-- Physical station that serves logical station `st` (R20). -/
def State.physOf (s : State) (st : Nat) : Nat := 17 * (st / 16) + physColumn (s.skipColumn (st / 16)) (st % 16)

/-- Logical station that physical station `p` serves; `none` for the unused spare and for the mapped-out station (R23). -/
def State.serves (s : State) (p : Nat) : Option Nat := (List.range 256).find? (fun st => s.physOf st == p)

/-! Per-block reset bits (R430, Table 17-7): stored in the objects 0x2200 sub 2 to 7; a block whose bit is back at 0 may
still be clearing. -/

/-- Numbers of the blocks for `Reset.leaving` and BLOCK_RESET_DONE: stations 0 to 255, lane groups 256 + g, DRAM channels
288 + c, Keepers 304 + k, pattern banks 308 + s, queue groups 564 + n. -/
def blockLane (g : Nat) : Nat := 256 + g
def blockDram (c : Nat) : Nat := 288 + c
def blockKeeper (k : Nat) : Nat := 304 + k
def blockBank (st : Nat) : Nat := 308 + st
def blockQueue (n : Nat) : Nat := 564 + n

/-- A station is in per-block reset. -/
def State.stationInReset (s : State) (st : Nat) : Bool := bitOf (s.obj 0x2200 2) st || s.rst.leaving.contains st

/-- A lane group is in per-block reset. -/
def State.laneInReset (s : State) (g : Nat) : Bool := bitOf (s.obj 0x2200 3) g || s.rst.leaving.contains (blockLane g)

/-- A DRAM channel is in per-block reset. -/
def State.dramInReset (s : State) (c : Nat) : Bool := bitOf (s.obj 0x2200 4) c || s.rst.leaving.contains (blockDram c)

/-- A Keeper is in per-block reset. -/
def State.keeperInReset (s : State) (k : Nat) : Bool := bitOf (s.obj 0x2200 5) k || s.rst.leaving.contains (blockKeeper k)

/-- A station's pattern bank (Table 5-8): that of the physical station which serves it (R21). -/
def State.bank (s : State) (st : Nat) : PatBank := Tbl.at {} s.pat.banks (s.physOf st)

/-- A station's pattern bank replaced. -/
def State.setBank (s : State) (st : Nat) (b : PatBank) : State :=
  { s with pat := { s.pat with banks := Tbl.upd {} s.pat.banks (s.physOf st) b } }

/-- A pattern bank is in per-block reset, or its clear still runs (R131). -/
def State.bankInReset (s : State) (st : Nat) : Bool := bitOf (s.obj 0x2200 6) st || (s.bank st).clearing

/-- A queue controller group is in per-block reset, or within the 16 cycles of one (R163). -/
def State.queueInReset (s : State) (n : Nat) : Bool := bitOf (s.obj 0x2200 7) n || s.hold.resetting.contains n

/-! Fences (R264 to R266). -/

/-- Fence state of a domain: 0 open, 1 draining, 2 fenced, 3 fenced after forcing, 4 lifting (0x3700 sub 0x12). -/
def State.fenceState (s : State) (n : Nat) : Nat := Tbl.at 0 s.noc.fenceState n

/-- Requests to the domain are answered FENCED. -/
def State.fenced (s : State) (n : Nat) : Bool := decide (s.fenceState n ≠ 0)

/-- Fence state replaced. -/
def setFenceState (n v : Nat) (s : State) : State :=
  { s with noc := { s.noc with fenceState := Tbl.upd 0 s.noc.fenceState n v } }

/-- FENCE_REQ: an open or lifting domain begins to drain; one already fenced stays so (R265). -/
def fenceBegin (n : Nat) (s : State) : State :=
  if s.fenceState n = 0 ∨ s.fenceState n = 4 then setFenceState n 1 s else s

/-- A lift begins when no holder is left (R266). -/
def fenceEnd (n : Nat) (s : State) : State :=
  if s.noc.deviceFence.getLsbD n || s.noc.hostFence.getLsbD n || decide (s.fenceState n = 0) then s else setFenceState n 4 s

/-- A bit of a fence map replaced. -/
def setFenceBit (m : BitVec 101) (n : Nat) (b : Bool) : BitVec 101 := BitVec.ofNat 101 (setBit m.toNat n b)

/-- The device fences domain `n` (R264). -/
def deviceFenceOn (n : Nat) (s : State) : State :=
  fenceBegin n { s with noc := { s.noc with deviceFence := setFenceBit s.noc.deviceFence n true } }

/-- The device lifts its fence of domain `n`. -/
def deviceFenceOff (n : Nat) (s : State) : State :=
  fenceEnd n { s with noc := { s.noc with deviceFence := setFenceBit s.noc.deviceFence n false } }

/-! Transactions and answers (R252, R255, R258, R259). -/

/-- Status code (Table 10-4). -/
def statusCode : Status → Nat
  | .ok => 0
  | .okCorrected => 1
  | .buserr => 2
  | .dataerr => 3
  | .abortReset => 4
  | .fenced => 5
  | .partialMove => 6
  | .collided => 7

/-- Domain that a requester lies in (Table 10-7). -/
def requesterDomain : Requester → Option Nat
  | .keeper k => some (65 + k.val)
  | .carriage g => some (33 + g.val)
  | .eyeScan g => some (33 + g.val)
  | _ => none

/-- The access was performed. -/
def statusGood (st : Status) : Bool := decide (st = .ok) || decide (st = .okCorrected)

/-- The transaction of a request is open. -/
def State.isOpen (s : State) (r : ReqId) : Bool := s.noc.txns.any (fun t => decide (t.req = r))

/-- A core's tag whose transaction has ended and whose status no NWAIT has returned: it is still in use (R318). -/
def Keeper.endedTags (c : Keeper) : Nat := c.tags.countP (fun t => t.ended.isSome)

/-- Tags in use (0x3700 sub 0x0B): open transactions, and the cores' tags that NWAIT has not returned (R259, R318). -/
def State.tagsInUse (s : State) : Nat :=
  s.noc.txns.length + ((List.range 4).map (fun k => (s.keeper k).endedTags)).sum

/-- The peak of tags in use follows (0x3700 sub 0x0C, R259). -/
def notePeak (s : State) : State := { s with noc := { s.noc with peakTags := max s.noc.peakTags s.tagsInUse } }

/-- A request is on its way: its transaction is open from here (R259), and it is past its first router or answered there (R265); one whose
transaction has ended opens none. -/
def openTxn (r : ReqId) (addr : Nat) (write : Bool) (s : State) : State :=
  if r.isStale then s
  else if s.isOpen r then
    { s with noc := { s.noc with txns := s.noc.txns.map (fun t => if t.req = r then { t with entered := true } else t) } }
  else notePeak { s with noc := { s.noc with txns := s.noc.txns ++ [{ req := r, addr := addr, write := write }] } }

/-- A tag is freed. -/
def closeTxn (r : ReqId) (s : State) : State :=
  { s with noc := { s.noc with
    txns := s.noc.txns.filter (fun t => decide (t.req ≠ r)), crossing := s.noc.crossing.filter (fun c => decide (c.1 ≠ r)) } }

/-- The request is past its first router (R265). -/
def State.pastFirst (s : State) (r : ReqId) : Bool := s.noc.txns.any (fun t => decide (t.req = r) && t.entered)

/-- The transaction that its requester has posted and not yet sent. -/
def State.posting (s : State) (r : ReqId) : Option Txn := s.noc.txns.find? (fun t => decide (t.req = r) && !t.entered)

/-- Data of a write request: what its requester posted, or what the command gives. -/
def State.carries (s : State) (r : ReqId) (v : Nat) : Nat :=
  match s.posting r with
  | some t => if t.write then t.data else v
  | none => v

/-- The same as bytes. -/
def State.carriedBytes (s : State) (r : ReqId) (v : List Byte) : List Byte :=
  match s.posting r with
  | some t => if t.write then toBytes t.size t.data else v
  | none => v

/-- The crossing point is in asynchronous mode: the word's bit, or its complement while a transfer of the mode before is still in it
(R395). -/
def State.crossesAsync (s : State) (bit point : Nat) : Bool :=
  bitOf (s.obj 0x2100 4) bit != s.clk.crossOld.contains (bit, point)

/-- Cycles of the destination that an asynchronous crossing adds to a transfer: 4 or 5 (R177, R395). -/
def State.crossDelay (s : State) (bit point : Nat) : Nat :=
  if s.beatsRun && s.crossesAsync bit point then (if Config.asyncLate bit s.time.tick point then 5 else 4) else 0

/-- NOC cycles in a cycle of SVC or CFG, and in one of PAT (Table 15-5). -/
def svcRatio : Nat := 8
def patRatio : Nat := 4

/-- The crossing point, if any, between the NoC and the target that an address names: HOLD_NOC at a unit, PAT_NOC at a bank, SVC_NOC at
the dictionary window (Table 15-5). -/
def targetCrossing (a : Nat) : Option (Nat × Nat) :=
  if holdBase ≤ a ∧ a < holdEnd then some (2, (unitAt a).1)
  else if patBase ≤ a ∧ a < patEnd then some (6, (a - patBase) / 0x40000)
  else if 0x070000000000 ≤ a ∧ a < 0x070000000400 then some (4, 0)
  else none

/-- The crossing point, if any, between a requester and the NoC, and the NOC cycles in a cycle of the requester's domain. -/
def requesterCrossing : Requester → Option (Nat × Nat × Nat)
  | .keeper k => some (3, k.val, 1)
  | .dict => some (4, 0, svcRatio)
  | .config => some (5, 0, svcRatio)
  | _ => none

/-- A request can reach a target: the lower die runs, the request is past its first router, or it has crossed KEEP_NOC and was posted
before the domain of its requester was fenced, or that domain is not fenced (R177, R265, R329). -/
def State.reaches (s : State) (r : ReqId) : Bool :=
  (decide (s.rst.phase = .starting) || decide (s.rst.phase = .service)) && (r.isStale || s.pastFirst r ||
    (!(s.beatsRun && (s.posting r).any (fun t => decide (2 * s.time.tick + 1 < t.fromCycle))) &&
      (!(requesterDomain r.src).any s.fenced || (s.posting r).any (fun t => !t.held))))

/-- Requests to domain `n` are answered FENCED, but for those already past their first router while it drains (R265). -/
def State.fencedFor (s : State) (n : Nat) (r : ReqId) : Bool :=
  s.fenced n && !(decide (s.fenceState n = 1) && (r.isStale || s.pastFirst r))

/-- NOC cycles that the answer to a request takes over asynchronous boundaries on its way back: from its target, and to its requester
(R177, R395). -/
def State.answerDelay (s : State) (r : ReqId) : Nat :=
  (match (s.noc.txns.find? (fun t => decide (t.req = r))).bind (fun t => targetCrossing t.addr) with
    | some p => s.crossDelay p.1 p.2
    | none => 0) +
  (match r.isStale, requesterCrossing r.src with
    | false, some p => p.2.2 * s.crossDelay p.1 p.2.1
    | _, _ => 0)

/-- An answer starts on its way back, over the boundaries it has to cross. -/
def crossBack (r : ReqId) (s : State) : State :=
  if s.answerDelay r = 0 then s
  else { s with noc := { s.noc with crossing := s.noc.crossing ++ [(r, 2 * s.time.tick + s.answerDelay r)] } }

/-- The answer to a request still crosses an asynchronous boundary (R177). -/
def State.answerCrosses (s : State) (r : ReqId) : Bool :=
  s.beatsRun && s.noc.crossing.any (fun c => decide (c.1 = r) && decide (2 * s.time.tick < c.2))

/-- The target answers: OK becomes OK_CORRECTED when a router corrected the request on its way (R255). -/
def answer (r : ReqId) (st : Status) (data : Line) (s : State) : State :=
  let st1 := if st = .ok ∧ s.noc.pathCorrected.contains r then .okCorrected else st
  crossBack r { s with noc := { s.noc with
    pathCorrected := s.noc.pathCorrected.filter (fun x => decide (x ≠ r)), answers := s.noc.answers ++ [⟨r, st1, data⟩] } }

/-- An answer without data. -/
def answerStatus (r : ReqId) (st : Status) (s : State) : State := answer r st 0 s

/-- The part runs and serves requests of the NoC: L0 is released (R436). -/
def State.l0Runs (s : State) : Bool := decide (s.rst.phase = .starting) || decide (s.rst.phase = .service)

/-- The dictionary serves requests (R334): from the entry to SERVICE, and not while the engine's own reset runs. -/
def State.served (s : State) : Bool := decide (s.rst.phase = .service) && !s.rst.engineReset

/-! Answers of the dictionary on a path (R337). -/

/-- What the last request on a path was answered. -/
def State.answerOf (s : State) (p : Path) : Answer := Tbl.at {} s.eng.answers p.code

/-- Record the answer of a request: 0 or an abort code, the sequence number given, the bytes read. -/
def reply (p idx sub code seq : Nat) (data : List Byte) (s : State) : State :=
  { s with eng := { s.eng with answers := Tbl.upd {} s.eng.answers p ⟨idx, sub, code, seq, data⟩ } }

/-- Abort codes (Table 13-2). -/
def abortNoIndex : Nat := 0x06020000
def abortNoSub : Nat := 0x06090011
def abortReadOnly : Nat := 0x06010002
def abortState : Nat := 0x08000022
def abortLength : Nat := 0x06070010
def abortRange : Nat := 0x06090030
def abortBusy : Nat := 0x08000020
def abortTooLong : Nat := 0x05040005
def abortCommand : Nat := 0x05040001
def abortToggle : Nat := 0x05030000
def abortTimeout : Nat := 0x05040000
def abortOther : Nat := 0x08000000

/-- The state after a request that is answered with an abort code and changes nothing else, or with 0 and an effect. -/
def answered (p : Path) (idx sub : Nat) (r : Nat × State) : State := reply p.code idx sub r.1 0 [] r.2

/-- A request on a path takes effect while the dictionary serves requests, and is without effect otherwise (R334). -/
def onPath (p : Path) (idx sub : Nat) (s : State) (r : Nat × State) : State :=
  if s.served then answered p idx sub r else s

/-! Unit power (R164, R409, R410). -/

/-- Code of a hold unit in the map in force: 0 on, 1 retention, 2 off. -/
def State.unitMapCode (s : State) (u : Nat) : Nat := bitsAt (s.obj 0x2300 4) (2 * u) 2

/-- Power of a hold unit: its code, at least retention in DEEP, off in UPPER-OFF (Table 16-3). -/
def State.unitCode (s : State) (u : Nat) : Nat :=
  if s.pwr.state = 3 then 2 else if s.pwr.state = 2 then max (s.unitMapCode u) 1 else s.unitMapCode u

end Sys2Proof.Machine
end

