-- ==== Sys2Proof/Machine/Stations.lean ====
section
/-! DEFINITION. Stations as state: their registers, when station reset is asserted, what their sinks present, gating, and what
a station's hold ports ask for in the FAB cycle in progress (R68, R95, R100, R141, R408). -/

namespace Sys2Proof.Machine

/-- A logical station's registers: those of the physical station that serves it (R21). -/
def State.station (s : State) (st : Nat) : Station := Tbl.at {} s.fab.stations (s.physOf st)

/-- A station's registers replaced. -/
def State.setStation (s : State) (st : Nat) (x : Station) : State :=
  { s with fab := { s.fab with stations := Tbl.upd {} s.fab.stations (s.physOf st) x } }

/-- The FAB clock runs: the Lantern loop has locked and the power state in force is RUN (R403, Table 16-3). -/
def State.fabricRuns (s : State) : Bool := s.beatsRun && decide (s.pwr.state = 0)

/-- The sector is gated, off, ramping, or waits for the datum beat at which it restarts (R408, R411). -/
def State.sectorDark (s : State) (k : Nat) : Bool :=
  bitOf (s.obj 0x2300 3) k || s.pwr.vl3Off.contains k || s.pwr.ramping.contains k || s.pwr.restart.contains k

/-- Station reset is asserted (R68, R408). -/
def State.stationReset (s : State) (st : Nat) : Bool :=
  let k := sectorOf st
  decide (s.time.relStep ≠ 3) || s.stationInReset st || s.fab.holdBeat.contains k || decide (s.ctxOf k = 8) ||
    s.sectorDark k

/-- A sector whose stations are evaluated: it has a context in force. -/
def State.sectorHasContext (s : State) (k : Nat) : Bool := decide (s.ctxOf k < 8)

/-- What a station's sinks present in the FAB cycle in progress (R95). -/
def State.sinksOf (s : State) (st : Nat) : Nat := sinksShown (s.station st).sinks.toNat (s.stationReset st)

/-- What a hold port's sinks present: data, address, write and read strobe (Table 4-3). -/
structure PortAsk where
  data : Nat
  addr : Nat
  write : Bool
  read : Bool
  deriving DecidableEq, Repr

/-- Hold port `h` of the sinks. -/
def portOf (sinks h : Nat) : PortAsk :=
  let p := bitsAt sinks (5621 + 48 * h) 48
  ⟨p % 2 ^ 32, bitsAt p 32 14, bitOf p 46, bitOf p 47⟩

/-- What the station port of a hold unit asks for in the FAB cycle in progress; rings have none. -/
def State.portAsk (s : State) (u : Nat) : PortAsk :=
  if u < 4096 ∧ s.fabricRuns = true ∧ s.sectorHasContext (sectorOf (u / 16)) = true then
    portOf (s.sinksOf (u / 16)) (u % 16)
  else ⟨0, 0, false, false⟩

/-! Physical stations and their power (R23, R24). -/

/-- Physical stations that gating sector `k` gates (R24). -/
def State.gatedStations (s : State) (k : Nat) : List Nat :=
  ((List.range 256).filter (fun st => sectorOf st == k)).map s.physOf

/-- The logic of physical station `p` has power: it serves a station whose sector's VL3 domain is on (R23, R24, R408). -/
def State.logicPowered (s : State) (p : Nat) : Bool :=
  match s.serves p with
  | some st => s.l0Runs && !s.pwr.vl3Off.contains (sectorOf st)
  | none => false

/-- The pattern bank of physical station `p` has power (R23, R26, R134). -/
def State.patternPowered (s : State) (p : Nat) : Bool :=
  match s.serves p with
  | some st => !s.part.absent.getLsbD st && decide (s.part.grade ≠ .n) && s.l0Runs && decide (s.pat.layer ≠ .off)
  | none => false

/-- Where the words of a hold unit lie (R20, R25): bank `b` of physical station `p`, 16 for its spare bank; or ring `r` of the
capture (0) or output (1) rings, 32 and 33 for the spares of rings 0 to 15 and 16 to 31. -/
inductive HoldPlace where
  | bank (p b : Nat)
  | ring (kind r : Nat)
  deriving DecidableEq, Repr

/-- Entry of the hold spare map that covers unit `u`: its station's, or its group of 16 rings' (Table 1-5). -/
def State.spareEntry (s : State) (u : Nat) : Nat :=
  (s.part.spareMap.getD (if u < 4096 then u / 16 else 256 + (u - 4096) / 16) 0).toNat

/-- Unit `u` is replaced by its spare (Table 1-5). -/
def State.replacedUnit (s : State) (u : Nat) : Bool :=
  bitOf (s.spareEntry u) 7 && decide (s.spareEntry u % 16 = u % 16)

/-- Where unit `u` has its words: the replaced unit's place stays unpowered (R21, R25). -/
def State.holdPlace (s : State) (u : Nat) : HoldPlace :=
  if u < 4096 then .bank (s.physOf (u / 16)) (if s.replacedUnit u then 16 else u % 16)
  else .ring ((u - 4096) / 32) (if s.replacedUnit u then 32 + (u - 4096) % 32 / 16 else (u - 4096) % 32)

/-- A place of hold memory has power: some logical unit, not off, has its words there (R23, R25, R164). -/
def State.holdPowered (s : State) (x : HoldPlace) : Bool :=
  s.l0Runs && (List.range 4160).any (fun u => decide (s.holdPlace u = x) && decide (s.unitCode u ≠ 2))

/-! Probes (R74 to R81). -/

/-- Fields of a probe selection (Table 3-8). -/
def probeInvert (w : Nat) : Bool := bitOf w 27
def probeCycle (w : Nat) : Nat := bitsAt w 23 4
def probeSampled (w : Nat) : Bool := bitOf w 22
def probeRoute (w : Nat) : Nat := bitsAt w 20 2
def probeLine (w : Nat) : Bool := bitOf w 19

/-- A selection's SOURCE is not valid for its KIND (R80). -/
def probeInvalid (w : Nat) : Bool := probeLine w && decide (bitsAt w 14 5 ≠ 0)

/-- Selection of channel `c` in the context in force of sector c div 2, its reserved bits 0; 0 with no context (R11, R74, Table
14-4). -/
def State.contextProbe (s : State) (c : Nat) : Nat :=
  let k := c / 2
  if s.ctxOf k < 8 then fieldAt 32 (s.frame (s.ctxOf k) (frameAddr k 0 0 5 0)) (c % 2) % 2 ^ 28 else 0

/-- Selection of channel `c` in force: the override, or the context's, whose ROUTE is off when it is invalid (R74, R80). -/
def State.probeSelection (s : State) (c : Nat) : Nat :=
  if bitOf (s.obj 0x3000 1) c then fieldAt 32 (s.obj 0x3000 2) c
  else
    let w := s.contextProbe c
    if probeInvalid w then withBits w 20 2 0 else w

/-- What a station's 64 traverse lines carry in the FAB cycle in progress; 0 in a fenced sector (R97, R99, R100), until its lift is done
(DESIGN CHOICE, log 189). -/
def State.linesOf (s : State) (st : Nat) : Nat := if s.fenced (sectorOf st) then 0 else bitsAt (s.sinksOf st) 5120 64

/-- Value of a probe's source in the FAB cycle in progress: 0 in a gated or fenced sector (R79). -/
def State.probeSource (s : State) (w : Nat) : Bool :=
  let st := if probeLine w then bitsAt w 6 8 else bitsAt w 11 8
  let k := sectorOf st
  if s.sectorDark k || s.fenced k then false
  else if probeLine w then bitOf (s.linesOf st) (w % 64)
  else (s.station st).q.getLsbD (w % 2048)

/-- Pin-side register of channel `c` (R76). -/
def State.probeRegister (s : State) (c : Nat) : Bool := (s.fab.probeTaken.getD 4 0).getLsbD c

end Sys2Proof.Machine
end

