-- ==== Sys2Proof/Machine/Hold.lean ====
section
/-! DEFINITION. Hold memory: units, queue controller modes, the station port, the NoC port and its arbitration, capture
records, causes and events; the meanings of the hold commands (R138 to R166). -/

namespace Sys2Proof.Machine

/-! Units. -/

/-- First address of a hold unit (R139). -/
def unitBase (u : Nat) : Nat :=
  if u < 4096 then holdBase + u * 0x10000 else holdBase + 0x10000000 + (u - 4096) * 0x200000

/-- Words of a unit (Table 6-1). -/
def unitWords (u : Nat) : Nat := if u < 4096 then 16384 else 524288

/-- Group of 16 units that shares a march engine and a reset bit (R157). -/
def unitGroup (u : Nat) : Nat := u / 16

/-- Station of a hold bank. -/
def unitStation (u : Nat) : Nat := u / 16

/-- A unit's queue controller. -/
def State.unit (s : State) (u : Nat) : HoldUnit := Tbl.at {} s.hold.units u

/-- A unit's queue controller replaced. -/
def State.setUnit (s : State) (u : Nat) (x : HoldUnit) : State :=
  { s with hold := { s.hold with units := Tbl.upd {} s.hold.units u x } }

/-- A station's hold counters. -/
def State.holdCount (s : State) (st : Nat) : HoldCount := Tbl.at {} s.hold.counts st

/-- A station's hold counters replaced. -/
def State.setHoldCount (s : State) (st : Nat) (x : HoldCount) : State :=
  { s with hold := { s.hold with counts := Tbl.upd {} s.hold.counts st x } }

/-- Configuration word of a unit in force (Table 6-4); a capture ring's is fixed at RING (R154). -/
def State.unitCfg (s : State) (u : Nat) : Nat :=
  if u < 4096 then fieldAt 64 (s.obj (0x4200 + u / 16) 1) (u % 16)
  else if u < 4128 then 2
  else fieldAt 64 (s.obj 0x3200 0x13) (u - 4128)

/-- Fields of a configuration word. -/
def cfgMode (c : Nat) : Nat := c % 8
def cfgProd (c : Nat) : Nat := bitsAt c 3 2
def cfgHigh (c : Nat) : Nat := bitsAt c 8 20
def cfgLow (c : Nat) : Nat := bitsAt c 28 20
def cfgWait (c : Nat) : Nat := bitsAt c 48 16

/-- Mode that the unit's accesses follow: RAM while its group is in per-block reset (R163). -/
def State.unitMode (s : State) (u : Nat) : Nat := if s.queueInReset (unitGroup u) then 0 else cfgMode (s.unitCfg u)

/-- The NoC is the unit's producer: PROD 1, and every output ring (R156). -/
def State.nocProduces (s : State) (u : Nat) : Bool :=
  decide (4128 ≤ u) || (decide (u < 4096) && decide (cfgProd (s.unitCfg u) = 1))

/-- A NoC read of the unit in FIFO mode pops (Table 6-3, R156). -/
def State.nocPops (s : State) (u : Nat) : Bool :=
  if 4128 ≤ u then decide (cfgProd (s.unitCfg u) = 0) else !s.nocProduces u

/-- The unit has active ports: powered, and past the datum beat at which it may serve (R164, R409). -/
def State.unitActive (s : State) (u : Nat) : Bool :=
  decide (s.unitCode u = 0) && decide ((s.unit u).servesFrom ≤ s.time.tick) && decide (s.hold.servesFrom ≤ s.time.tick)

/-- Fence domain of a unit: its sector, or its lane group (Table 10-7). -/
def unitFence (u : Nat) : Nat := if u < 4096 then sectorOf (u / 16) else 33 + (u - 4096) % 32

/-! Causes and events (Tables 6-9 and 6-12). -/

def causeFull : Nat := 1
def causeEmpty : Nat := 2
def causeHigh : Nat := 4
def causeLow : Nat := 8
def causeOverflow : Nat := 16
def causeUnderflow : Nat := 32
def causeCollided : Nat := 64
def causeEccCorr : Nat := 128
def causeEccUncorr : Nat := 256
def causeStarved : Nat := 512
def causeMarchFail : Nat := 1024
def causeNotProducer : Nat := 2048

/-- Set cause bits of a unit; its events are raised once per beat (R166). -/
def unitCauses (u bits : Nat) (s : State) : State :=
  if bits = 0 then s
  else
    let x := s.unit u
    let s1 := s.setUnit u { x with causes := x.causes ||| bits }
    if 4096 ≤ u then raiseOnce 30 s1
    else
      let s2 := if bits % 64 = 0 then s1 else raiseOnce (256 + 2 * (u / 16)) s1
      if bits / 64 = 0 then s2 else raiseOnce (257 + 2 * (u / 16)) s2

/-! Words. -/

/-- Address of word `w` of a unit. -/
def wordAddr (u w : Nat) : Nat := unitBase u + 4 * w

/-- Word `w` of a unit as stored. -/
def State.word (s : State) (u w : Nat) : Nat := s.readNat (wordAddr u w) 4

/-- A read of the unit's array is open while a fill or a destructive march runs. -/
def claimOpen : Claim → Bool
  | .march p => !p
  | .fill _ => true
  | _ => false

/-- What a read of a word delivers: the stored word; during a fill it or the pattern, during a destructive march it or one of the
two values that the march writes, by a free choice (Table 6-7). -/
def State.wordRead (s : State) (u w : Nat) : Nat :=
  match (s.unit u).claim with
  | .march false =>
    match Config.marchByte s.freeCtr w % 3 with
    | 0 => s.word u w
    | 1 => 0
    | _ => 2 ^ 32 - 1
  | .fill p => if Config.marchByte s.freeCtr w % 2 = 0 then s.word u w else p
  | _ => s.word u w

/-- A free value is used up when the unit's array is open to one. -/
def drawIfOpen (u : Nat) (s : State) : State := if claimOpen (s.unit u).claim then s.draw else s

/-- Write a word; a destructive march is disturbed by it, and a fill may or may not overwrite it later (R159, R161). -/
def writeWord (u w v : Nat) (s : State) : State :=
  let x := s.unit u
  let s1 := s.writeNat (wordAddr u w) 4 v
  if claimOpen x.claim then
    s1.setUnit u { x with
      disturbed := x.disturbed || decide (x.claim = .march false)
      touched := if x.touched.contains w then x.touched else w :: x.touched }
  else s1

/-- Write consecutive words from `w`, wrapping at `cap`. -/
def writeWords (u cap : Nat) : List Nat → Nat → State → State
  | [], _, s => s
  | v :: vs, w, s => writeWords u cap vs ((w + 1) % cap) (writeWord u (w % cap) v s)

/-- Data as an error class delivers it: a double-bit error delivers the word as stored (R140). -/
def eccData (e : EccClass) (v : Nat) : Nat :=
  match e with
  | .double m => v ^^^ (m % 2 ^ 32)
  | _ => v

/-- Counters, causes and events of a checked read (R140, Tables 6-9 to 6-11). -/
def countEcc (u w : Nat) (e : EccClass) (s : State) : State :=
  match e with
  | .clean => s
  | .single =>
    let s1 := { s with hold := { s.hold with corrected := satInc 32 s.hold.corrected } }
    let s2 := if u < 4096 then
        let c := s1.holdCount (u / 16)
        s1.setHoldCount (u / 16) { c with corrected := satInc 32 c.corrected }
      else s1
    unitCauses u causeEccCorr s2
  | .double _ =>
    let s1 := { s with hold := { s.hold with uncorrectable := satInc 32 s.hold.uncorrectable } }
    let s2 := if u < 4096 then
        let c := s1.holdCount (u / 16)
        s1.setHoldCount (u / 16) { c with
          uncorrectable := satInc 16 c.uncorrectable
          lastUncorr := u % 16 * 2 ^ 14 + w % 2 ^ 14 }
      else s1
    unitCauses u causeEccUncorr s2

/-! Queue operations (R147, R149, R150, R153). -/

/-- The fill level changes; conditions that become true set their causes (R153). -/
def setFill (u new : Nat) (s : State) : State :=
  let x := s.unit u
  let c := s.unitCfg u
  let bits := (if new = unitWords u ∧ x.fill ≠ new then causeFull else 0) +
    (if new = 0 ∧ x.fill ≠ 0 then causeEmpty else 0) +
    (if cfgHigh c ≠ 0 ∧ x.fill < cfgHigh c ∧ cfgHigh c ≤ new then causeHigh else 0) +
    (if cfgLow c ≠ 0 ∧ cfgLow c < x.fill ∧ new ≤ cfgLow c then causeLow else 0)
  unitCauses u bits (s.setUnit u { x with fill := new })

/-- Push words at the tail of a FIFO that has room for them. -/
def pushWords (u : Nat) (ws : List Nat) (s : State) : State :=
  let x := s.unit u
  let s1 := writeWords u (unitWords u) ws x.tail s
  let y := s1.unit u
  setFill u (x.fill + ws.length) (s1.setUnit u { y with tail := (x.tail + ws.length) % unitWords u })

/-- Take `n` words from the head of a FIFO that holds them. -/
def popWords (u n : Nat) (s : State) : State :=
  let x := s.unit u
  setFill u (x.fill - n) (s.setUnit u { x with head := (x.head + n) % unitWords u })

/-- `n` words from word `a` on, wrapping, with the checks of each: the words delivered, and the state after them (R140). -/
def checkedWords (u a n : Nat) (ecc : Nat → EccClass) (s : State) : List Nat × State :=
  ((List.range n).map (fun i => eccData (ecc i) (s.wordRead u ((a + i) % unitWords u))),
   (List.range n).foldl (fun t i => countEcc u ((a + i) % unitWords u) (ecc i) t) (drawIfOpen u s))

/-- `n` words popped from the head of a FIFO that holds them, with their checks. -/
def takeWords (u n : Nat) (ecc : Nat → EccClass) (s : State) : List Nat × State :=
  let r := checkedWords u (s.unit u).head n ecc s
  (r.1, popWords u n r.2)

/-- The first producer write of a rotation gives its bookmark the word address (R150). -/
def markFirst (addr : Nat) (x : HoldUnit) : HoldUnit :=
  if x.markOpen then
    match x.marks with
    | [] => x
    | m :: ms => { x with marks := { m with empty := false, addr := addr } :: ms, markOpen := false }
  else x

/-- Write words at the write pointer of a ring of `cap` words; the first overwrite sets FULL (R147, R153). -/
def ringWords (u cap : Nat) (ws : List Nat) (s : State) : State :=
  let x := s.unit u
  let s1 := writeWords u cap ws x.tail s
  let y := markFirst x.tail (s1.unit u)
  let past := decide (cap < y.ringWords + ws.length)
  let s2 := s1.setUnit u { y with
    tail := (x.tail + ws.length) % cap
    ringWords := min cap (y.ringWords + ws.length)
    overwrote := y.overwrote || past }
  if past && !y.overwrote then unitCauses u causeFull s2 else s2

/-- The word a PINGPONG access reaches: address bit 13 is the half's number (Table 6-3). -/
def State.halfWord (s : State) (u w : Nat) (fillSide : Bool) : Nat :=
  let half := if fillSide then (s.unit u).fillHalf % 2 else 1 - (s.unit u).fillHalf
  w % 8192 + 8192 * half

/-- A new rotation's bookmark opens at a unit in RING mode (R150). -/
def openMark (u : Nat) (s : State) : State :=
  let x := s.unit u
  s.setUnit u { x with marks := (⟨true, x.tail, s.time.rot % 2 ^ 32⟩ :: x.marks).take 16, markOpen := true }

/-- Pointers, fill level, bookmarks and the fill half cleared (R152). -/
def clearPointers (x : HoldUnit) : HoldUnit :=
  { x with head := 0, tail := 0, fill := 0, fillHalf := 0, overwrote := false, marks := [], markOpen := false, ringWords := 0,
           recWait := [] }

/-! The station port (R141 to R148). -/

/-- What the station port reads, and the unit after the read side. -/
def stationRead (u w : Nat) (e : EccClass) (s : State) : Nat × State :=
  let x := s.unit u
  let c := s.unitCfg u
  if !s.unitActive u then (0, s)
  else if s.unitMode u = 1 ∧ cfgProd c ≠ 0 then
    if x.fill = 0 then
      let h := s.holdCount (u / 16)
      (0, unitCauses u causeUnderflow (s.setHoldCount (u / 16) { h with popsRefused := satInc 32 h.popsRefused }))
    else (eccData e (s.wordRead u x.head), popWords u 1 (countEcc u x.head e (drawIfOpen u s)))
  else
    let a := if s.unitMode u = 3 then s.halfWord u w (decide (cfgProd c = 0)) else w
    (eccData e (s.wordRead u a), countEcc u a e (drawIfOpen u s))

/-- A station-port write is refused (R148). -/
def refuseWrite (u bits : Nat) (s : State) : State :=
  let h := s.holdCount (u / 16)
  unitCauses u bits (s.setHoldCount (u / 16) { h with writesRefused := satInc 32 h.writesRefused })

/-- The write side of a station-port access. -/
def stationWrite (u w v : Nat) (s : State) : State :=
  let x := s.unit u
  let c := s.unitCfg u
  if !s.unitActive u then s
  else match s.unitMode u with
    | 1 => if cfgProd c ≠ 0 then refuseWrite u causeNotProducer s
           else if x.fill = unitWords u then refuseWrite u causeOverflow s
           else pushWords u [v] s
    | 2 => if cfgProd c ≠ 0 then refuseWrite u causeNotProducer s else ringWords u (unitWords u) [v] s
    | 3 => if cfgProd c ≠ 0 then refuseWrite u causeNotProducer s else writeWord u (s.halfWord u w true) v s
    | _ => writeWord u w v s

/-- One station-port access: the read, as the word stood before, then the write (R142). -/
def stationAccess (u : Nat) (p : PortAsk) (e : EccClass) (s : State) : Option Nat × State :=
  let r := if p.read then stationRead u p.addr e s else (0, s)
  let s1 := if p.write then stationWrite u p.addr p.data r.2 else r.2
  (if p.read then some r.1 else none, s1)

/-! The NoC port (R145 to R148). -/

/-- The request is a push that a full FIFO makes wait. -/
def State.pushWaits (s : State) (u : Nat) (r : HoldReq) : Bool :=
  decide (s.unitMode u = 1) && decide (r.kind ≠ 0) && s.nocProduces u &&
    decide (unitWords u < (s.unit u).fill + (if r.kind = 1 then 16 else 1))

/-- The words a NoC write carries. -/
def HoldReq.words (r : HoldReq) : List Nat :=
  if r.kind = 1 then (List.range 16).map (fun i => fieldAt 32 r.data i) else [mergeBE 0 r.data r.be]

/-- A hold unit answers a NoC request; a scheduled write receives no response (R259). -/
def holdAnswer (r : HoldReq) (st : Status) (s : State) : State := if r.sched then s else answerStatus r.req st s

/-- Status of a row read under its error classes (R145). -/
def rowStatus (es : List EccClass) : Status :=
  if es.any (fun e => match e with | .double _ => true | _ => false) then .dataerr
  else if es.any (fun e => decide (e = .single)) then .okCorrected
  else .ok

/-- A NoC read of the row or of the FIFO's head is served. -/
def serveRead (u : Nat) (r : HoldReq) (s : State) : State :=
  let x := s.unit u
  let ecc := fun i => r.ecc.getD i .clean
  if s.unitMode u = 1 ∧ s.nocPops u = true then
    if x.fill < 16 then
      answerStatus r.req .buserr (unitCauses u (causeUnderflow + (if 4128 ≤ u ∧ x.fill = 0 then causeEmpty else 0)) s)
    else
      let t := takeWords u 16 ecc s
      answer r.req (rowStatus r.ecc) (BitVec.ofNat 512 (packFields 32 t.1)) t.2
  else
    let a := if s.unitMode u = 3 then s.halfWord u r.word (s.nocProduces u) else r.word
    let t := checkedWords u a 16 ecc s
    answer r.req (rowStatus r.ecc) (BitVec.ofNat 512 (packFields 32 t.1)) t.2

/-- A write that arrived bad is not performed: DATAERR, unless the unit refuses it (R253, R255). -/
def badWrite (u : Nat) (r : HoldReq) (s : State) : State :=
  if s.unitMode u ≠ 0 ∧ s.nocProduces u = false then holdAnswer r .buserr (unitCauses u causeNotProducer s)
  else if s.pushWaits u r then holdAnswer r .buserr (unitCauses u causeOverflow s)
  else holdAnswer r .dataerr s

/-- A good NoC write is served; a scheduled push that meets a full FIFO at its turn is refused (R148). -/
def goodWrite (u : Nat) (r : HoldReq) (s : State) : State :=
  let mode := s.unitMode u
  let direct := fun (a : Nat) (t : State) =>
    if r.kind = 1 then writeWords u (unitWords u) r.words a t
    else writeWord u a (mergeBE (t.word u a) r.data r.be) t
  if mode = 0 then holdAnswer r .ok (direct r.word s)
  else if !s.nocProduces u then holdAnswer r .buserr (unitCauses u causeNotProducer s)
  else match mode with
    | 1 => if s.pushWaits u r then holdAnswer r .buserr (unitCauses u causeOverflow s)
           else holdAnswer r .ok (pushWords u r.words s)
    | 2 => holdAnswer r .ok (ringWords u (unitWords u) r.words s)
    | _ => holdAnswer r .ok (direct (s.halfWord u r.word true) s)

/-- A NoC write is served. -/
def serveWrite (u : Nat) (r : HoldReq) (s : State) : State := if r.bad then badWrite u r s else goodWrite u r s

/-- The array is granted to a NoC request. -/
def serveNoc (u : Nat) (r : HoldReq) (s : State) : State :=
  let x := s.unit u
  let s1 := s.setUnit u { x with grantedTo := s.time.tick + 1 }
  if r.kind = 0 then serveRead u r s1 else serveWrite u r s1

/-- The word that the station port writes in this cycle, by the unit's mode; none where it writes none or is refused (R141, R147,
R148). -/
def State.stationTarget (s : State) (u : Nat) : Option Nat :=
  let p := s.portAsk u
  let x := s.unit u
  let mine := decide (cfgProd (s.unitCfg u) = 0)
  if !p.write || !s.unitActive u then none
  else match s.unitMode u with
    | 0 => some p.addr
    | 1 => if mine && decide (x.fill ≠ unitWords u) then some x.tail else none
    | 2 => if mine then some x.tail else none
    | 3 => if mine then some (s.halfWord u p.addr true) else none
    | _ => some p.addr

/-- A NoC write meets a station-port write to a word of its row, or to its word (R146). -/
def HoldReq.meets (r : HoldReq) (target : Option Nat) : Bool :=
  match target with
  | some w => decide (r.kind ≠ 0) && (if r.kind = 1 then decide (w / 16 = r.word / 16) else decide (w = r.word))
  | none => false

/-- FAB cycles of a beat in which a ring's feeder has the array for the record of the beat: one for each row of 64 bytes. DESIGN
CHOICE (log 157). -/
def ringCycles (nui : Nat) : Nat := ([168, 208, 288, 368].getD nui 368 + 63) / 64

/-- The feeder of a ring has the array in this cycle: a capture record is written, or a readout record is taken (R146, R155,
R221). -/
def State.ringBusy (s : State) (u : Nat) : Bool :=
  let g := (u - 4096) % 32
  decide (4096 ≤ u) && s.beatsRun && decide (s.time.cyc < ringCycles (s.obj (0x3500 + g) 2)) &&
    (if u < 4128 then s.lan.records.any (fun r => decide (r.1 = g))
     else decide (s.obj (0x3500 + g) 1 = 2) && decide ((Tbl.at {} s.lan.lanes (8 * g)).txPairs ≠ []))

/-- First word and number of words that a NoC request reaches, as the unit stands. -/
def State.nocReach (s : State) (u : Nat) (r : HoldReq) : Nat × Nat :=
  let x := s.unit u
  let n := if r.kind = 2 then 1 else 16
  match s.unitMode u with
  | 1 => (if r.kind = 0 then (if s.nocPops u then x.head else r.word) else x.tail, n)
  | 2 => (if r.kind = 0 then r.word else x.tail, n)
  | 3 => (s.halfWord u r.word (s.nocProduces u), n)
  | _ => (r.word, n)

/-- The words `a` to `a + n − 1`, wrapping, touch the row that a preserving march has under test: one row of 16 words in each 162
granted cycles (R159, Table 6-8). -/
def State.underTest (s : State) (u a n : Nat) : Bool :=
  match (s.unit u).claim with
  | .march true => (List.range n).any (fun i => decide ((a + i) % unitWords u / 16 = (s.unit u).marchStep / 162))
  | _ => false

/-- A NoC request waits for the row under test. -/
def State.rowHeld (s : State) (u : Nat) (r : HoldReq) : Bool := s.underTest u (s.nocReach u r).1 (s.nocReach u r).2

/-- A NoC write that the unit refuses because the NoC is not its producer (R148). -/
def State.nocRefused (s : State) (u : Nat) (r : HoldReq) : Bool :=
  decide (r.kind ≠ 0) && decide (s.unitMode u ≠ 0) && !s.nocProduces u

/-- A NoC write meets the station port's write of the cycle and is not refused, which ranks first (R146, R148, R255). -/
def State.collides (s : State) (u : Nat) (r : HoldReq) (target : Option Nat) : Bool := r.meets target && !s.nocRefused u r

/-- A NoC write that meets a station-port write is discarded (R146). -/
def collide (u : Nat) (r : HoldReq) (s : State) : State :=
  let h := s.holdCount (u / 16)
  holdAnswer r .collided
    (unitCauses u causeCollided (s.setHoldCount (u / 16) { h with collided := satInc 32 h.collided }))

/-- A request joins those waiting at the unit's NoC port. -/
def enqueueHold (u : Nat) (r : HoldReq) (s : State) : State :=
  let x := s.unit u
  s.setUnit u { x with waiting := x.waiting ++ [r] }

/-- A request crosses HOLD_NOC: it is at the unit's port some FAB cycles later (R177). -/
def State.crossHold (s : State) (u : Nat) (r : HoldReq) : HoldReq :=
  if s.crossDelay 2 u = 0 then r else { r with fromTick := s.time.tick + s.crossDelay 2 u }

/-- A NoC request reaches its unit: collision, wait or service (R146, R148); over an asynchronous HOLD_NOC boundary it comes to the
port later (R177). -/
def holdArrive (u : Nat) (r : HoldReq) (s : State) : State :=
  let x := s.unit u
  let p := s.portAsk u
  if s.crossDelay 2 u ≠ 0 then enqueueHold u (s.crossHold u r) s
  else if s.collides u r (s.stationTarget u) then collide u r s
  else if s.pushWaits u r && (r.sched || decide (cfgWait (s.unitCfg u) = 0)) then
    holdAnswer r .buserr (unitCauses u causeOverflow s)
  else if p.write || p.read || !x.feeder.isEmpty || !x.waiting.isEmpty ||
      (s.beatsRun && decide (x.grantedTo = s.time.tick + 1)) || s.pushWaits u r || s.ringBusy u || s.rowHeld u r then
    enqueueHold u r s
  else serveNoc u r s

/-- A scheduled flit addressed to a fenced domain is discarded: counted, event 1284 (R265). -/
def schedAtFence (sched : Bool) (s : State) : State :=
  if sched then raise 1284 { s with noc := { s.noc with schedDiscarded := satInc 32 s.noc.schedDiscarded } } else s

/-- Requests that a station's shaft holds (R267). -/
def State.shaftHeld (s : State) (st : Nat) : Nat :=
  ((List.range 16).map (fun h => ((s.unit (16 * st + h)).waiting.filter (fun r => !r.sched)).length)).sum

/-- A request waits at the shaft guard: 64 are held in the shaft, or others wait before it (R267). -/
def State.guardFull (s : State) (u : Nat) : Bool :=
  decide (u < 4096) && (decide (64 ≤ s.shaftHeld (u / 16)) || s.hold.guard.any (fun g => decide (g.1 / 16 = u / 16)))

/-- A request comes to the foot of a shaft: it enters, or waits at the guard (R267). -/
def shaftArrive (u : Nat) (r : HoldReq) (s : State) : State :=
  if s.guardFull u && !r.sched then { s with hold := { s.hold with guard := s.hold.guard ++ [(u, r)] } }
  else holdArrive u r s

/-- A NoC access to hold memory in its order of statuses: FENCED, ABORT_RESET, BUSERR, then the unit (R145, R163, R164,
R255). -/
def holdAccess (addr : Nat) (legal : Bool) (r : HoldReq) (s : State) : State :=
  if (if r.sched then !s.l0Runs || decide (s.time.relStep < 2) else !s.reaches r.req) then s
  else
    let t := if r.sched then s else openTxn r.req addr (decide (r.kind ≠ 0)) s
    if addr < holdBase ∨ holdEnd ≤ addr then holdAnswer r .buserr t
    else
      let u := (unitAt addr).1
      let fenced := if r.sched then s.fenced (unitFence u) else s.fencedFor (unitFence u) r.req
      if fenced || !t.unitActive u then holdAnswer r .fenced (schedAtFence r.sched t)
      else if t.queueInReset (unitGroup u) then holdAnswer r .abortReset t
      else if !legal then holdAnswer r .buserr t
      else shaftArrive u r t

/-- A NoC access to hold memory by its parts. -/
def holdRequest (req : ReqId) (addr kind data be : Nat) (legal sched : Bool) (ecc : List EccClass) (s : State) : State :=
  holdAccess addr legal ⟨req, kind, (unitAt addr).2, data, be, sched, 0, false, ecc, 0, false, 0⟩ s

/-- The first request that waits at the guard of a shaft with room for it, and the others. -/
def State.admitted (s : State) : List (Nat × HoldReq) → Option ((Nat × HoldReq) × List (Nat × HoldReq))
  | [] => none
  | g :: gs =>
    if s.shaftHeld (g.1 / 16) < 64 then some (g, gs)
    else (s.admitted gs).map (fun x => (x.1, g :: x.2))

/-- Requests at the shaft guards enter as places come free, oldest first (R267). -/
def guardStep : Nat → State → State
  | 0, s => s
  | n + 1, s =>
    match s.admitted s.hold.guard with
    | some (g, rest) => guardStep n (holdArrive g.1 g.2 { s with hold := { s.hold with guard := rest } })
    | none => s

/-- HOLD_NOC_READ_ROW: a 64-byte read of one row (R145). -/
def execHoldNocReadRow (req : ReqId) (addr : BitVec 48) (size : Nat) (ecc : List EccClass) (s : State) :
    Host.Outcome State Fault Refusal :=
  done (holdRequest req addr.toNat 0 0 0 (decide (size = 64) && decide (addr.toNat % 64 = 0)) false ecc s)

/-- HOLD_NOC_WRITE_ROW: a 64-byte write of one row (R145). -/
def execHoldNocWriteRow (req : ReqId) (addr : BitVec 48) (data : List Byte) (sched : Bool) (s : State) :
    Host.Outcome State Fault Refusal :=
  done (holdRequest req addr.toNat 1 (if sched then ofBytes data else s.carries req (ofBytes data)) 15
    (decide (data.length = 64) && decide (addr.toNat % 64 = 0)) sched [] s)

/-- HOLD_NOC_WRITE_WORD: a 4-byte write of one word with byte enables (R145). -/
def execHoldNocWriteWord (req : ReqId) (addr : BitVec 48) (data : BitVec 32) (be : BitVec 4) (s : State) :
    Host.Outcome State Fault Refusal :=
  done (holdRequest req addr.toNat 2 (s.carries req data.toNat) be.toNat (decide (addr.toNat % 4 = 0)) false [] s)

/-- The first waiting request that has waited 1,024 HOLD cycles and is not yet marked, marked. -/
def markStarved : List HoldReq → Option (List HoldReq)
  | [] => none
  | r :: rs =>
    if 1024 ≤ r.waited ∧ r.starved = false then some ({ r with starved := true } :: rs)
    else (markStarved rs).map (fun t => r :: t)

/-- HOLD_STARVED: a NoC or march request of unit `u` has waited 1,024 HOLD cycles: STARVED and the fault event; it keeps
waiting and raises no further event until granted (R146). -/
def execHoldStarved (u : Fin 4160) (s : State) : Host.Outcome State Fault Refusal :=
  let x := s.unit u.val
  match markStarved x.waiting with
  | some w => doneFab (unitCauses u.val causeStarved (s.setUnit u.val { x with waiting := w }))
  | none =>
    if 1024 ≤ x.marchWaited ∧ x.marchStarved = false then
      doneFab (unitCauses u.val causeStarved (s.setUnit u.val { x with marchStarved := true }))
    else done s

/-- The first waiting push whose WAIT has run out, and the others. -/
def takeExpired (s : State) (u : Nat) : List HoldReq → Option (HoldReq × List HoldReq)
  | [] => none
  | r :: rs =>
    if s.pushWaits u r = true ∧ cfgWait (s.unitCfg u) ≤ r.blocked then some (r, rs)
    else (takeExpired s u rs).map (fun t => (t.1, r :: t.2))

/-- HOLD_PUSH_WAIT_EXPIRED: a push to a full FIFO has waited its WAIT cycles: BUSERR and OVERFLOW (R148). -/
def execHoldPushWaitExpired (u : Fin 4160) (s : State) : Host.Outcome State Fault Refusal :=
  let x := s.unit u.val
  match takeExpired s u.val x.waiting with
  | some (r, rest) =>
    doneFab (holdAnswer r .buserr (unitCauses u.val causeOverflow (s.setUnit u.val { x with waiting := rest })))
  | none => done s

/-! Maintenance claims (R158 to R161). -/

/-- Code of a claim's holder in the refusal record (Table 6-10). -/
def claimCode : Claim → Nat
  | .march _ => 0
  | .fill _ => 1
  | .queueReset => 2
  | .none => 0

/-- A claim request is refused: recorded, event 33, 0x0800_0020 (R161). -/
def claimRefused (u req : Nat) (s : State) : Nat × State :=
  (abortBusy, raise 33 { s with hold := { s.hold with
    lastRefusal := u + claimCode (s.unit u).claim * 2 ^ 13 + req * 2 ^ 16 } })

/-- A fill request at the dictionary (R161, Table 6-10). -/
def fillWrite (word : Nat) (s : State) : Nat × State :=
  let u := bitsAt word 32 13
  let x := s.unit u
  if 4160 ≤ u then (abortRange, s)
  else if x.claim ≠ .none then claimRefused u 1 s
  else (0, s.setUnit u { x with claim := .fill (word % 2 ^ 32), disturbed := false, touched := [] })

/-- FILL_REQUEST: a fill of one unit with a 32-bit pattern takes its claim (R161). -/
def execFillRequest (path : Path) (word : BitVec 64) (s : State) : Host.Outcome State Fault Refusal :=
  done (onPath path 0x3200 1 s (fillWrite word.toNat s))

/-- Every word of a unit given the pattern, but for words others wrote meanwhile, each of which holds one or the other. -/
def fillUnit (u pattern : Nat) (s : State) : State :=
  let touched := (s.unit u).touched
  let keep := fun (a : Nat) =>
    let w := (a - unitBase u) / 4
    touched.contains w && decide (Config.marchByte s.freeCtr w % 2 = 1)
  (s.fillRange (unitBase u) (4 * unitWords u)
    (fun a => if keep a then s.readByte a else BitVec.ofNat 8 (byteAt pattern ((a - unitBase u) % 4)))).draw

/-- FILL_DONE: the fill of unit `u` has written every word, and its claim is free (R161). -/
def execFillDone (u : Fin 4160) (s : State) : Host.Outcome State Fault Refusal :=
  match (s.unit u.val).claim with
  | .fill p =>
    let s1 := fillUnit u.val p s
    let y := s1.unit u.val
    done (s1.setUnit u.val { y with claim := .none, touched := [] })
  | _ => done s

/-- A queue reset at the dictionary: pointers, fill level, bookmarks and causes of one unit cleared (R161). -/
def queueResetWrite (u : Nat) (s : State) : Nat × State :=
  let x := s.unit u
  if 4160 ≤ u then (abortRange, s)
  else if x.claim ≠ .none then claimRefused u 2 s
  else (0, s.setUnit u { clearPointers x with causes := 0 })

/-- QUEUE_RESET_REQUEST: clears one unit's pointers, fill level, bookmarks and causes, MODE and PROD kept (R161). -/
def execQueueResetRequest (path : Path) (unit : BitVec 16) (s : State) : Host.Outcome State Fault Refusal :=
  done (onPath path 0x3200 2 s (queueResetWrite unit.toNat s))

/-- The 16 units of a march group (R157). -/
def groupUnits (n : Nat) : List Nat := (List.range 16).map (fun i => 16 * n + i)

/-- A march takes the claim of every unit of its group. -/
def claimMarch (n : Nat) (preserving : Bool) (s : State) : State :=
  (groupUnits n).foldl (fun s u =>
    let x := s.unit u
    s.setUnit u { x with claim := .march preserving, disturbed := false, touched := [], marchWaited := 0,
                         marchStarved := false, marchStep := 0 }) s

/-- A march request at the dictionary (R160, R161). -/
def marchWrite (word : Nat) (s : State) : Nat × State :=
  let n := word % 512
  if 260 ≤ n then (abortRange, s)
  else match (groupUnits n).find? (fun u => decide ((s.unit u).claim ≠ .none)) with
    | some u => claimRefused u 0 s
    | none => (0, claimMarch n (bitOf word 16) s)

/-- MARCH_REQUEST: a march test of one group takes the claim of all 16 units, or is refused whole (R160, R161). -/
def execMarchRequest (path : Path) (word : BitVec 32) (s : State) : Host.Outcome State Fault Refusal :=
  done (onPath path 0x3200 3 s (marchWrite word.toNat s))

/-- The march of one unit ends: its result, its contents and its cause (R158 to R160, Table 6-9). -/
def marchEnd (u : Nat) (fail : Option Nat) (s : State) : State :=
  let x := s.unit u
  match x.claim with
  | .march p =>
    let s1 := if p then s else fillUnit u 0 s
    let y := s1.unit u
    let res := 2 ^ 31 + (if fail.isSome then 2 ^ 30 else 0) + (if x.disturbed then 2 ^ 29 else 0) +
      (if p then 2 ^ 28 else 0) + fail.getD 0 % 2 ^ 19
    let s2 := s1.setUnit u { y with march := res, claim := .none, touched := [], disturbed := false, marchWaited := 0,
                                    marchStarved := false }
    if fail.isSome then unitCauses u causeMarchFail s2 else s2
  | _ => s

/-- MARCH_DONE: the march test of a group ends; `fails` gives the lowest failing word of each failing unit (R160). -/
def execMarchDone (group : Fin 260) (fails : List (Fin 16 × Nat)) (s : State) : Host.Outcome State Fault Refusal :=
  if (groupUnits group.val).all (fun u => match (s.unit u).claim with | .march _ => true | _ => false) then
    let s1 := (List.range 16).foldl (fun t i =>
      marchEnd (16 * group.val + i) ((fails.find? (fun f => decide (f.1.val = i))).map Prod.snd) t) s
    let s2 := { s1 with hold := { s1.hold with marchFailing := s1.hold.units.countP (fun e => bitOf e.2.march 30) } }
    doneFab (raiseIf (decide (fails ≠ [])) 32 (raise 31 s2))
  else done s

/-- Waiting requests of a unit end with a status. -/
def endWaiting (st : Status) (u : Nat) (s : State) : State :=
  (s.unit u).waiting.foldl (fun t r => holdAnswer r st t) (s.setUnit u { s.unit u with waiting := [] })

/-- Requests for some units that wait at their shaft guards end with a status (R267). -/
def endGuard (st : Status) (p : Nat → Bool) (s : State) : State :=
  (s.hold.guard.filter (fun g => p g.1)).foldl (fun t g => holdAnswer g.2 st t)
    { s with hold := { s.hold with guard := s.hold.guard.filter (fun g => !p g.1) } }

/-- The configuration words of a queue controller group return to their defaults (R163); capture rings have none. -/
def queueDefaults (n : Nat) (s : State) : State :=
  if n < 256 then s.setObj (0x4200 + n) 1 (objDefault (okey (0x4200 + n) 1))
  else if n < 258 then s
  else s.setObj 0x3200 0x13 (withBits (s.obj 0x3200 0x13) (1024 * (n - 258)) 1024
    (bitsAt (objDefault (okey 0x3200 0x13)) (1024 * (n - 258)) 1024))

/-- A queue controller group's items cleared by its per-block reset, contents kept (R163). DESIGN CHOICE (log 199): words that wait in a
feeder, the log bank's among them, are discarded and not counted at 0x3000:7, with no event 24. -/
def resetGroupUnits (n : Nat) (s : State) : State :=
  (groupUnits n).foldl (fun s u =>
    let s1 := endWaiting .abortReset u s
    s1.setUnit u { clearPointers (s1.unit u) with causes := 0, feeder := [] }) (queueDefaults n (endGuard .abortReset
      (fun u => decide (u / 16 = n)) s))

/-- A unit that leaves power: what waits at its NoC port is answered FENCED (R164). -/
def fenceWaiting (u : Nat) (s : State) : State :=
  let sched := (s.unit u).waiting.filter HoldReq.sched
  endGuard .fenced (fun v => v == u) (endWaiting .fenced u (sched.foldl (fun t _ => schedAtFence true t) s))

/-- QUEUE_GROUP_RESET_DONE: the 16 HOLD cycles of a group's reset have passed and its bit is 0: the group serves again
(R163). -/
def execQueueGroupResetDone (group : Fin 260) (s : State) : Host.Outcome State Fault Refusal :=
  done { s with hold := { s.hold with resetting := s.hold.resetting.filter (fun n => decide (n ≠ group.val)) } }

/-! Output ring owners (R157). -/

/-- What one byte of an owner write does to a ring: no change, a claim or release, a conflict with an image, or a value
out of range. -/
inductive OwnerByte where
  | same | set (v : Nat) | conflict | range
  deriving DecidableEq, Repr

/-- The effect of a byte on a ring of the given owner (R157). -/
def ownerByte (cur new : Nat) : OwnerByte :=
  if new = cur then .same
  else if new = 1 ∨ 3 ≤ new then .range
  else if cur = 1 then .conflict
  else .set new

/-- A write of the owners object (R157). -/
def ringOwnerWrite (data : List Byte) (s : State) : Nat × State :=
  if data.length ≠ 32 then (abortLength, s)
  else
    let effects := (List.range 32).map (fun g => ownerByte (s.hold.owners.getD g 0) (data.getD g 0).toNat)
    if effects.any (fun e => decide (e = .range)) then (abortRange, s)
    else if effects.any (fun e => decide (e = .conflict)) then (abortBusy, raise 34 s)
    else (0, { s with hold := { s.hold with
      owners := (List.range 32).map (fun g =>
        match effects.getD g .same with
        | .set v => v
        | _ => s.hold.owners.getD g 0) } })

/-- RING_OWNER_WRITE: the host claims free output rings or releases the dictionary's (R157). -/
def execRingOwnerWrite (path : Path) (data : List Byte) (s : State) : Host.Outcome State Fault Refusal :=
  done (onPath path 0x3200 0x15 s (ringOwnerWrite data s))

/-! What one FAB cycle does at a unit (R146). -/

/-- A log word is dropped: counted, event 24 once in each beat, and the causes of the refusing unit (R83, R148). -/
def dropLog (u bits : Nat) (s : State) : State :=
  raiseOnce 24 (unitCauses u bits { s with fab := { s.fab with logDropped := satInc 32 s.fab.logDropped } })

/-- Causes of a log word that unit `u` refuses: NOT_PRODUCER, or OVERFLOW for a full FIFO; 0 when it may enter (R148). -/
def State.logRefusal (s : State) (u : Nat) : Nat :=
  if s.unitMode u ≠ 0 ∧ cfgProd (s.unitCfg u) ≠ 2 then causeNotProducer
  else if s.unitMode u = 1 ∧ unitWords u ≤ (s.unit u).fill then causeOverflow
  else 0

/-- A feeder write of the probe log is carried out (R82, R147); a unit that refuses it by now drops it (R83, R148). -/
def feedWord (u v : Nat) (s : State) : State :=
  if s.logRefusal u ≠ 0 then dropLog u (s.logRefusal u) s
  else
    let s1 := { s with fab := { s.fab with logWritten := wrapInc 64 s.fab.logWritten } }
    match s1.unitMode u with
    | 0 =>
      let x := s1.unit u
      let s2 := writeWord u x.tail v s1
      let y := s2.unit u
      s2.setUnit u { y with tail := (x.tail + 1) % unitWords u }
    | 1 => pushWords u [v] s1
    | _ => ringWords u (unitWords u) [v] s1

/-- The first waiting request that can be served, and the others: a push that waits for space and a request for the row under test
are passed over. -/
def takeServable (s : State) (u : Nat) : List HoldReq → Option (HoldReq × List HoldReq)
  | [] => none
  | r :: rs =>
    if (s.pushWaits u r && !r.sched) || s.rowHeld u r || decide (s.time.tick < r.fromTick)
    then (takeServable s u rs).map (fun t => (t.1, r :: t.2))
    else some (r, rs)

/-- The request is at the unit's port, over every boundary (R177). -/
def HoldReq.present (r : HoldReq) (tick : Nat) : Bool := decide (r.fromTick ≤ tick)

/-- Waiting writes that meet the station port's write of this cycle are discarded (R146). -/
def collideWaiting (target : Option Nat) (u : Nat) (s : State) : State :=
  let x := s.unit u
  let hits := fun (r : HoldReq) => s.collides u r target && r.present s.time.tick
  let hit := x.waiting.filter hits
  if hit.isEmpty then s
  else hit.foldl (fun t r => collide u r t) (s.setUnit u { x with waiting := x.waiting.filter (fun r => !hits r) })

/-- A march runs on the unit. -/
def Claim.marches : Claim → Bool
  | .march _ => true
  | _ => false

/-- The requests that were not granted in a HOLD cycle grow older by it, counted at their station (0x4200 sub 0x0B); a push also
counts the cycles in which it waited for space (R146, R148). `march` says that a march was passed over. -/
def ageUnit (march : Bool) (u : Nat) (s : State) : State :=
  let x := s.unit u
  let late := march && x.claim.marches
  let n := (x.waiting.filter (fun r => r.present s.time.tick)).length + x.feeder.length + b2n late
  if n = 0 then s
  else
    let s1 := s.setUnit u { x with
      waiting := x.waiting.map (fun r =>
        if r.present s.time.tick then
          { r with waited := r.waited + 1, blocked := if s.pushWaits u r then r.blocked + 1 else r.blocked }
        else r)
      marchWaited := if late then x.marchWaited + 1 else x.marchWaited }
    if u < 4096 then
      let h := s1.holdCount (u / 16)
      s1.setHoldCount (u / 16) { h with waited := (h.waited + n) % 2 ^ 64 }
    else s1

/-- A march request granted in this cycle waits no more, and its test advances (R158, R159). -/
def grantMarch (u : Nat) (s : State) : State :=
  let x := s.unit u
  if x.claim.marches then s.setUnit u { x with marchWaited := 0, marchStarved := false, marchStep := x.marchStep + 1 } else s

/-- Whole records of `p` bytes in a ring (Table 6-6). -/
def recordsPerRing (p : Nat) : Nat := 2097152 / p

/-- A record is stored in a capture ring at its write pointer; the ring wraps after its whole records. -/
def storeCapture (u : Nat) (bytes : List Byte) (s : State) : State :=
  let p := bytes.length
  ringWords u (recordsPerRing p * (p / 4)) ((List.range (p / 4)).map (fun i => ofBytes ((bytes.drop (4 * i)).take 4))) s

/-- The oldest capture record that waits is stored, unless it still reaches the row under test (R159). -/
def State.waitingRecord (s : State) (u : Nat) : Option State :=
  match (s.unit u).recWait with
  | [] => none
  | b :: rest =>
    if s.underTest u (s.unit u).tail (b.length / 4) then none
    else some (storeCapture u b (s.setUnit u { s.unit u with recWait := rest }))

/-- Arbitration of one unit's array in one HOLD cycle below the station port: feeder, NoC, march (R146); a unit that is not on is
frozen (R164). `busy` says that the station port has the cycle, and `target` what it writes. -/
def unitCycle (busy : Bool) (target : Option Nat) (u : Nat) (s : State) : State :=
  if !s.unitActive u then s
  else
    let s1 := collideWaiting target u s
    let x := s1.unit u
    if busy || decide (x.grantedTo = s.time.tick + 1) || s1.ringBusy u then ageUnit true u s1
    else if let some s2 := s1.waitingRecord u then ageUnit true u s2
    else
      let feed := if s1.underTest u x.tail 1 then none else x.feeder.head?
      match feed, takeServable s1 u x.waiting with
      | some v, _ => ageUnit true u (feedWord u v (s1.setUnit u { x with feeder := x.feeder.tail }))
      | none, some (r, rest) => ageUnit true u (serveNoc u r (s1.setUnit u { x with waiting := rest }))
      | none, none => ageUnit false u (grantMarch u s1)

/-! The probe log (R82, R83). -/

/-- The unit of the log bank named at 0x3000 sub 4: station [11:4], bank [3:0]. -/
def State.logUnit (s : State) : Nat := s.obj 0x3000 4 % 4096

/-- A log word enters the feeder, or is due to be dropped: no room among 8, or refused by the bank (R82, R83, R148). -/
def logWord (v : BitVec 32) (s : State) : State :=
  let u := s.logUnit
  let x := s.unit u
  if 8 ≤ x.feeder.length ∨ s.logRefusal u ≠ 0 ∨ s.unitActive u = false then
    { s with fab := { s.fab with logDue := some (u, s.logRefusal u) } }
  else s.setUnit u { x with feeder := x.feeder ++ [v.toNat] }

/-- A due log word is dropped. -/
def dropLogWord (s : State) : State :=
  match s.fab.logDue with
  | none => s
  | some d => dropLog d.1 d.2 { s with fab := { s.fab with logDue := none } }

/-! Capture rings (R154, R155). -/

/-- A record comes to capture ring `g`: it is stored, or waits at the feeder while it would reach the row under test or others wait
(R155, R159). A ring that is not on takes none (R164). -/
def captureRecord (g : Nat) (bytes : List Byte) (s : State) : State :=
  let u := 4096 + g
  let x := s.unit u
  if bytes.length = 0 ∨ s.unitActive u = false then s
  else if !x.recWait.isEmpty || s.underTest u x.tail (bytes.length / 4) then
    s.setUnit u { x with recWait := x.recWait ++ [bytes] }
  else storeCapture u bytes s

end Sys2Proof.Machine
end

