-- ==== Sys2Proof/Machine/Pattern.lean ====
section
/-! DEFINITION. The pattern layer: matching, result words, strobe admission, the load window, the parity checker, clears and
the layer's return, with the meanings of the pattern commands (R110 to R137). -/

namespace Sys2Proof.Machine

/-- An entry of a bank, in the physical station that serves `st` (R21). -/
def State.patEntry (s : State) (st e : Nat) : PatEntry := Tbl.at {} s.pat.entries (s.physOf st * 4096 + e)

/-- An entry of a bank replaced. -/
def State.setEntry (s : State) (st e : Nat) (x : PatEntry) : State :=
  { s with pat := { s.pat with entries := Tbl.upd {} s.pat.entries (s.physOf st * 4096 + e) x } }

/-- Row of the bank's array that serves entry `e`: its own, or spare row 4096 + r of the repair map in the shadow (R129). -/
def State.patRow (s : State) (st e : Nat) : Nat :=
  match Tbl.at 0 s.rst.repair (4096 * st + e) with
  | 0 => e
  | r + 1 => 4096 + r

/-- Spare rows in use in the bank of `st` (R129). -/
def State.spareRows (s : State) (st : Nat) : Nat := (s.rst.repair.filter (fun x => decide (x.1 / 4096 = st))).length

/-- What factory test leaves: at most 64 repaired entries in a present bank, each with a spare row of its own (R129). -/
def Part.repairOk (p : Part) : Bool :=
  Tbl.wf (fun _ => 0) p.repair && (List.range 256).all (fun st =>
    let rows := (p.repair.filter (fun x => decide (x.1 / 4096 = st))).map Prod.snd
    p.absent.getLsbD st || (decide rows.Nodup && rows.all (fun r => decide (r ≤ 64))))

/-- The station has a bank: grade -P or -H and not absent (R26). -/
def State.bankPresent (s : State) (st : Nat) : Bool := decide (s.part.grade ≠ .n) && !s.part.absent.getLsbD st

/-- The bank is on: present, and the layer on, restarted and not fenced (R133, R134). -/
def State.bankOn (s : State) (st : Nat) : Bool :=
  s.bankPresent st && decide (s.pat.layer = .on) && !s.pat.dark && !s.fenced 16

/-- One-page mode (R122). -/
def State.onePage (s : State) (st : Nat) : Bool := decide (s.obj (0x4100 + st) 1 = 1)

/-- Page in force; 0 in one-page mode (R122). -/
def State.pageOf (s : State) (st : Nat) : Nat := if s.onePage st then 0 else s.obj (0x4100 + st) 2 % 2

/-- Entry `e` lies in an active page (R123). -/
def State.pageActive (s : State) (st e : Nat) : Bool :=
  s.sectorHasContext (sectorOf st) && (s.onePage st || decide (e / 2048 = s.pageOf st))

/-- Search cap of the context in force: 1, 2 or 4 (R119, Table 5-2). -/
def State.searchCap (s : State) (st : Nat) : Nat :=
  match s.stationFrame (s.ctxOf (sectorOf st)) st 0 4 0 % 4 with
  | 1 => 2
  | 2 => 4
  | _ => 1

/-- An entry matches a key: valid, and equal in every bit that is cared for (R111). -/
def PatEntry.matches (e : PatEntry) (key : BitVec 144) : Bool := e.valid && decide ((key ^^^ e.value) &&& e.care = 0)

/-- The listed entries of the page in force, with their numbers, ascending. -/
def State.pageEntries (s : State) (st : Nat) : List (Nat × PatEntry) :=
  let base := s.physOf st * 4096
  let lo := base + 2048 * s.pageOf st
  let n := if s.onePage st then 4096 else 2048
  ((s.pat.entries.filter (fun x => decide (lo ≤ x.1) && decide (x.1 < lo + n))).map (fun x => (x.1 - base, x.2)))

/-- The result word of a search: PAGE, TAG, COUNT, INDEX, MULTI, MATCH (Table 5-1, R116). -/
def resultWord (page : Nat) (hits : List (Nat × PatEntry)) : Nat :=
  match hits with
  | [] => page * 2 ^ 31
  | h :: _ =>
    page * 2 ^ 31 + h.2.tag.toNat * 2 ^ 22 + min hits.length 255 * 2 ^ 14 + h.1 * 4 +
      (if 2 ≤ hits.length then 2 else 0) + 1

/-- The result of a search of the page in force. -/
def State.search (s : State) (st : Nat) (key : BitVec 144) : Nat :=
  resultWord (s.pageOf st) ((s.pageEntries st).filter (fun e => e.2.matches key))

/-- What the bank decides about a strobe (R120). -/
inductive Strobe where
  | accepted | overCap | spacing
  deriving DecidableEq, Repr

/-- Spacing first, then the cap (R120). -/
def strobeDecision (lastAccepted : Bool) (count cap : Nat) : Strobe :=
  if lastAccepted then .spacing else if cap ≤ count then .overCap else .accepted

/-- Set cause bits of a bank; event 768 + s once in each beat (R121, Table 5-10). -/
def bankCause (st bits : Nat) (s : State) : State :=
  let b := s.bank st
  raiseOnce (768 + st) (s.setBank st { b with causes := b.causes ||| bits })

/-- The result word that answers a strobe: ABSENT when the bank is not on, 0 in reset, nothing but PAGE when refused (R115,
R117, R131, R133). DESIGN CHOICE (log 145): a bank that is absent or not on and also in per-block reset answers ABSENT (Table 0-2
and R133, "in every case") and not the 0 of R131; the spec does not rank the two. -/
def State.strobeResult (s : State) (st : Nat) (key : BitVec 144) (d : Strobe) : Nat :=
  if !s.bankOn st then 2 ^ 30
  else if s.bankInReset st then 0
  else match d with
    | .accepted => s.search st key
    | _ => s.pageOf st * 2 ^ 31

/-- Counters and causes of a strobe (R120, R121, R133): an accepted strobe at a bank that is on counts as a search, also while the bank is
in per-block reset and answers 0 (R131, Tables 5-7 and 5-8). -/
def countStrobe (st : Nat) (d : Strobe) (s : State) : State :=
  let b := s.bank st
  match d with
  | .accepted =>
    let on := s.bankOn st
    let s1 := s.setBank st { b with
      accepted := b.accepted + 1, lastAccepted := true, searches := if on then wrapInc 64 b.searches else b.searches }
    if on then { s1 with pat := { s1.pat with searches := wrapInc 64 s.pat.searches } } else s1
  | .overCap =>
    let s1 := s.setBank st { b with lastAccepted := false, overCap := satInc 32 b.overCap }
    bankCause st 1 { s1 with pat := { s1.pat with overCap := satInc 32 s.pat.overCap } }
  | .spacing =>
    let s1 := s.setBank st { b with lastAccepted := false, spacing := satInc 32 b.spacing }
    bankCause st 2 { s1 with pat := { s1.pat with spacing := satInc 32 s.pat.spacing } }

/-- FAB cycles from a strobe to its result: 6, or 10 or 11 over an asynchronous PATTERN crossing (R114, R177). -/
def State.searchDelay (s : State) (st : Nat) : Nat :=
  if bitOf (s.obj 0x2100 4) 1 then (if Config.asyncLate 1 s.time.tick st then 11 else 10) else 6

/-- A search strobe in the FAB cycle in progress: its result is due after the search delay (R113, R114). -/
def strobe (st : Nat) (key : BitVec 144) (s : State) : State :=
  let b := s.bank st
  let d := strobeDecision b.lastAccepted b.accepted (s.searchCap st)
  let word := s.strobeResult st key d
  let s1 := countStrobe st d s
  let x := s1.station st
  s1.setStation st { x with pat := x.pat ++ [⟨s.time.tick + s.searchDelay st, 0, word⟩] }

/-- A FAB cycle without a strobe ends the spacing interval (R120). -/
def noStrobe (st : Nat) (s : State) : State :=
  let b := s.bank st
  if b.lastAccepted then s.setBank st { b with lastAccepted := false } else s

/-! The load window (R125 to R128). -/

/-- An entry line as its 64-byte number; reserved bytes read 0 (Table 5-3). -/
def PatEntry.line (e : PatEntry) : Line :=
  BitVec.ofNat 512 (e.value.toNat + e.care.toNat * 2 ^ 144 + e.tag.toNat * 2 ^ 288 + b2n e.valid * 2 ^ 296)

/-- Parity of the low `n` bits of a number. -/
def parityBit (n v : Nat) : Bool := (whichBelow n (bitOf v)).length % 2 == 1

/-- The parity bits of an entry's contents (R130). -/
def PatEntry.parityOf (e : PatEntry) : BitVec 4 :=
  let a := parityBit 144 e.value.toNat
  let b := parityBit 144 e.care.toNat
  let c := parityBit 8 e.tag.toNat != e.valid
  BitVec.ofNat 4 (b2n a + 2 * b2n b + 4 * b2n c + 8 * b2n ((a != b) != c))

/-- The entry a line spells, with its parity bits; a don't-care bit is stored with value 0 (R112, R130). -/
def lineEntry (x : Nat) : PatEntry :=
  let care := BitVec.ofNat 144 (bitsAt x 144 144)
  let e : PatEntry :=
    { value := BitVec.ofNat 144 x &&& care, care := care, tag := BitVec.ofNat 8 (bitsAt x 288 8), valid := bitOf x 296 }
  { e with parity := e.parityOf }

/-- The four parity bits are those of the contents, the fourth that of the stored other three (R130). -/
def PatEntry.parityHolds (e : PatEntry) : Bool :=
  decide (e.parity % 8 = e.parityOf % 8) && !parityBit 4 e.parity.toNat

/-- Stored bits flipped by upsets: bits 0 to 143 of VALUE, 144 to 287 of CARE, 288 to 295 of TAG, 296 VALID, 297 to 300 the
parity bits. -/
def PatEntry.upset (e : PatEntry) (flips : BitVec 301) : PatEntry :=
  { value := e.value ^^^ flips.extractLsb' 0 144, care := e.care ^^^ flips.extractLsb' 144 144
    tag := e.tag ^^^ flips.extractLsb' 288 8, valid := e.valid != flips.getLsbD 296
    parity := e.parity ^^^ flips.extractLsb' 297 4 }

/-- A window access refused with BUSERR is counted and recorded when it lies within a bank (Table 5-4). -/
def noteRefused (addr : Nat) (s : State) : State :=
  if patEnd ≤ addr then s
  else
    let st := (addr - patBase) / 0x40000
    let b := s.bank st
    bankCause st 4 (s.setBank st { b with refused := satInc 32 b.refused, refusedAddr := addr })

/-- A window access answered BUSERR. -/
def windowRefused (req : ReqId) (addr : Nat) (s : State) : State := answerStatus req .buserr (noteRefused addr s)

/-- The first row of Table 5-4 that holds for an access; `fenced` says which domains answer it FENCED. -/
def State.windowStatus (s : State) (addr : Nat) (legal : Bool) (fenced : Nat → Bool) : Status :=
  let st := (addr - patBase) / 0x40000
  let e := (addr - patBase) % 0x40000 / 64
  if (decide (s.part.grade ≠ .n) && (fenced 16 || decide (s.pat.layer ≠ .on))) || (decide (addr < patEnd) && fenced (sectorOf st))
  then .fenced
  else if decide (addr < patEnd) && s.bankInReset st then .abortReset
  else if !legal || decide (patEnd ≤ addr) || !s.bankPresent st || s.pageActive st e then .buserr
  else .ok

/-- A window access, answered in the order of Table 5-4; `data` is `none` for a read, and a write that arrives `bad` is not performed
(R253). -/
def patternAccess (req : ReqId) (addr : Nat) (legal : Bool) (data : Option Nat) (bad : Bool) (s : State) : State :=
  if !s.reaches req then s
  else
    let t := openTxn req addr data.isSome s
    if addr < patBase then answerStatus req .buserr t
    else
      let st := (addr - patBase) / 0x40000
      let e := (addr - patBase) % 0x40000 / 64
      match t.windowStatus addr legal (fun n => s.fencedFor n req) with
      | .ok =>
        (match data with
          | none => answer req .ok (t.patEntry st e).line t
          | some v => if bad then answerStatus req .dataerr t else answerStatus req .ok (t.setEntry st e (lineEntry v)))
      | .buserr => windowRefused req addr t
      | st => answerStatus req st t

/-- A scheduled-class write of an entry line, from step 2 of the release: stored or refused as Table 5-4 states, without a response; one
that is marked is discarded (R253, R259, R377). -/
def patternScheduled (addr v : Nat) (bad : Bool) (s : State) : State :=
  if s.time.relStep < 2 then s
  else match s.windowStatus addr (decide (addr % 64 = 0)) s.fenced with
    | .ok => if bad then s else s.setEntry ((addr - patBase) / 0x40000) ((addr - patBase) % 0x40000 / 64) (lineEntry v)
    | .buserr => noteRefused addr s
    | _ => s

/-! Checking and clearing (R130 to R134). -/

/-- The checker of a bank reads its next entry, in whose stored bits `flips` have been upset since it was last looked at: the
entry keeps its bits, and a mismatch is recorded (R130). -/
def parityCheck (st : Nat) (flips : BitVec 301) (s0 : State) : State :=
  let b := s0.bank st
  let e := (s0.patEntry st b.checkPos).upset flips
  let s := s0.setEntry st b.checkPos e
  let b1 := { b with
    checkPos := (b.checkPos + 1) % 4096
    passes := if b.checkPos = 4095 then wrapInc 32 b.passes else b.passes }
  if !e.parityHolds then
    bankCause st 8 (s.setBank st { b1 with parityEntry := b.checkPos, parityCount := satInc 16 b.parityCount })
  else s.setBank st b1

/-- PATTERN_PARITY_CHECK: the checker of bank s reads one entry, of which `flips` names the stored bits that upsets have flipped
(R130). It runs while VL4 is on. -/
def execPatternParityCheck (st : Fin 256) (flips : BitVec 301) (s : State) : Host.Outcome State Fault Refusal :=
  if s.bankPresent st.val && decide (s.pat.layer = .on) && !s.bankInReset st.val && s.l0Runs then
    doneFab (parityCheck st.val flips s)
  else done s

/-- Every entry of a bank cleared (R131, R132). -/
def clearBank (st : Nat) (s : State) : State :=
  { s with pat := { s.pat with
    entries := s.pat.entries.filter (fun x => decide (x.1 / 4096 ≠ s.physOf st)) } }

/-- PATTERN_BANK_CLEAR_DONE: the clear that a per-block reset began is complete (R131). -/
def execPatternBankClearDone (st : Fin 256) (s : State) : Host.Outcome State Fault Refusal :=
  let b := s.bank st.val
  if b.clearing then done ((clearBank st.val s).setBank st.val { b with clearing := false })
  else done s

/-- The layer begins to ramp: at start-up (step 7 of Table 17-6) or when it is switched on (R132, R134). -/
def rampLayer (s : State) : State :=
  if s.pat.layer = .notFitted then s
  else { s with
    pat := { s.pat with layer := .ramping, dark := true, offAtAck := false }
    pwr := { s.pwr with regOn := setBit s.pwr.regOn 3 true } }

/-- The ramp of VL4 ends and the clear of every bank begins (R132, R134). DESIGN CHOICE (log 147): the spec bounds the ramp by a
time only, and no command ends it; the beat edge at which the layer goes from ramping to clearing is a free value. -/
def layerClears (s : State) : State :=
  if s.pat.layer = .ramping ∧ Config.undefinedBits s.freeCtr % 2 = 1 then
    { s with pat := { s.pat with layer := .clearing }, freeCtr := s.freeCtr + 1 }
  else if s.pat.layer = .ramping then { s with freeCtr := s.freeCtr + 1 }
  else s

/-- The power state in force as 0x2300 sub 0x02 shows it: 4 while one is entered, 5 while one is left. -/
def State.powerShown (s : State) : Nat := if s.pwr.transition ≠ 0 then s.pwr.transition else s.pwr.state

/-- An exit to RUN ends when no sector and not the pattern layer ramps any more (R410; DEDUCED, log 114). -/
def closeExit (s : State) : State :=
  if s.pwr.transition = 5 ∧ s.pwr.state = 0 ∧ s.pwr.ramping = [] ∧ s.pat.layer ≠ .ramping ∧ s.pat.layer ≠ .clearing
  then { s with pwr := { s.pwr with transition := 0 } } else s

/-- Event 80 where the power state in force changes by `f` (R425). -/
def withPowerEvent (f : State → State) (s : State) : State := raiseIf (decide ((f s).powerShown ≠ s.powerShown)) 80 (f s)

/-- PATTERN_LAYER_ON: VL4 has ramped and every bank is cleared: the fence is lifted and event 28 raised; the banks are on
from the next datum beat (R134). At a cold start-up the layer is on at once, without the event (R132, Table 17-6). DESIGN CHOICE
(log 148): event 28 is also raised when the layer returns after UPPER-OFF or after a warm reset that found it off, which
Table 5-10 does not name. -/
def execPatternLayerOn (s : State) : Host.Outcome State Fault Refusal :=
  if s.pat.layer = .ramping ∨ s.pat.layer = .clearing then
    if s.rst.phase = .starting ∧ s.rst.warmStart = false then
      done { s with pat := { s.pat with entries := [], layer := .on, dark := false } }
    else
      let t := { s with pat := { s.pat with entries := [], layer := .on, dark := true } }
      done (withPowerEvent closeExit (raise 28 (if s.pwr.state = 0 then deviceFenceOff 16 t else t)))
  else done s

end Sys2Proof.Machine
end

