-- ==== Sys2Proof/Machine/AddressMap.lean ====
section
/-! DEFINITION. The address map of the mesh: what a 48-bit address names, where its target is attached, which fence domains
cover it, and where every requester is attached (R19, R239, R250, R261, R264, R270, R271, R276, R277). -/

namespace Sys2Proof.Machine

/-- What an address names (Table 10-9, R271). Offsets are within the unit named. -/
inductive Place where
  | dram (c off : Nat)
  | hold (u w : Nat)
  | pattern (st e : Nat)
  | patternRest              -- the pattern window past its last bank (Table 5-4)
  | code (k off : Nat)
  | data (k off : Nat)
  | pool (off : Nat)
  | window (slot line : Nat)
  | submit (e : Nat)
  | slots (e off : Nat)
  | secure (off : Nat)
  | workerDram (w off : Nat)
  | workerCtl (w off : Nat)
  | unmapped
  deriving DecidableEq, Repr

/-- Capacity C of a fitted channel in bytes (R276). -/
def capacityOf (code : Nat) : Nat :=
  match code with
  | 1 => 2 ^ 34
  | 2 => 2 ^ 35
  | 3 => 2 ^ 36
  | 4 => 2 ^ 37
  | _ => 0

/-- Capacity C in force. -/
def State.capacity (s : State) : Nat := capacityOf (s.obj 0x3800 2)

/-- Channel and offset of a DRAM address under an interleave code (R277). -/
def interleave (code cap a : Nat) : Nat × Nat :=
  match code with
  | 0 => (a / cap, a % cap)
  | 1 => (bitsAt a 8 4, a / 4096 * 256 + a % 256)
  | _ => (bitsAt a 12 4, a / 65536 * 4096 + a % 4096)

/-- The group that serves worker `w`: the lowest-numbered one whose link-table byte names it. -/
def State.groupOfWorker (s : State) (w : Nat) : Option Nat :=
  (List.range 32).find? (fun g => byteAt (s.obj 0x3600 3) g == w)

/-- The groups that serve worker `w` (0x5000 + w sub 2). -/
def State.groupsOfWorker (s : State) (w : Nat) : List Nat := whichBelow 32 (fun g => byteAt (s.obj 0x3600 3) g == w)

/-- A lane group. -/
def State.group (s : State) (g : Nat) : Group := Tbl.at {} s.lan.groups g

/-- A lane group replaced. -/
def State.setGroup (s : State) (g : Nat) (x : Group) : State :=
  { s with lan := { s.lan with groups := Tbl.upd {} s.lan.groups g x } }

/-- The group whose carriage takes the flits for worker `w`: the lowest-numbered one that serves it of those that are trained, else of
those that are not lost, else of all (R238). -/
def State.carrierOf (s : State) (w : Nat) : Option Nat :=
  let gs := s.groupsOfWorker w
  match gs.find? (fun g => (s.group g).trained), gs.find? (fun g => (s.group g).linked) with
  | some g, _ => some g
  | none, some g => some g
  | none, none => gs.head?

/-- What a DRAM address names: nothing at or above 16C (R276). -/
def State.dramPlace (s : State) (a : Nat) : Place :=
  if a < 16 * s.capacity then .dram (interleave (s.obj 0x3800 3) s.capacity a).1 (interleave (s.obj 0x3800 3) s.capacity a).2
  else .unmapped

/-- What an address of the Keeper stores and pool names (R271). -/
def storePlace (o : Nat) : Place :=
  if 0x1000000 ≤ o ∧ o < 0x1400000 then .pool (o - 0x1000000)
  else if o < 0x400000 ∧ o % 0x100000 < 0x40000 then .code (o / 0x100000) (o % 0x100000)
  else if o < 0x400000 ∧ 0x80000 ≤ o % 0x100000 ∧ o % 0x100000 < 0xC0000 then .data (o / 0x100000) (o % 0x100000 - 0x80000)
  else .unmapped

/-- What an address of the dictionary and control window names (R271, R357). -/
def controlPlace (o : Nat) : Place :=
  if o < 0x400 then (if o % 0x100 < 0x80 then .window (o / 0x100) (o % 0x100 / 0x40) else .unmapped)
  else if 0x100000000 ≤ o ∧ o < 0x100040000 then
    let e := (o - 0x100000000) / 0x10000
    let x := o % 0x10000
    if x < 0x40 then .submit e else if 0x1000 ≤ x ∧ x < 0x1100 then .slots e (x - 0x1000) else .unmapped
  else .unmapped

/-- What an address names on this device (Table 10-9). -/
def State.place (s : State) (a : Nat) : Place :=
  if a < 0x020000000000 then s.dramPlace a
  else if holdBase ≤ a ∧ a < holdEnd then .hold (unitAt a).1 (unitAt a).2
  else if patBase ≤ a ∧ a < patEnd then .pattern ((a - patBase) / 0x40000) ((a - patBase) % 0x40000 / 64)
  else if patEnd ≤ a ∧ a < 0x060000000000 then .patternRest
  else if 0x060000000000 ≤ a ∧ a < 0x070000000000 then storePlace (a - 0x060000000000)
  else if 0x070000000000 ≤ a ∧ a < 0x078000000000 then controlPlace (a - 0x070000000000)
  else if 0x078000000000 ≤ a ∧ a < 0x078000100000 then .secure (a - 0x078000000000)
  else if 0x800000000000 ≤ a ∧ a < 0xC00000000000 then
    let w := (a - 0x800000000000) / 0x020000000000
    if s.manager && (s.groupOfWorker w).isSome then .workerDram w ((a - 0x800000000000) % 0x020000000000) else .unmapped
  else if 0xC00000000000 ≤ a ∧ a < 0xE00000000000 then
    let w := (a - 0xC00000000000) / 0x010000000000
    if s.manager && (s.groupOfWorker w).isSome then .workerCtl w ((a - 0xC00000000000) % 0x010000000000) else .unmapped
  else .unmapped

/-- Fence domains that cover a place (Table 10-7). -/
def placeDomains : Place → List Nat
  | .dram c _ => [17 + c]
  | .hold u _ => [unitFence u]
  | .pattern st _ => [16, sectorOf st]
  | .patternRest => [16]
  | .code k _ => [65 + k]
  | .data k _ => [65 + k]
  | .workerDram w _ => [69 + w]
  | .workerCtl w _ => [69 + w]
  | _ => []

/-- Fence domains that cover a place now: a worker's windows are reached through the group that carries them (Table 10-7). -/
def State.domainsOf (s : State) (p : Place) : List Nat :=
  match p with
  | .workerDram w _ => placeDomains p ++ ((s.carrierOf w).map (fun g => 33 + g)).toList
  | .workerCtl w _ => placeDomains p ++ ((s.carrierOf w).map (fun g => 33 + g)).toList
  | _ => placeDomains p

/-- The first router answers a new request to the place FENCED (R265). -/
def State.placeFenced (s : State) (p : Place) : Bool := (s.domainsOf p).any s.fenced

/-! Attachments: a router number and a port code (Tables 10-1 and 10-2). -/

/-- Port of a station's shaft. -/
def shaftPort (st : Nat) : Nat × Nat :=
  let row := st / 16
  let col := st % 16
  (8 * (row / 2) + col / 2, 4 + 2 * (row % 2) + col % 2)

/-- Port of a lane group. -/
def lanePort (g : Nat) : Nat × Nat := (8 * (g / 4) + (if g % 4 < 2 then 0 else 7), 8 + g % 2)

/-- Port of a DRAM channel. -/
def dramPort (c : Nat) : Nat × Nat := (if c < 8 then c else 56 + (c - 8), 10)

/-- Port of a Keeper core. -/
def keeperPort (k : Nat) : Nat × Nat := ([2, 5, 58, 61].getD k 2, 11)

/-- Port of a move engine. -/
def movePort (e : Nat) : Nat × Nat := ([24, 31, 32, 39].getD e 24, 14)

/-- Port of a requester (Table 10-5). -/
def requesterPort : Requester → Nat × Nat
  | .keeper k => keeperPort k.val
  | .dict => (3, 12)
  | .config => (4, 13)
  | .move e => movePort e.val
  | .carriage g => lanePort g.val
  | .eyeScan g => lanePort g.val
  | .security => (60, 15)

/-- Port at which a place is attached, `none` for a place that is nowhere. -/
def State.placePort (s : State) : Place → Option (Nat × Nat)
  | .dram c _ => some (dramPort c)
  | .hold u _ => some (if u < 4096 then shaftPort (u / 16) else lanePort ((u - 4096) % 32))
  | .pattern st _ => some (shaftPort st)
  | .code k _ => some (keeperPort k)
  | .data k _ => some (keeperPort k)
  | .pool _ => some (59, 12)
  | .window _ _ => some (3, 12)
  | .submit e => some (movePort e)
  | .slots e _ => some (movePort e)
  | .secure _ => some (60, 13)
  | .workerDram w _ => (s.carrierOf w).map lanePort
  | .workerCtl w _ => (s.carrierOf w).map lanePort
  | .patternRest => none
  | .unmapped => none

/-- An attachment port exists at a router where Table 10-2 places one; a direction port where it stays in the mesh (R249). -/
def portExists (r p : Nat) : Bool :=
  let x := r % 8
  let y := r / 8
  match p with
  | 0 => decide (y < 7)
  | 1 => decide (x < 7)
  | 2 => decide (0 < y)
  | 3 => decide (0 < x)
  | 8 => x == 0 || x == 7
  | 9 => x == 0 || x == 7
  | 10 => y == 0 || y == 7
  | 11 => [2, 5, 58, 61].contains r
  | 12 => [3, 59].contains r
  | 13 => [4, 60].contains r
  | 14 => [24, 31, 32, 39].contains r
  | 15 => r == 60
  | _ => decide (4 ≤ p ∧ p < 8)

/-- Output port of a router towards a destination router and port: X first, then Y, then the attachment (R251). -/
def routeOut (r dr dp : Nat) : Nat :=
  if r % 8 < dr % 8 then 1
  else if dr % 8 < r % 8 then 3
  else if r / 8 < dr / 8 then 0
  else if dr / 8 < r / 8 then 2
  else dp

end Sys2Proof.Machine
end

