-- ==== Sys2Proof/Machine/Mix.lean ====
section
/-! DEFINITION. The keyed mix: scrambling and descrambling of a 64-bit block under a 64-bit tweak and four key words (R472 to
R474), and the key check of R476. -/

namespace Sys2Proof.Machine

/-- Subkey P or Q: P = K_A‖K_B, Q = K_C‖K_D; a key holds K_A in its low 32 bits. -/
def mixSub (key : BitVec 128) (i : Nat) : BitVec 64 :=
  if i % 2 = 0 then key.extractLsb' 0 32 ++ key.extractLsb' 32 32 else key.extractLsb' 64 32 ++ key.extractLsb' 96 32

/-- Rotation of round i. -/
def mixRot (i : Nat) : Nat :=
  match i with
  | 0 => 23
  | 1 => 41
  | 2 => 13
  | _ => 31

/-- One round of the mix. -/
def mixRound (key : BitVec 128) (t : BitVec 64) (i : Nat) (x : BitVec 64) : BitVec 64 :=
  (x + (mixSub key i ^^^ t)).rotateLeft (mixRot i) ^^^ (mixSub key (i + 1) + BitVec.ofNat 64 i)

/-- One round backwards. -/
def unmixRound (key : BitVec 128) (t : BitVec 64) (i : Nat) (x : BitVec 64) : BitVec 64 :=
  (x ^^^ (mixSub key (i + 1) + BitVec.ofNat 64 i)).rotateRight (mixRot i) - (mixSub key i ^^^ t)

/-- The keyed mix (R472). -/
def mix (key : BitVec 128) (t x : BitVec 64) : BitVec 64 :=
  mixRound key t 3 (mixRound key t 2 (mixRound key t 1 (mixRound key t 0 x)))

/-- Descrambling (R473). -/
def unmix (key : BitVec 128) (t x : BitVec 64) : BitVec 64 :=
  unmixRound key t 0 (unmixRound key t 1 (unmixRound key t 2 (unmixRound key t 3 x)))

/-- The key check of a direction (R476). -/
def keyCheck (key : BitVec 128) : Nat := (mix key 0 0).toNat % 2 ^ 32

end Sys2Proof.Machine
end

