-- ==== Sys2Proof/Machine/Dram.lean ====
section
/-! DEFINITION. The DRAM channels: line format, keys and epochs, reads and writes, training, self-refresh, refresh management,
parity replay, sweeps and rekeys, with the meanings of the DRAM commands (R274 to R292, R471, R477). -/

namespace Sys2Proof.Machine

/-- A channel. -/
def State.channel (s : State) (c : Nat) : Channel := Tbl.at {} s.dram.channels c

/-- A channel replaced. -/
def State.setChannel (s : State) (c : Nat) (x : Channel) : State :=
  { s with dram := { s.dram with channels := Tbl.upd {} s.dram.channels c x } }

/-- State of a channel: NONE while the capacity code is 0 (R276, Table 11-4). -/
def State.chState (s : State) (c : Nat) : ChState := if s.obj 0x3800 2 = 0 then .none else (s.channel c).state

/-- Set cause bits of a channel (Table 11-11). -/
def chCause (c bits : Nat) (s : State) : State :=
  let x := s.channel c
  s.setChannel c { x with causes := x.causes ||| bits }

def causeCorr : Nat := 1
def causeUncorr : Nat := 2
def causeEpoch : Nat := 4
def causePoison : Nat := 8
def causeParity : Nat := 16
def causeFaulty : Nat := 32
def causeTrainFail : Nat := 64
def causeClaim : Nat := 128

/-- A security alarm: causes set in Table 19-7, alarm counted, event 1512; bits 3 to 0 are held in the backup domain (R471,
Table 19-7). -/
def alarm (bits : Nat) (s : State) : State :=
  raise 1512 { s with
    sec := { s.sec with causes := s.sec.causes ||| (bits / 16 * 16), alarms := satInc 32 s.sec.alarms }
    backup := { s.backup with tamperLatches := s.backup.tamperLatches ||| (bits % 16) } }

/-! Keys (R282, R283, R471, R477). -/

/-- The key in slot `e` of a channel. -/
def Channel.key (x : Channel) (e : Nat) : Option (BitVec 128) := Tbl.at none x.keys e

/-- A channel with slot `e` filled. -/
def Channel.setKey (x : Channel) (e : Nat) (k : Option (BitVec 128)) : Channel := { x with keys := Tbl.upd none x.keys e k }

/-- The current key. -/
def Channel.current (x : Channel) : Option (BitVec 128) := x.key x.epoch

/-- A key drawn from the random source, or a failed health test with ENTROPY set (R477). -/
def drawKey (healthy : Bool) (s : State) : Option (BitVec 128) × State :=
  if healthy then (some (BitVec.ofNat 128 (Config.random s.freeCtr)), s.draw) else (none, alarm 0x80 s)

/-- The engine fills slot E before the channel serves a request; a failed test leaves the channel waiting (R477). -/
def firstKey (healthy : Bool) (c : Nat) (s : State) : State :=
  let x := s.channel c
  match drawKey healthy s with
  | (some k, t) => t.setChannel c { x.setKey x.epoch (some k) with waitsEntropy := false }
  | (none, t) => t.setChannel c { x with waitsEntropy := true }

/-! Stored sub-bursts (R278, R279). -/

/-- Key of a sub-burst in `Dram.cells`. -/
def cellKey (c off : Nat) : Nat := c * 2 ^ 33 + off / 32

/-- Tweak of the 64-bit word at address `a` under epoch `e` (R279). -/
def dramTweak (a e : Nat) : BitVec 64 := BitVec.ofNat 64 (a / 8 ^^^ e * 2 ^ 60)

/-- Four words of a sub-burst under a map of words. -/
def mapWords (f : Nat → BitVec 64 → BitVec 64) (x : BitVec 256) : BitVec 256 :=
  f 3 (x.extractLsb' 192 64) ++ f 2 (x.extractLsb' 128 64) ++ f 1 (x.extractLsb' 64 64) ++ f 0 (x.extractLsb' 0 64)

/-- A sub-burst at address `a` scrambled under a key and epoch. -/
def scrambleSub (key : BitVec 128) (e a : Nat) (x : BitVec 256) : BitVec 256 :=
  mapWords (fun j w => mix key (dramTweak (a / 32 * 32 + 8 * j) e) w) x

/-- A sub-burst descrambled. -/
def descrambleSub (key : BitVec 128) (e a : Nat) (x : BitVec 256) : BitVec 256 :=
  mapWords (fun j w => unmix key (dramTweak (a / 32 * 32 + 8 * j) e) w) x

/-- The address of offset `off` of channel `c` under an interleave code: the inverse of R277. -/
def interleaved (code cap c off : Nat) : Nat :=
  match code with
  | 0 => c * cap + off
  | 1 => off / 256 * 4096 + c * 256 + off % 256
  | _ => off / 4096 * 65536 + c * 4096 + off % 4096

/-- A sub-burst of a line that reads OK as a sweep rewrites it: descrambled with the key of its own epoch and stored under the current one
(R289). -/
def rewriteSub (e : Nat) (key : BitVec 128) (keys : Tbl (Option (BitVec 128))) (a : Nat) (b : SubBurst) : SubBurst :=
  match Tbl.at none keys b.epoch with
  | none => b
  | some k => ⟨scrambleSub key e a (descrambleSub k b.epoch a b.data), e, b.poison⟩

/-- What an unlisted sub-burst holds. -/
def DramBase.sub (gen0 c off : Nat) : DramBase → SubBurst
  | .powerOn => ⟨Config.dramData gen0 (cellKey c off), Config.dramEpoch gen0 (cellKey c off) % 16,
                 Config.dramPoison gen0 (cellKey c off)⟩
  | .lost gen => ⟨Config.dramData gen (cellKey c off), Config.dramEpoch gen (cellKey c off) % 16,
                  Config.dramPoison gen (cellKey c off)⟩
  | .swept e key keys ilv cap old =>
    rewriteSub e key keys (interleaved ilv cap c (off / 32 * 32)) (DramBase.sub gen0 c off old)
  | .zeroed e key ilv cap => ⟨scrambleSub key e (interleaved ilv cap c (off / 32 * 32)) 0, e, false⟩
  | .mixed bound low high => if off < bound then DramBase.sub gen0 c off low else DramBase.sub gen0 c off high

/-- What an unlisted sub-burst of a channel holds. -/
def State.cellBase (s : State) (c off : Nat) : SubBurst := (s.channel c).base.sub s.dramGen c off

/-- The stored sub-burst at offset `off` of channel `c`: its bits do not depend on the address that reaches it (R277). -/
def State.cell (s : State) (c off : Nat) : SubBurst :=
  match Tbl.at none s.dram.cells (cellKey c off) with
  | some b => b
  | none => s.cellBase c off

/-- A sub-burst stored. -/
def State.setCell (s : State) (c off : Nat) (b : SubBurst) : State :=
  { s with dram := { s.dram with cells := Tbl.upd none s.dram.cells (cellKey c off) (some b) } }

/-! Reads (R280). -/

/-- Data, status and counting of a sub-burst read (Table 11-5). -/
structure SubRead where
  data : BitVec 256
  status : Status
  deriving DecidableEq, Repr

/-- A read error is recorded (0x3810 + c sub 7). -/
def recordReadError (c a kind : Nat) (s : State) : State :=
  let x := s.channel c
  s.setChannel c { x with lastError := a % 2 ^ 48 * 2 ^ 16 + kind }

/-- Outcome of the read of a sub-burst (Table 11-5). -/
def State.subOutcome (s : State) (c off a : Nat) (err : NibbleErr) : SubRead :=
  let b := s.cell c off
  match err with
  | .many m => ⟨b.data ^^^ m, .dataerr⟩
  | e =>
    match (s.channel c).key b.epoch with
    | none => ⟨0, .buserr⟩
    | some k =>
      if b.poison then ⟨descrambleSub k b.epoch a b.data, .dataerr⟩
      else if e = .one then ⟨descrambleSub k b.epoch a b.data, .okCorrected⟩
      else ⟨descrambleSub k b.epoch a b.data, .ok⟩

/-- Counters, causes and events of a sub-burst read (Table 11-5). -/
def countSubRead (c off a : Nat) (err : NibbleErr) (s : State) : State :=
  let b := s.cell c off
  let x := s.channel c
  match err with
  | .many _ =>
    raise (1025 + 8 * c) (recordReadError c a 1 (chCause c causeUncorr
      (s.setChannel c { x with uncorrectable := satInc 32 x.uncorrectable })))
  | e =>
    match x.key b.epoch with
    | none =>
      alarm 0x10 (raise (1026 + 8 * c) (recordReadError c a 2 (chCause c causeEpoch
        (s.setChannel c { x with epochErrs := satInc 32 x.epochErrs }))))
    | some _ =>
      if b.poison then
        raise (1025 + 8 * c) (recordReadError c a 3 (chCause c causePoison
          (s.setChannel c { x with poisoned := satInc 32 x.poisoned })))
      else if e = .one then
        raiseOnce (1024 + 8 * c) (chCause c causeCorr (s.setChannel c { x with corrected := satInc 32 x.corrected }))
      else s

/-- Status of two sub-bursts together (R255). -/
def worse (p q : Status) : Status :=
  if p = .buserr ∨ q = .buserr then .buserr
  else if p = .dataerr ∨ q = .dataerr then .dataerr
  else if p = .okCorrected ∨ q = .okCorrected then .okCorrected
  else .ok

/-- A line read: both sub-bursts, the lower half from A (R277, R280). -/
def lineRead (c off a : Nat) (errA errB : NibbleErr) (s : State) : Status × Line × State :=
  let o := off / 64 * 64
  let b := a / 64 * 64
  let ra := s.subOutcome c o b errA
  let rb := s.subOutcome c (o + 32) (b + 32) errB
  (worse ra.status rb.status, rb.data ++ ra.data,
   countSubRead c (o + 32) (b + 32) errB (countSubRead c o b errA s))

/-! Writes (R281). -/

/-- A write of epoch E sets its bit of the tag map (R282). -/
def markEpoch (c : Nat) (s : State) : State :=
  let x := s.channel c
  s.setChannel c { x with tagMap := x.tagMap ||| 2 ^ x.epoch }

/-- A sub-burst written under the current epoch. -/
def subWrite (c off a : Nat) (data : BitVec 256) (poison : Bool) (s : State) : State :=
  let x := s.channel c
  match x.current with
  | some k => markEpoch c (s.setCell c off ⟨scrambleSub k x.epoch a data, x.epoch, poison⟩)
  | none => s

/-- A line written. -/
def lineWrite (c off a : Nat) (data : Line) (poison : Bool) (s : State) : State :=
  let o := off / 64 * 64
  let b := a / 64 * 64
  subWrite c (o + 32) (b + 32) (data.extractLsb' 256 256) poison (subWrite c o b (data.extractLsb' 0 256) poison s)

/-! Rows, refresh management and the retry buffer (R284, R285, R287). -/

/-- One step of the refresh-management LFSR, x^32 + x^22 + x^2 + x + 1 (R285). -/
def lfsrStep (x : Nat) : Nat :=
  2 * x % 2 ^ 32 + b2n ((bitOf x 31 != bitOf x 21) != (bitOf x 1 != bitOf x 0))

/-- Commands enter the retry buffer of 32 (R287). -/
def pushRetry (new l : List DramCommand) : List DramCommand := (l ++ new).drop (l.length + new.length - 32)

/-- Data rate of a code in units of 15.36 Gb/s / 144 (Table 11-2). -/
def rateUnits (code : Nat) : Nat := [60, 72, 80, 90, 100, 120, 135, 144].getD code 144

/-- FAB cycles of `n` MEMC cycles are over after `d` of them: MEMC runs at D/16, FAB at f_R/8 (Table 11-2, R388, R399). -/
def State.memcPast (s : State) (n d : Nat) : Bool :=
  decide (n * (3 * s.rootKhz) ≤ d * (8 * 20000 * rateUnits (s.obj 0x3800 1)))

/-- The bank's row is open: after an access to it, until a refresh, or until the bank has had no access for the page idle time (R284). -/
def State.rowOpen (s : State) (c bank row : Nat) : Bool :=
  let x := s.channel c
  decide (Tbl.at 0 x.openRows bank = row) && !(s.beatsRun && s.memcPast (s.obj 0x3800 6) (s.time.tick + 1 - Tbl.at 0 x.rowUsed bank))

/-- An ACT: the bank's other row is closed, a refresh-management command that the bank is owed comes first, and the LFSR steps (R284,
R285). -/
def openRow (c off : Nat) (s : State) : State :=
  let bank := Config.dramBank off
  let row := Config.dramRow off + 1
  let x := s.channel c
  let owed := x.rfmOwed.contains bank
  let l := lfsrStep x.lfsr
  let owes := decide (l % 2 ^ (s.obj 0x3800 7) = 0)
  let rest := x.rfmOwed.filter (fun b => decide (b ≠ bank))
  s.setChannel c { x with
    lfsr := l
    rfmIssued := if owed then wrapInc 64 x.rfmIssued else x.rfmIssued
    rfmOwed := if owes then insertNat bank rest else rest
    retry := pushRetry ((if Tbl.at 0 x.openRows bank = 0 then [] else [.precharge bank]) ++ (if owed then [.manage bank] else []) ++
      [.activate bank row]) x.retry
    openRows := Tbl.upd 0 x.openRows bank row }

/-- An access to a line, with its row opened if it is not open; a page idle time of 0 closes it again (R284). -/
def activate (c off : Nat) (s : State) : State :=
  let bank := Config.dramBank off
  let t := if s.rowOpen c bank (Config.dramRow off + 1) then s else openRow c off s
  let x := t.channel c
  let closes := decide (s.obj 0x3800 6 = 0)
  t.setChannel c { x with
    retry := pushRetry (.access off :: if closes then [.precharge bank] else []) x.retry
    rowUsed := Tbl.upd 0 x.rowUsed bank (s.time.tick + 1)
    openRows := if closes then Tbl.upd 0 x.openRows bank 0 else x.openRows }

/-! Requests (R280, R281, R284, R286, R288, R290, R471). -/

/-- A request is performed; a best-effort write that arrives bad is not, and is answered DATAERR (R253, R254). DEDUCED (log 170): the POISON
that R281 gives a write marked DATAERR is that of scheduled data which lost its class on the way (R188). -/
def performDram (c off : Nat) (r : DramReq) (s : State) : State :=
  let s1 := activate c off s
  match r.kind with
  | 0 =>
    let t := lineRead c off r.addr r.errA r.errB s1
    answer r.req t.1 t.2.1 t.2.2
  | 1 =>
    if r.bad then answerStatus r.req .dataerr s1
    else answerStatus r.req .ok (lineWrite c off r.addr (BitVec.ofNat 512 r.data) false s1)
  | _ =>
    let o := off / 32 * 32
    let a := r.addr / 32 * 32
    let rd := s1.subOutcome c o a r.errA
    let s2 := countSubRead c o a r.errA s1
    if rd.status = .buserr ∨ rd.status = .dataerr then answerStatus r.req rd.status s2
    else if r.bad then answerStatus r.req .dataerr s2
    else
      let i := off % 32 / 4
      let new := mergeBE (fieldAt 32 rd.data.toNat i) r.data r.be
      answerStatus r.req rd.status (subWrite c o a (BitVec.ofNat 256 (withBits rd.data.toNat (32 * i) 32 new)) false s2)

/-- The channel answers every request BUSERR: it holds no current key, or waits for its first (R471, R477). -/
def Channel.keyless (x : Channel) : Bool := x.noKey || x.waitsEntropy

/-- The channel answers a request at an offset BUSERR: while the initialise of a channel that held no key runs, only at offsets that it
has not yet written (R471). -/
def Channel.keylessAt (x : Channel) (off : Nat) : Bool := x.keyless || (x.opening && decide (x.sweepPos ≤ off / 64))

/-- A request is held by the controller in its place in the order of arrival; one that finds 1,024 held waits at the router input (R284). -/
def holdAtController (c : Nat) (r : DramReq) (s : State) : State :=
  let x := s.channel c
  let q := { r with arrived := x.arrivals }
  let y := { x with arrivals := x.arrivals + 1 }
  s.setChannel c (if x.held.length < 1024 then { y with held := x.held ++ [q] } else { y with queued := x.queued ++ [q] })

/-- An archive flit enters the channel's buffer, in its place in the order of arrival (R284, R294). -/
def bufferFlit (c : Nat) (f : ArchiveFlit) (s : State) : State :=
  let x := s.channel c
  s.setChannel c { x with buffer := x.buffer ++ [{ f with arrived := x.arrivals }], arrivals := x.arrivals + 1 }

/-- A request reaches its controller: performed, answered, or held. Archive flits that the controller has buffered come first (R284,
Table 20-5). -/
def controllerTakes (c off : Nat) (r : DramReq) (s : State) : State :=
  let x := s.channel c
  match s.chState c with
  | .ready =>
    if x.keylessAt off then answerStatus r.req .buserr s
    else if x.buffer.isEmpty then performDram c off r s
    else holdAtController c r s
  | .faulty => answerStatus r.req .dataerr s
  | .none => answerStatus r.req .buserr s
  | _ => holdAtController c r s

/-- A DRAM request in its order of statuses: FENCED, ABORT_RESET, BUSERR, then the controller (R255, R276). -/
def dramRequest (r : DramReq) (legal : Bool) (s : State) : State :=
  if !s.reaches r.req then s
  else
    let t := openTxn r.req r.addr (decide (r.kind ≠ 0)) s
    match t.place r.addr with
    | .dram c off =>
      if s.fencedFor (17 + c) r.req then answerStatus r.req .fenced t
      else if t.dramInReset c then answerStatus r.req .abortReset t
      else if !legal then answerStatus r.req .buserr t
      else controllerTakes c off r t
    | _ => answerStatus r.req .buserr t

/-- A DRAM channel without a waiting request. -/
def Channel.without (r : ReqId) (x : Channel) : Channel :=
  { x with held := x.held.filter (fun q => decide (q.req ≠ r)), queued := x.queued.filter (fun q => decide (q.req ≠ r)) }

/-- A request that the controller has held is performed. -/
def serveOne (c : Nat) (r : DramReq) (s : State) : State :=
  match s.place r.addr with
  | .dram _ off => if (s.channel c).keylessAt off then answerStatus r.req .buserr s else performDram c off r s
  | _ => answerStatus r.req .buserr s

/-- The held requests that `p` selects are performed in order of arrival. -/
def serveSome (c : Nat) (p : DramReq → Bool) (s : State) : State :=
  let x := s.channel c
  ((x.held ++ x.queued).filter p).foldl (fun t r => serveOne c r t)
    (s.setChannel c { x with held := x.held.filter (fun r => !p r), queued := x.queued.filter (fun r => !p r) })

/-- A READY channel performs the requests that it holds, once no archive flit is buffered (R284). -/
def serveHeld (c : Nat) (s : State) : State := if (s.channel c).buffer.isEmpty then serveSome c (fun _ => true) s else s

/-- Requests that waited are answered with one status. -/
def endHeld (c : Nat) (st : Status) (s : State) : State :=
  let x := s.channel c
  (x.held ++ x.queued).foldl (fun t r => answerStatus r.req st t) (s.setChannel c { x with held := [], queued := [] })

/-- DRAM_READ: a read of a DRAM line under Table 11-5 (R280). -/
def execDramRead (req : ReqId) (addr : BitVec 48) (errA errB : NibbleErr) (s : State) : Host.Outcome State Fault Refusal :=
  done (dramRequest ⟨req, addr.toNat, 0, 0, 0, false, errA, errB, 0⟩ (decide (addr.toNat % 64 = 0)) s)

/-- DRAM_WRITE_LINE: a 64-byte write stored under the current epoch (R281), not performed when it arrives bad (R253). -/
def execDramWriteLine (req : ReqId) (addr : BitVec 48) (data : Line) (bad : Bool) (s : State) :
    Host.Outcome State Fault Refusal :=
  done (dramRequest ⟨req, addr.toNat, 1, s.carries req data.toNat, 0, bad, .clean, .clean, 0⟩ (decide (addr.toNat % 64 = 0)) s)

/-- DRAM_WRITE_WORD: a 4-byte write is a read-modify-write of its sub-burst (R281). -/
def execDramWriteWord (req : ReqId) (addr : BitVec 48) (data : BitVec 32) (be : BitVec 4) (err : NibbleErr) (bad : Bool)
    (s : State) : Host.Outcome State Fault Refusal :=
  done (dramRequest ⟨req, addr.toNat, 2, s.carries req data.toNat, be.toNat, bad, err, .clean, 0⟩ (decide (addr.toNat % 4 = 0)) s)

/-! Claims (R292). -/

/-- Code of a claim's holder. -/
def chClaimCode : ChClaim → Nat
  | .rfm => 1
  | .rescramble => 2
  | _ => 0

/-- A request whose claim is held: recorded, CLAIM_REFUSED, event 1030 + 8c (R292). -/
def chClaimRefused (c asked : Nat) (s : State) : State :=
  let x := s.channel c
  raise (1030 + 8 * c) (chCause c causeClaim (s.setChannel c { x with lastRefusal := chClaimCode x.claim + 4 * asked }))

/-- A channel whose activity begins: READY, with the requests that waited for the end of its self-refresh performed (R284, R286). -/
def wakeChannel (c : Nat) (s : State) : State :=
  if (s.channel c).state = .selfRefresh then serveHeld c (s.setChannel c { s.channel c with state := .ready }) else s

/-- The abort code of a request whose claim is held: that of the state in a channel that takes no such request whatever its claim, since
the state stands first in Table 13-2 (R292, R337). -/
def State.claimAbort (s : State) (c : Nat) : Nat :=
  match s.chState c with
  | .off => abortState
  | .none => abortState
  | .faulty => abortState
  | _ => abortBusy

/-! Training and channel states (R288, R290, R291). -/

/-- A channel becomes FAULTY: fenced, its held requests answered DATAERR, event 1028 + 8c (R288). -/
def chFaulty (c : Nat) (s : State) : State :=
  let x := s.channel c
  let s1 := s.setChannel c { x with
    state := .faulty, causes := x.causes ||| causeFaulty, claim := if x.claim = .retraining then .none else x.claim }
  raise (1028 + 8 * c) (endHeld c .dataerr (deviceFenceOn (17 + c) s1))

/-- A full training starts and takes the claim. -/
def startTraining (c : Nat) (s : State) : State :=
  let x := s.channel c
  s.setChannel c { x with state := .training, claim := .retraining }

/-- A periodic retraining starts and takes the claim. -/
def startRetraining (c : Nat) (s : State) : State :=
  let x := s.channel c
  s.setChannel c { x with state := .retraining, claim := .retraining }

/-- A periodic retraining request at the dictionary. -/
def periodicWrite (c : Nat) (s : State) : Nat × State :=
  if (s.channel c).claim ≠ .none then (s.claimAbort c, chClaimRefused c 0 s)
  else if s.chState c = .ready ∨ s.chState c = .selfRefresh then (0, startRetraining c s)
  else (abortState, s)

/-- A full training request at the dictionary: a READY channel goes to RETRAINING, a FAULTY one to TRAINING (Table 11-4). -/
def fullTrainWrite (c : Nat) (s : State) : Nat × State :=
  if s.chState c = .none ∨ s.chState c = .off then (abortState, s)
  else if (s.channel c).claim ≠ .none then (abortBusy, chClaimRefused c 0 s)
  else if s.chState c = .faulty then (0, startTraining c s)
  else (0, startRetraining c s)

/-- RETRAIN_PERIODIC_REQUEST: a write of 1 to 0x3810 + c sub 0x0B (R290, R292). -/
def execRetrainPeriodicRequest (path : Path) (c : Fin 16) (s : State) : Host.Outcome State Fault Refusal :=
  done (onPath path (0x3810 + c.val) 0xB s (periodicWrite c.val s))

/-- RETRAIN_FULL_REQUEST: a write of 2 to 0x3810 + c sub 0x0B (R290, R292). -/
def execRetrainFullRequest (path : Path) (c : Fin 16) (s : State) : Host.Outcome State Fault Refusal :=
  done (onPath path (0x3810 + c.val) 0xB s (fullTrainWrite c.val s))

/-- DRAM_PERIODIC_RETRAIN_DUE: the interval expires: the channel retrains, or the retraining is skipped and counted as a
refusal when the claim is held, of a channel that has then left self-refresh (R290, R291, Table 11-4). -/
def execDramPeriodicRetrainDue (c : Fin 16) (s : State) : Host.Outcome State Fault Refusal :=
  if s.obj 0x3800 8 = 0 then done s
  else if s.chState c.val = .ready ∨ s.chState c.val = .selfRefresh then
    done (if (s.channel c.val).claim = .none then startRetraining c.val s else chClaimRefused c.val 0 (wakeChannel c.val s))
  else if s.chState c.val = .training ∨ s.chState c.val = .retraining then done (chClaimRefused c.val 0 s)
  else done s

/-- A training succeeds: READY, claim free, the device's fence lifted, the first key, and the waiting requests (R288, R290,
R477); in QUIET and DEEP the channel is then in self-refresh (Table 16-3). -/
def trained (c : Nat) (s : State) : State :=
  let x := s.channel c
  let s1 := s.setChannel c { x with state := .ready, claim := .none, trainings := wrapInc 32 x.trainings }
  let s2 := if s1.noc.deviceFence.getLsbD (17 + c) then deviceFenceOff (17 + c) s1 else s1
  let s3 := if x.current = none ∧ x.noKey = false ∧ x.waitsEntropy = false
    then firstKey (Config.entropyHealthy s.freeCtr) c s2 else s2
  let s4 := raise (1029 + 8 * c) (serveHeld c s3)
  if (s.pwr.state = 1 ∨ s.pwr.state = 2) ∧ s4.chState c = .ready then
    s4.setChannel c { s4.channel c with state := .selfRefresh, openRows := [] }
  else s4

/-- DRAM_TRAINING_DONE: a training or retraining completes into READY, or fails into FAULTY (R290). -/
def execDramTrainingDone (c : Fin 16) (success : Bool) (s : State) : Host.Outcome State Fault Refusal :=
  if s.chState c.val = .training ∨ s.chState c.val = .retraining then
    done (if success then trained c.val s else chFaulty c.val (chCause c.val causeTrainFail s))
  else done s

/-- DRAM_REFRESH_DUE: a per-bank refresh is issued, and its bank's row is closed (R285). -/
def execDramRefreshDue (c : Fin 16) (bank : Nat) (s : State) : Host.Outcome State Fault Refusal :=
  if s.chState c.val = .none ∨ s.chState c.val = .off ∨ s.dramInReset c.val = true then done s
  else
    let x := s.channel c.val
    done (s.setChannel c.val { x with
      refreshes := x.refreshes + 1, openRows := Tbl.upd 0 x.openRows bank 0, retry := pushRetry [.refresh bank] x.retry })

/-! Charges (R189, R295). -/

/-- Descriptor of stream `i` in a value of 0x3800 sub 0x10 (Table 11-6). -/
def streamWord (v i : Nat) : Nat := fieldAt 256 v i
def descBase (d : Nat) : Nat := bitsAt d 0 48
def descSize (d : Nat) : Nat := bitsAt d 64 32 * 4096
def descIndexBase (d : Nat) : Nat := bitsAt d 96 48
def descEntries (d : Nat) : Nat := bitsAt d 160 32
def descShare (d : Nat) : Nat := bitsAt d 192 32
def descMode (d : Nat) : Nat := bitsAt d 224 2
def descCrc (d : Nat) : Bool := bitOf d 226
def descPinBack (d : Nat) : Nat := bitsAt d 232 4
def descPinFwd (d : Nat) : Nat := bitsAt d 236 2
def descKeep (d : Nat) : Nat := bitsAt d 240 8

/-- Charge of a stream to channel `c` (R295). -/
def streamCharge (ilv cap d c : Nat) : Nat :=
  if descMode d = 0 then 0
  else match ilv with
    | 0 => if descBase d / cap = c then descShare d else 0
    | 1 => (descShare d + 15) / 16 + 4
    | _ => (descShare d + 15) / 16 + 64

/-- A_c of channel `c` under a value of the descriptors (R295). -/
def State.charge (s : State) (descs c : Nat) : Nat :=
  ((List.range 32).map (fun i => streamCharge (s.obj 0x3800 3) s.capacity (streamWord descs i) c)).sum

/-- A_c in force. -/
def State.chargeNow (s : State) (c : Nat) : Nat := s.charge (s.obj 0x3800 0x10) c

/-- L_c = floor(B × Q_c / 80), Q_c = (8/3) × D / f_B (R189). -/
def State.chargeLimit (s : State) (code b : Nat) : Nat := b * 122880000 * rateUnits code / (34560 * s.obj 0x2100 1)

/-- Some charge would exceed its limit at a data rate, for the descriptors and B in force or pending (R275). -/
def State.rateTooLow (s : State) (code : Nat) : Bool :=
  let descs := [s.obj 0x3800 0x10, s.projected false 0x3800 0x10, s.projected true 0x3800 0x10]
  let bs := [s.B, s.projected false 0x2000 0x10, s.projected true 0x2000 0x10]
  descs.any (fun d => (List.range 16).any (fun c => bs.any (fun b => decide (s.chargeLimit code b < s.charge d c))))

/-- The channels that a data rate write retrains: those that are there and started. -/
def State.rateChannels (s : State) : List Nat :=
  (List.range 16).filter (fun c => decide (s.chState c ≠ .none) && decide (s.chState c ≠ .off))

/-- A data rate write at the dictionary (R275): Service-class; refused while an activity holds the claim of a channel that it would
retrain (R292). -/
def dataRateWrite (code : Nat) (s : State) : Nat × State :=
  let held := s.rateChannels.filter (fun c => decide ((s.channel c).claim ≠ .none))
  if s.dev ≠ .service then (abortState, s)
  else if 8 ≤ code then (abortRange, s)
  else if s.rateTooLow code then (abortRange, raise 21 s)
  else if held ≠ [] then (abortBusy, held.foldl (fun t c => chClaimRefused c 0 t) s)
  else (0, s.rateChannels.foldl (fun t c => startTraining c t) (s.setObj 0x3800 1 code))

/-- DATA_RATE_WRITE (R275). -/
def execDataRateWrite (path : Path) (code : BitVec 8) (s : State) : Host.Outcome State Fault Refusal :=
  done (onPath path 0x3800 1 s (dataRateWrite code.toNat s))

/-! Self-refresh, parity and refresh management (R285 to R287). -/

/-- DRAM_SELF_REFRESH_ENTRY: an idle channel without charge, its claim free, enters self-refresh (R286, Table 20-6). -/
def execDramSelfRefreshEntry (c : Fin 16) (s : State) : Host.Outcome State Fault Refusal :=
  let x := s.channel c.val
  if s.chState c.val = .ready ∧ s.chargeNow c.val = 0 ∧ x.claim = .none ∧ x.buffer = [] ∧ x.held = [] then
    done (s.setChannel c.val { x with state := .selfRefresh, openRows := [] })
  else done s

/-- DRAM_SELF_REFRESH_EXIT: the channel leaves self-refresh and the waiting requests proceed (R286). -/
def execDramSelfRefreshExit (c : Fin 16) (s : State) : Host.Outcome State Fault Refusal :=
  let x := s.channel c.val
  if s.chState c.val = .selfRefresh ∧ (x.held ≠ [] ∨ x.buffer ≠ []) then
    done (serveHeld c.val (s.setChannel c.val { x with state := .ready }))
  else done s

/-- DRAM_PARITY_ALERT: the alert and the replays are counted; `replaysAlerting` replays alert again, and the third makes the
channel FAULTY (R287). -/
def execDramParityAlert (c : Fin 16) (replaysAlerting : Nat) (s : State) : Host.Outcome State Fault Refusal :=
  if s.chState c.val = .ready ∧ s.dramInReset c.val = false then
    let x := s.channel c.val
    let n := min (replaysAlerting + 1) 3
    let s1 := raise (1027 + 8 * c.val) (chCause c.val causeParity (s.setChannel c.val { x with
      alerts := satInc 32 x.alerts, replays := satAdd 32 x.replays n }))
    done (if 3 ≤ replaysAlerting then chFaulty c.val s1 else s1)
  else done s

/-- Accesses of the channel run, so that a sweep can. -/
def State.chServes (s : State) (c : Nat) : Bool := decide (s.chState c = .ready) || decide (s.chState c = .selfRefresh)

/-- A refresh-management sweep request at the dictionary. -/
def rfmWrite (c : Nat) (s : State) : Nat × State :=
  let x := s.channel c
  if x.claim ≠ .none then (s.claimAbort c, chClaimRefused c 1 s)
  else if !s.chServes c then (abortState, s)
  else
    let t := wakeChannel c s
    (0, t.setChannel c { t.channel c with claim := .rfm })

/-- RFM_SWEEP_REQUEST (R285, R292). -/
def execRfmSweepRequest (path : Path) (c : Fin 16) (s : State) : Host.Outcome State Fault Refusal :=
  done (onPath path (0x3810 + c.val) 0xC s (rfmWrite c.val s))

/-- RFM_SWEEP_DONE: the command has been issued once to every bank, and the claim is free (R285, R292). -/
def execRfmSweepDone (c : Fin 16) (s : State) : Host.Outcome State Fault Refusal :=
  let x := s.channel c.val
  if x.claim = .rfm then
    done (s.setChannel c.val { x with
      claim := .none, rfmIssued := (x.rfmIssued + Config.dramBanks) % 2 ^ 64, rfmOwed := []
      retry := pushRetry ((List.range Config.dramBanks).map .manage) x.retry })
  else done s

/-! Sweeps, initialise and rekey (R282, R283, R289, R471, R477). -/

/-- A re-scramble sweep request at the dictionary. -/
def sweepWrite (c : Nat) (s : State) : Nat × State :=
  let x := s.channel c
  if x.claim ≠ .none then (if x.current = none then abortState else s.claimAbort c, chClaimRefused c 2 s)
  else if !s.chServes c || x.current = none then (abortState, s)
  else
    let t := wakeChannel c s
    (0, t.setChannel c { t.channel c with
      claim := .rescramble, initialising := false, linesDone := 0, linesPoisoned := 0, sweepPos := 0, resweep := 0 })

/-- An initialise request at the dictionary: a channel without a key draws one into slot 0 (R471). -/
def initialiseWrite (c : Nat) (s : State) : Nat × State :=
  let x := s.channel c
  if x.claim ≠ .none then (if x.waitsEntropy then abortState else s.claimAbort c, chClaimRefused c 2 s)
  else if !s.chServes c || x.waitsEntropy then (abortState, s)
  else
    let u := wakeChannel c s
    let y := { u.channel c with
      claim := .rescramble, initialising := true, linesDone := 0, linesPoisoned := 0, sweepPos := 0, resweep := 0 }
    if x.noKey then
      match drawKey (Config.entropyHealthy u.freeCtr) u with
      | (some k, t) => (0, t.setChannel c { y.setKey 0 (some k) with epoch := 0, noKey := false, opening := true })
      | (none, t) => (abortOther, t)
    else (0, u.setChannel c y)

/-- RESCRAMBLE_SWEEP_REQUEST: value 1 at 0x3810 + c sub 0x0D (R289, R292). -/
def execRescrambleSweepRequest (path : Path) (c : Fin 16) (s : State) : Host.Outcome State Fault Refusal :=
  done (onPath path (0x3810 + c.val) 0xD s (sweepWrite c.val s))

/-- DRAM_INITIALISE_REQUEST: value 2 at 0x3810 + c sub 0x0D (R289, R292, R471). -/
def execDramInitialiseRequest (path : Path) (c : Fin 16) (s : State) : Host.Outcome State Fault Refusal :=
  done (onPath path (0x3810 + c.val) 0xD s (initialiseWrite c.val s))

/-- The address of a sub-burst: the inverse of the interleave in force (R277). -/
def State.dramAddr (s : State) (c off : Nat) : Nat := interleaved (s.obj 0x3800 3) s.capacity c off

/-- Listed sub-burst keys of a channel whose offsets lie from `lo` to below `hi`. -/
def State.cellKeys (s : State) (c lo hi : Nat) : List Nat :=
  (s.dram.cells.filter (fun x => decide (x.1 / 2 ^ 33 = c) && decide (lo ≤ x.1 % 2 ^ 33 * 32) && decide (x.1 % 2 ^ 33 * 32 < hi))).map
    Prod.fst

/-- Every sub-burst that such contents give reads OK with these keys. -/
def DramBase.readable (keys : Tbl (Option (BitVec 128))) : DramBase → Bool
  | .powerOn => false
  | .lost _ => false
  | .swept e _ _ _ _ _ => (Tbl.at none keys e).isSome
  | .zeroed e _ _ _ => (Tbl.at none keys e).isSome
  | .mixed _ low high => low.readable keys && high.readable keys

/-- The last segment of contents that a sweep has written. -/
def DramBase.last : DramBase → DramBase
  | .mixed _ _ high => high
  | b => b

/-- Contents in which a sweep has come from line `lo` to offset `bound`, writing `new`. -/
def DramBase.grow (lo bound : Nat) (new b : DramBase) : DramBase :=
  if lo = 0 then .mixed bound new b
  else match b with
    | .mixed p low old => if low.last = new then .mixed bound low old else .mixed bound (.mixed p low new) old
    | old => .mixed bound new old

/-- What lies above a sweep that has come to line `lo`. -/
def DramBase.above (lo : Nat) (b : DramBase) : DramBase :=
  if lo = 0 then b
  else match b with
    | .mixed _ _ old => old
    | b => b

/-- What the checks of a line's two sub-bursts find. -/
def lineErrs (errs : List (Nat × NibbleErr × NibbleErr)) (l : Nat) : NibbleErr × NibbleErr :=
  match errs.find? (fun e => decide (e.1 = l)) with
  | some e => e.2
  | none => (.clean, .clean)

/-- A read of line `l` ends OK. -/
def State.lineGood (s : State) (c l : Nat) : Bool :=
  decide ((s.subOutcome c (64 * l) (s.dramAddr c (64 * l)) .clean).status = .ok) &&
    decide ((s.subOutcome c (64 * l + 32) (s.dramAddr c (64 * l) + 32) .clean).status = .ok)

/-- The lines that a sweep from `lo` to `hi` takes one by one, in ascending order: those that are listed, those in which a check finds
errors, and of contents that may not all read OK those that do not. Every other line reads OK. -/
def State.sweepOwn (s : State) (c lo hi : Nat) (errs : List (Nat × NibbleErr × NibbleErr)) : List Nat :=
  let x := s.channel c
  let listed := (s.cellKeys c (64 * lo) (64 * hi)).map (fun k => k % 2 ^ 33 / 2)
  let failing := (errs.map Prod.fst).filter (fun l => decide (lo ≤ l) && decide (l < hi))
  let doubtful := if (x.base.above lo).readable x.keys then []
    else ((List.range (hi - lo)).map (fun i => lo + i)).filter (fun l => !s.lineGood c l)
  sortBy id (listed ++ failing ++ doubtful).dedup

/-- The commands of a pass over lines `lo` to `hi` with `n` accesses to each: which of them open a row the spec leaves open, a free value
(DESIGN CHOICE, log 165). -/
def sweepCommands (c lo hi n : Nat) (s : State) : State :=
  let opens := (Config.sweepOpens s.freeCtr).filter (fun o => decide (64 * lo ≤ o) && decide (o < 64 * hi))
  let t := opens.foldl (fun t o => openRow c o t) s.draw
  let x := t.channel c
  let m := min 32 (hi - lo)
  let passed := (List.range m).flatMap (fun i => List.replicate n (DramCommand.access (64 * (hi - m + i))))
  t.setChannel c { x with retry := pushRetry passed x.retry }

/-- A line that a sweep reads and rewrites under the current epoch: the read counts as any other, and a line whose read ends DATAERR or
BUSERR is rewritten with POISON set and counted (R280, R289). -/
def sweepLine (c l : Nat) (errs : NibbleErr × NibbleErr) (s : State) : State :=
  let a := s.dramAddr c (64 * l)
  let r := lineRead c (64 * l) a errs.1 errs.2 s
  let bad := decide (r.1 = .buserr) || decide (r.1 = .dataerr)
  let t := lineWrite c (64 * l) a r.2.1 bad r.2.2
  if bad then t.setChannel c { t.channel c with linesPoisoned := (t.channel c).linesPoisoned + 1 } else t

/-- A re-scramble sweep comes from line `lo` to line `hi` (R289). -/
def sweepLines (c lo hi : Nat) (errs : List (Nat × NibbleErr × NibbleErr)) (s : State) : State :=
  let s1 := (s.sweepOwn c lo hi errs).foldl (fun t l => sweepLine c l (lineErrs errs l) t) (sweepCommands c lo hi 2 s)
  let x := s1.channel c
  match x.current with
  | some k => markEpoch c (s1.setChannel c { x with
      base := x.base.grow lo (64 * hi) (.swept x.epoch k x.keys (s.obj 0x3800 3) s.capacity (x.base.above lo))
      sweepPos := hi, linesDone := hi / 64 })
  | none => s

/-- An initialise comes to line `hi`: zeros under the current epoch up to there (R289). -/
def zeroLines (c lo hi : Nat) (s0 : State) : State :=
  let s := sweepCommands c lo hi 1 s0
  let keys := s.cellKeys c (64 * lo) (64 * hi)
  let x := s.channel c
  match x.current with
  | some k =>
    markEpoch c ({ s with dram := { s.dram with
      cells := s.dram.cells.filter (fun y => !keys.contains y.1) } }.setChannel c { x with
        base := x.base.grow lo (64 * hi) (.zeroed x.epoch k (s.obj 0x3800 3) s.capacity)
        sweepPos := hi, linesDone := hi / 64 })
  | none => s0

/-- The sweep or initialise of a channel comes to line `hi`. -/
def sweepTo (c hi : Nat) (errs : List (Nat × NibbleErr × NibbleErr)) (s : State) : State :=
  let x := s.channel c
  if x.initialising then zeroLines c x.sweepPos hi s else sweepLines c x.sweepPos hi errs s

/-- The sweep has come to the last line: what it wrote is the whole contents. -/
def closeContents (c : Nat) (s : State) : State :=
  let x := s.channel c
  s.setChannel c { x with base := match x.base with
    | .mixed _ low _ => low
    | b => b }

/-- Lines that a sweep had written under an epoch which is no longer the current one are swept again, so that the completed sweep leaves every
line under the current epoch (R283; DEDUCED, log 198). -/
def resweepLines (c : Nat) (s : State) : State :=
  let x := s.channel c
  if x.resweep = 0 then s else sweepLines c 0 x.resweep [] s

/-- Lines of a channel. -/
def State.linesOfChannel (s : State) : Nat := s.capacity / 64

/-- A sweep or an initialise in progress goes on by some lines in a beat (R289). DESIGN CHOICE (log 166): by how many, the spec does not
say: a free value. -/
def sweepStep (c : Nat) (s : State) : State :=
  let x := s.channel c
  if x.claim = .rescramble ∧ s.chState c = .ready then
    let n := Config.undefinedBits s.freeCtr % (s.linesOfChannel - x.sweepPos + 1)
    if n = 0 then s.draw else sweepTo c (x.sweepPos + n) [] s.draw
  else s

/-- The sweeps of every channel in a beat. -/
def sweepsStep (s : State) : State := (List.range 16).foldl (fun t c => sweepStep c t) s

/-- SWEEP_DONE: every line is written under the current epoch: the other tag bits and key slots are cleared, the claim is free
and event 1031 + 8c is raised (R283, R289); `errs` is what the checks of lines not yet reached find. -/
def execSweepDone (c : Fin 16) (errs : List (Nat × NibbleErr × NibbleErr)) (s : State) : Host.Outcome State Fault Refusal :=
  if (s.channel c.val).claim = .rescramble then
    let s1 := resweepLines c.val (closeContents c.val (sweepTo c.val s.linesOfChannel errs s))
    let y := s1.channel c.val
    done (raise (1031 + 8 * c.val) (s1.setChannel c.val { y with
      claim := .none, initialising := false, opening := false, linesDone := s.capacity / 4096, sweepPos := 0, resweep := 0
      tagMap := 2 ^ y.epoch, keys := Tbl.upd none [] y.epoch y.current }))
  else done s

/-- Lines that a sweep in progress must take again when its epoch is no longer the current one. -/
def Channel.lineToResweep (x : Channel) : Nat := if x.claim = .rescramble then max x.resweep x.sweepPos else x.resweep

/-- A rekey request at the dictionary; `healthy` says how the health test of its draw ends (R282, R471, R477). -/
def rekeyWrite (c : Nat) (healthy : Bool) (s : State) : Nat × State :=
  let x := s.channel c
  let e := (x.epoch + 1) % 16
  if 16 ≤ c then (abortRange, s)
  else if x.noKey ∨ s.chState c = .none then (abortState, s)
  else if bitOf x.tagMap e then (abortBusy, raise (1030 + 8 * c) s)
  else match drawKey healthy s with
    | (some k, t) => (0, t.setChannel c { x.setKey e (some k) with epoch := e, resweep := x.lineToResweep })
    | (none, t) => (abortOther, t)

/-- DRAM_REKEY_REQUEST: a write of c to 0x2600 sub 0x31 loads slot (E + 1) mod 16 (R282, R477). -/
def execDramRekeyRequest (path : Path) (c : BitVec 8) (healthy : Bool) (s : State) : Host.Outcome State Fault Refusal :=
  done (onPath path 0x2600 0x31 s (rekeyWrite c.toNat healthy s))

/-- ENTROPY_RETRY: 1 ms after a failed health test the engine retries the draw of a waiting channel (R477). -/
def execEntropyRetry (c : Fin 16) (healthy : Bool) (s : State) : Host.Outcome State Fault Refusal :=
  if (s.channel c.val).waitsEntropy then done (firstKey healthy c.val s) else done s

/-- A channel whose key slots a security response has zeroed under a running sweep: lines already swept are swept again, and an initialise
begins again (R283). -/
def Channel.keysLost (x : Channel) : Channel :=
  if x.initialising then { x with keys := [], sweepPos := 0, resweep := 0 } else { x with keys := [], resweep := x.lineToResweep }

/-- The security response on one channel: slots zeroed, then a fresh key in the lowest epoch without a tag, or no key, with the held requests
answered BUSERR (R283, R471). DESIGN CHOICE (log 167): a sweep or initialise that runs ends unfinished where no key is left, so that the
state lasts until a new initialise is requested; it goes on under a fresh key. -/
def respondChannel (c : Nat) (s : State) : State :=
  let x := s.channel c
  let y := x.keysLost
  let ended := { y with
    noKey := true, opening := false, waitsEntropy := false, initialising := false
    claim := if x.claim = .rescramble then .none else x.claim }
  let t := match (List.range 16).find? (fun e => !bitOf x.tagMap e) with
    | some e =>
      match drawKey (Config.entropyHealthy s.freeCtr) s with
      | (some k, t) => t.setChannel c { y.setKey e (some k) with epoch := e, noKey := false, waitsEntropy := false }
      | (none, t) => t.setChannel c { y with epoch := e, noKey := false, waitsEntropy := true }
    | none => s.setChannel c ended
  if s.chState c = .ready ∧ (t.channel c).keyless = true then endHeld c .buserr t else t

end Sys2Proof.Machine
end

