-- ==== Sys2Proof/Machine/Archive.lean ====
section
/-! DEFINITION. Archive streams and retention: stream slots, the channels' flit buffers, segments, index records, pins, releases,
FULL and FROZEN, with the meanings of the archive commands (R190, R261, R293 to R303). -/

namespace Sys2Proof.Machine

/-- A stream. -/
def State.stream (s : State) (i : Nat) : Stream := Tbl.at {} s.dram.streams i

/-- A stream replaced. -/
def State.setStream (s : State) (i : Nat) (x : Stream) : State :=
  { s with dram := { s.dram with streams := Tbl.upd {} s.dram.streams i x } }

/-- Descriptor of stream `i` in force (Table 11-6). -/
def State.descOf (s : State) (i : Nat) : Nat := streamWord (s.obj 0x3800 0x10) i

/-- LANTERN_COAST (R399). -/
def State.coasting (s : State) : Bool :=
  match s.clk.lantern with
  | .coast => true
  | .relock => true
  | .align => true
  | _ => false

/-- The worker is adrift, until it resumes (R241). -/
def State.adrift (s : State) : Bool := decide (s.mer.own = 3) || decide (s.mer.own = 4)

/-- Byte `i` of the NoC plan in force (Table 10-6). -/
def State.planByte (s : State) (i : Nat) : Nat := byteAt (s.obj 0x3700 1) i

/-! Space (R298, R301). -/

/-- Bytes of the data region that unreleased segments hold. -/
def Stream.used (x : Stream) : Nat := (x.segs.map Segment.bytes).sum

/-- Unreleased segments whose records are written. -/
def Stream.recordsHeld (x : Stream) : Nat := (x.segs.filter Segment.recorded).length

/-- The next flit would write into an unreleased segment, or the next record would replace one still needed (R301). -/
def streamFull (d : Nat) (x : Stream) : Bool :=
  decide (descSize d < x.used + 64) || decide (descEntries d ≤ x.recordsHeld)

/-- FULL follows the space; event 36 once in each rotation (R301). -/
def updateFull (i : Nat) (s : State) : State :=
  let x := s.stream i
  let f := x.active && streamFull (s.descOf i) x
  let s1 := s.setStream i { x with full := f, fullRaised := x.fullRaised || f }
  raiseIf (f && !x.fullRaised) 36 s1

/-- The release pointer: the start of the oldest segment not yet released (R298). -/
def Stream.relOf (x : Stream) : Nat :=
  match x.segs with
  | [] => x.wp
  | g :: _ => g.start

/-- Drop released segments from the front while `p` allows, never the rotation in progress. -/
def dropSegs (p : Segment → Bool) : List Segment → List Segment
  | [] => []
  | g :: gs => if g.recorded && p g then dropSegs p gs else g :: gs

/-- Release by a rule, and the pointer and FULL that follow. -/
def releaseSegs (i : Nat) (p : Segment → Bool) (s : State) : State :=
  let x := s.stream i
  let y := { x with segs := dropSegs p x.segs }
  updateFull i (s.setStream i { y with rel := y.relOf })

/-- Segments released automatically: while free space is short, and the oldest is recorded and not pinned (R298). -/
def autoDrop (size need : Nat) : List Segment → List Segment
  | [] => []
  | g :: gs =>
    if g.recorded && !g.pinned && decide (size < ((g :: gs).map Segment.bytes).sum + need) then autoDrop size need gs
    else g :: gs

/-- Automatic release of stream `i` at a datum beat (R298, R300). -/
def autoRelease (i : Nat) (s : State) : State :=
  let d := s.descOf i
  let x := s.stream i
  if x.active && decide (descMode d = 1) && !x.frozen then
    let y := { x with segs := autoDrop (descSize d) (64 * descShare d) x.segs }
    s.setStream i { y with rel := y.relOf }
  else s

/-! Freezing (R300). -/

/-- A cause freezes the retention of stream `i` (R300). -/
def State.freezes (s : State) (i : Nat) : Bool := bitOf (s.obj 0x3800 0x13) i || s.adrift || s.coasting

/-- FROZEN follows its causes; event 38 on each entry and exit (R300). -/
def updateFrozen (s : State) : State :=
  (List.range 32).foldl (fun t i =>
    let f := t.freezes i
    if f = (t.stream i).frozen then t else raise 38 (t.setStream i { t.stream i with frozen := f })) s

/-! Index records (R296). -/

/-- An index record as its 128-bit number (Table 11-7). -/
def recordNumber (g : Segment) : Nat :=
  g.rot % 2 ^ 64 * 2 ^ 64 + g.start % 2 ^ 48 * 2 ^ 16 + g.classes % 256 * 2 ^ 8 + b2n g.pinned * 128 +
    b2n g.coast * 64 + b2n g.adrift * 32 + b2n (decide (g.bytes = 0)) * 16

/-- Sixteen bytes of a record stored: the other half of the sub-burst keeps its data where it can be read; the access opens its row
(R285). -/
def storeRecord (c off a v : Nat) (s0 : State) : State :=
  let s := activate c off s0
  let r := s.subOutcome c off a .clean
  let old := if r.status = .buserr then Config.undefinedBits s.freeCtr % 2 ^ 256 else r.data.toNat
  let new := BitVec.ofNat 256 (withBits old (8 * (off % 32)) 128 v)
  (subWrite c (off / 32 * 32) (a / 32 * 32) new false s).draw

/-- The controller of the channel commits archive writes now: READY, with a key, and out of reset (R290, R294). -/
def State.commits (s : State) (c : Nat) : Bool :=
  decide (s.chState c = .ready) && (s.channel c).current.isSome && !s.dramInReset c

/-- Sixteen bytes written through the controller at archive priority: at once where it can, else with the buffered archive flits, in order
of arrival (R290, R294, R296). -/
def writeRecord (a v : Nat) (s : State) : State :=
  match s.place a with
  | .dram c off =>
    if s.commits c && (s.channel c).buffer.isEmpty then storeRecord c off a v s
    else bufferFlit c { addr := a, data := BitVec.ofNat 512 v, poison := false, size := 16 } s
  | _ => s

/-- Write the record of the oldest unrecorded segment of stream `i` under descriptor `d`. -/
def recordSeg (i d : Nat) (g : Segment) (s : State) : State :=
  let x := s.stream i
  writeRecord (descIndexBase d + 16 * (x.records % descEntries d)) (recordNumber g)
    (s.setStream i { x with
      records := x.records + 1
      segs := x.segs.map (fun h => if h.rot = g.rot ∧ h.recorded = false then { h with recorded := true } else h) })

/-- Records due at the datum beat that opens rotation `rot`: those of rotations up to rot − PIN_BACK − 1 (R296). -/
def recordDue (i d rot : Nat) (s : State) : State :=
  ((s.stream i).segs.filter (fun g => !g.recorded && decide (g.rot + descPinBack d + 1 ≤ rot))).foldl
    (fun t g => recordSeg i d g t) s

/-- Every open record written at once with the pins seen so far (R302). -/
def recordAll (i d : Nat) (s : State) : State :=
  ((s.stream i).segs.filter (fun g => !g.recorded)).foldl (fun t g => recordSeg i d g t) s

/-! Flashes and flags of the rotation in progress (R296, R297). -/

/-- The last segment changed. -/
def onLast (f : Segment → Segment) : List Segment → List Segment
  | [] => []
  | [g] => [f g]
  | g :: gs => g :: onLast f gs

/-- Flashes of the classes in a mask, counted in the rotation in progress: recorded, and pinning what KEEP_MASK selects
(R297). -/
def pinStream (classes i : Nat) (s : State) : State :=
  let x := s.stream i
  let d := s.descOf i
  let segs := onLast (fun g => { g with classes := g.classes ||| classes }) x.segs
  if !x.active then s
  else if classes &&& descKeep d = 0 then s.setStream i { x with segs := segs }
  else
    s.setStream i { x with
      segs := segs.map (fun g => if s.time.rot ≤ g.rot + descPinBack d then { g with pinned := true } else g)
      pinUntil := max x.pinUntil (s.time.rot + descPinFwd d + 1) }

/-- Flashes pin segments of every stream. -/
def pinFlashes (classes : Nat) (s : State) : State :=
  if classes = 0 then s else (List.range 32).foldl (fun t i => pinStream classes i t) s

/-- A beat in which the device coasts or is adrift marks the rotation (Table 11-7). -/
def markBeat (s : State) : State :=
  if s.coasting || s.adrift then
    (List.range 32).foldl (fun t i =>
      let x := t.stream i
      if x.active then t.setStream i { x with
        segs := onLast (fun g => { g with coast := g.coast || t.coasting, adrift := g.adrift || t.adrift }) x.segs }
      else t) s
  else s

/-! Commits (R294, R296). -/

/-- A buffered archive write is performed: a flit's line, or an index record. -/
def performArchive (f : ArchiveFlit) (s : State) : State :=
  match s.place f.addr with
  | .dram c off =>
    if f.size = 16 then storeRecord c off f.addr f.data.toNat s else lineWrite c off f.addr f.data f.poison (activate c off s)
  | _ => s

/-- The request arrived before the archive flit, for the same line: they complete in that order (R284). -/
def DramReq.precedes (f : ArchiveFlit) (r : DramReq) : Bool := decide (r.addr / 64 = f.addr / 64) && decide (r.arrived < f.arrived)

/-- The oldest archive flit of a channel is committed, after the requests that precede it (R284, R294). -/
def commitFlit (c : Nat) (s : State) : State :=
  match (s.channel c).buffer with
  | [] => s
  | f :: rest =>
    let t := serveSome c (DramReq.precedes f) s
    performArchive f (t.setChannel c { t.channel c with buffer := rest })

/-- The flit lies in the data region of a descriptor. -/
def ArchiveFlit.inRegion (f : ArchiveFlit) (d : Nat) : Bool :=
  decide (f.size = 64) && decide (descBase d ≤ f.addr) && decide (f.addr < descBase d + descSize d)

/-- How many flits of a buffer there are up to the last one of a stream. -/
def upToLast (d : Nat) (l : List ArchiveFlit) : Nat := l.length - (l.reverse.takeWhile (fun f => !f.inRegion d)).length

/-- The buffered flits of a stream are committed, with those that arrived before them, in the channels that can; elsewhere they stay in their
order (R294, R302). -/
def commitStream (d c : Nat) (s : State) : State :=
  if s.commits c then serveHeld c (iterate (upToLast d (s.channel c).buffer) (fun _ => commitFlit c) s) else s

/-! Starting, stopping and turning rotations (R293, R296, R302). -/

/-- A stream takes a descriptor: pointers at the start of its regions (R293). -/
def startStream (i d : Nat) (s : State) : State :=
  s.setStream i { wp := descBase d, rel := descBase d, active := true, frozen := (s.stream i).frozen }

/-- A stopped stream goes on under a descriptor of the same regions: it keeps its pointers (R293). -/
def resumeStream (i : Nat) (s : State) : State :=
  s.setStream i { s.stream i with active := true, stopped := false }

/-- A stream that is off takes a descriptor of other regions: its pointers go to their start (R293, R302). -/
def moveStream (i d : Nat) (s : State) : State :=
  let x := s.stream i
  s.setStream i { wp := descBase d, rel := descBase d, stopped := x.stopped, frozen := x.frozen }

/-- A stream stops: its buffered flits are committed, then its open records written at once; WP, REL and RECORDS readable (R302). -/
def stopStream (i d : Nat) (s : State) : State :=
  let s1 := recordAll i d ((List.range 16).foldl (fun t c => commitStream d c t) s)
  let x := s1.stream i
  s1.setStream i { x with active := false, stopped := true, full := false }

/-- The fields whose change restarts a stream (R293). -/
def sameRegions (d e : Nat) : Bool :=
  decide (descBase d = descBase e) && decide (descSize d = descSize e) && decide (descIndexBase d = descIndexBase e) &&
    decide (descEntries d = descEntries e)

/-- A changed descriptor at its datum beat: stop, start, restart, or go on; a stream starts once the device has released. -/
def takeDescriptor (i old new : Nat) (s : State) : State :=
  let x := s.stream i
  if x.active then
    if descMode new = 0 then stopStream i old s
    else if sameRegions old new then s
    else startStream i new s
  else
    let t := if sameRegions old new then s else moveStream i new s
    if descMode new ≠ 0 && s.released then
      (if x.stopped && sameRegions old new then resumeStream i t else startStream i new t)
    else t

/-- A new rotation opens: due records, a segment at WP, pins of earlier flashes, automatic release, FULL (R296 to R301). -/
def openRotation (i : Nat) (s : State) : State :=
  let d := s.descOf i
  if !(s.stream i).active then s.setStream i { s.stream i with sent := 0 }
  else
    let s1 := recordDue i d s.time.rot s
    let x := s1.stream i
    let g : Segment := { rot := s.time.rot, start := x.wp, bytes := 0, classes := 0,
                         pinned := decide (s.time.rot < x.pinUntil), coast := s.coasting, adrift := s.adrift,
                         recorded := false }
    let y := { x with segs := x.segs ++ [g], sent := 0, fullRaised := false }
    updateFull i (autoRelease i (s1.setStream i { y with rel := y.relOf }))

/-! Commands. -/

/-- ARCHIVE_FLIT_COMMIT: a buffered archive flit is committed in arrival order, in a channel that is READY and has a key
(R294). -/
def execArchiveFlitCommit (c : Fin 16) (s : State) : Host.Outcome State Fault Refusal :=
  if s.commits c.val then done (serveHeld c.val (commitFlit c.val s))
  else done s

/-- A host release at the dictionary: byte 0 the stream, bytes 1 to 8 the rotation (R299, R300). -/
def archiveReleaseWrite (data : List Byte) (s : State) : Nat × State :=
  let v := ofBytes data
  let i := v % 256
  if i < 32 ∧ (s.stream i).frozen = true then (abortState, raise 37 s)
  else if data.length ≠ 9 then (abortLength, s)
  else if 32 ≤ i then (abortRange, s)
  else (0, releaseSegs i (fun g => decide (g.rot ≤ v / 256)) s)

/-- ARCHIVE_RELEASE: the host releases recorded segments up to rotation X, or is refused while frozen (R299, R300). -/
def execArchiveRelease (path : Path) (data : List Byte) (s : State) : Host.Outcome State Fault Refusal :=
  done (onPath path 0x3800 0x12 s (archiveReleaseWrite data s))

/-- The channel takes archive flits: it is there, not FAULTY, not in reset, not fenced, holds a key, and has credit for one
more (R190, R288, R294, R430, R471). -/
def State.channelCredit (s : State) (c : Nat) : Bool :=
  let x := s.channel c
  let inFlight := ((s.noc.flying ++ s.noc.waiting).filter (fun f =>
    decide (bitsAt f.flit.header.toNat 124 4 = 5) && decide (bitsAt f.flit.header.toNat 86 10 = (dramPort c).1 * 16 + 10))).length
  decide (s.chState c ≠ .none) && decide (s.chState c ≠ .faulty) && decide (s.chState c ≠ .off) && !s.dramInReset c &&
    !s.fenced (17 + c) && !x.keyless && x.current.isSome && decide (x.buffer.countP (fun f => decide (f.size = 64)) + inFlight < 2048)

/-- CONS of output ring `g` (R156). -/
def State.ringCons (s : State) (g : Nat) : Nat := bitsAt (s.unitCfg (4128 + g)) 3 2

/-- Stream `i` offers a flit for slot `j` (R261, R294, R377); its ring's feeder waits for a row under test (R159). -/
def State.offers (s : State) (i j : Nat) : Bool :=
  let d := s.descOf i
  let x := s.stream i
  let entry := s.planByte (65544 + 64 * i + j)
  let u := 4128 + i
  bitOf entry 7 && decide (j < s.M / 4) && decide (s.ringCons i = 2) && x.active && decide (2 ≤ s.time.relStep) &&
    s.unitActive u && !s.queueInReset (unitGroup u) && decide (16 ≤ (s.unit u).fill) && !s.underTest u (s.unit u).head 16 &&
    decide (x.sent < descShare d) &&
    !x.full && decide (s.pwr.state = 0) && !s.fenced (33 + i) &&
    (match s.place x.wp with
      | .dram c _ => decide (c = entry % 16) && s.channelCredit c
      | _ => false)

/-- The header of a stream's flit: scheduled data for the write pointer's channel (Table 10-3). -/
def streamHeader (g c a : Nat) (crc : Option Nat) : BitVec 128 :=
  BitVec.ofNat 128 (5 * 2 ^ 124 + 2 ^ 123 + (lanePort g).1 * 2 ^ 100 + (lanePort g).2 * 2 ^ 96 +
    (dramPort c).1 * 2 ^ 90 + (dramPort c).2 * 2 ^ 86 + a % 2 ^ 48 / 64 * 64 * 2 ^ 38 +
    (match crc with
      | some v => 2 ^ 33 + v % 2 ^ 32
      | none => 0))

/-- In a slot of its own an active stream finds its ring empty: the ring sets EMPTY (R156). -/
def State.asksEmpty (s : State) (i j : Nat) : Bool :=
  bitOf (s.planByte (65544 + 64 * i + j)) 7 && decide (j < s.M / 4) && decide (s.ringCons i = 2) && (s.stream i).active &&
    decide (2 ≤ s.time.relStep) && s.unitActive (4128 + i) && !s.queueInReset (unitGroup (4128 + i)) &&
    decide ((s.unit (4128 + i)).fill = 0)

/-- NOC cycle of slot `j` of the beat in progress, counted from Lantern lock, plus 1. -/
def State.nocCycle (s : State) (j : Nat) : Nat := 2 * (s.time.tick - s.time.cyc) + j + 1

/-- The flit that stream `i` presents at its router input for slot `j`, taken through the ring's feeder in this FAB
cycle (R146), and the pointers after it (R261, R294). -/
def sendFlit (i j : Nat) (ecc : List EccClass) (s : State) : State :=
  let d := s.descOf i
  let x := s.stream i
  let u := 4128 + i
  let taken := takeWords u 16 (fun k => ecc.getD k .clean) s
  let data := BitVec.ofNat 512 (packFields 32 taken.1)
  let c := match s.place x.wp with
    | .dram c _ => c
    | _ => 0
  let crc := if descCrc d then some (crc32c (toBytes 64 data.toNat)) else none
  let f : RouterFlit := { router := (lanePort i).1, input := (lanePort i).2, output := 0,
                          flit := ⟨streamHeader i c x.wp crc, data⟩, waited := 0, due := s.nocCycle j }
  let s1 := taken.2.setUnit u { taken.2.unit u with grantedTo := s.time.tick + 1 }
  let wp := if x.wp + 64 = descBase d + descSize d then descBase d else x.wp + 64
  let y := { x with wp := wp, sent := x.sent + 1, segs := onLast (fun g => { g with bytes := g.bytes + 64 }) x.segs }
  let s2 := s1.setStream i { y with rel := y.relOf }
  updateFull i { s2 with noc := { s2.noc with flying := s2.noc.flying ++ [f] } }

/-- STREAM_SLOT: in the NOC cycle before a slot that a stream entry names, the stream offers one flit to its channel if ring,
share, credit and FULL allow (R261, R294). -/
def execStreamSlot (i : Fin 32) (slot : Fin 64) (ecc : List EccClass) (s : State) : Host.Outcome State Fault Refusal :=
  if s.offers i.val slot.val then done (sendFlit i.val slot.val ecc s)
  else if s.asksEmpty i.val slot.val then done (unitCauses (4128 + i.val) causeEmpty s)
  else done s

end Sys2Proof.Machine
end

