-- ==== Sys2Proof/Machine/LaneFrame.lean ====
section
/-! DEFINITION. The beat frame of a lane as bits: lengths, fields, CRC, line scrambler, polarity, the words of a payload, and
the keyed mix of a Merig link's payload (R196, R198 to R202, R228, R229, R244). -/

namespace Sys2Proof.Machine

/-- Frame length N_UI of a code (Table 8-12). -/
def nuiOf (code : Nat) : Nat := [200, 240, 320, 400].getD code 400

/-- Payload words W and word pairs of a frame of `n` UI (Table 8-2). -/
def wordsOf (n : Nat) : Nat := (n - 32) / 16
def pairsOf (n : Nat) : Nat := (wordsOf n + 1) / 2

/-- The `w` low bits of `x` in reverse order. -/
def revBits (w x : Nat) : Nat := natOfFn w (fun i => bitOf x (w - 1 - i))

/-- SYNC with UI 0 at bit 0: data or readout frame, idle frame (Table 8-1). -/
def syncData : Nat := 11
def syncIdle : Nat := 4

/-- CRC-16 over control and payload in transmission order, before scrambling (R200). -/
def frameCrc (n x : Nat) : Nat := crc16 0xFFFF ((List.range (n - 20)).map (fun i => bitOf x (4 + i)))

/-- One UI of the line scrambler from state `s`: its output and the next state (R201). -/
def lineStep (s : Nat) : Bool × Nat :=
  let o := bitOf s 30 != bitOf s 27
  (o, 2 * s % 2 ^ 31 + b2n o)

/-- The next `count` outputs of the line scrambler, the first at bit 0. -/
def lineBits : Nat → Nat → Nat
  | 0, _ => 0
  | count + 1, s => b2n (lineStep s).1 + 2 * lineBits count (lineStep s).2

/-- What the scrambler XORs into a frame on lane `l` of its group: UI 4 to N − 1 (R201). -/
def lineMask (n l : Nat) (enable : Bool) : Nat := if enable then lineBits (n - 4) (0x7FFFFFF8 + l) * 16 else 0

/-- A frame as it leaves or reaches the balls: scrambled, and inverted where the lane's polarity is. Its own inverse. -/
def lineCode (n l : Nat) (scramble invert : Bool) (x : Nat) : Nat :=
  x ^^^ lineMask n l scramble ^^^ (if invert then 2 ^ n - 1 else 0)

/-- Control bits of a frame: TYPE, DATUM, COAST, DARK, SEQ (Table 8-1). -/
def frameControl (readout datum coast dark : Bool) (seq : Nat) : Nat :=
  b2n readout * 2 ^ 11 + b2n datum * 2 ^ 10 + b2n coast * 2 ^ 9 + b2n dark * 2 ^ 8 + seq % 256

/-- A frame from its fields, CRC over the clear payload, with `coded` the payload that is sent (R198, R244). -/
def buildFrame (n sync control payload coded : Nat) : Nat :=
  let head := sync + revBits 12 control * 16
  let crc := frameCrc n (head + payload * 2 ^ 16)
  head + coded * 2 ^ 16 + revBits 16 crc * 2 ^ (n - 16)

/-! Fields of a received frame after `lineCode`. -/

def frameSync (x : Nat) : Nat := x % 16
def frameCtl (x : Nat) : Nat := revBits 12 (bitsAt x 4 12)
def framePayload (n x : Nat) : Nat := bitsAt x 16 (n - 32)
def frameCrcField (n x : Nat) : Nat := revBits 16 (bitsAt x (n - 16) 16)
def ctlDatum (c : Nat) : Bool := bitOf c 10
def ctlCoast (c : Nat) : Bool := bitOf c 9
def ctlDark (c : Nat) : Bool := bitOf c 8
def ctlSeq (c : Nat) : Nat := c % 256

/-- The CRC of a frame matches, with the clear payload in place of the received one (R200, R244). -/
def crcGood (n x payload : Nat) : Bool :=
  decide (frameCrc n (x % 2 ^ 16 + payload * 2 ^ 16) = frameCrcField n x)

/-! Words. -/

/-- Word pair `j` of a payload of `n − 32` bits: a missing last word is 0 (R199). -/
def pairOf (n payload j : Nat) : Nat := bitsAt (payload % 2 ^ (16 * wordsOf n)) (32 * j) 32

/-- The payload whose every word is the dark word; at N_UI = 200 the tail is its low byte (R205). -/
def darkPayload (n dark : Nat) : Nat := packFn 16 (wordsOf n + 1) (fun _ => dark) % 2 ^ (n - 32)

/-- Link block of a Merig group from its eight payloads: words 16 to 22 of each lane (R229). -/
def linkBlock (payloads : List Nat) : Nat := packFields 112 (payloads.map (fun p => bitsAt p 256 112))

/-! The keyed mix of a group's payload (R244). -/

/-- Tweak of block `i` in beat `beats` since key load. -/
def linkTweak (beats i : Nat) : BitVec 64 := BitVec.ofNat 64 (beats * 64 ||| i)

/-- Block `4j + k` of a half: word pairs `j` of lanes 2kk and 2kk + 1 of the half's four payloads, coded by `f`. -/
def halfBlock (f : BitVec 64 → BitVec 64 → BitVec 64) (beats half j kk : Nat) (ps : List Nat) : Nat :=
  (f (linkTweak beats (4 * j + 2 * half + kk))
    (BitVec.ofNat 64 (bitsAt (ps.getD (2 * kk) 0) (32 * j) 32 + bitsAt (ps.getD (2 * kk + 1) 0) (32 * j) 32 * 2 ^ 32))).toNat

/-- Block 44 + half: word 22 of the half's four lanes. -/
def halfTail (f : BitVec 64 → BitVec 64 → BitVec 64) (beats half : Nat) (ps : List Nat) : Nat :=
  (f (linkTweak beats (44 + half)) (BitVec.ofNat 64 (packFields 16 ((ps.take 4).map (fun p => bitsAt p 352 16))))).toNat

/-- The four payloads of lanes 0 to 3 (half 0) or 4 to 7 (half 1) with every block coded by `f`. -/
def codeHalf (f : BitVec 64 → BitVec 64 → BitVec 64) (beats half : Nat) (ps : List Nat) : List Nat :=
  (List.range 4).map (fun a =>
    packFn 32 11 (fun j => halfBlock f beats half j (a / 2) ps / 2 ^ (32 * (a % 2))) +
      bitsAt (halfTail f beats half ps) (16 * a) 16 * 2 ^ 352)

/-- Payloads of a half as they are sent under a key, or as they were before the mix; unchanged without a key. -/
def mixHalf (key : Option (BitVec 128)) (beats half : Nat) (ps : List Nat) : List Nat :=
  match key with
  | some k => codeHalf (mix k) beats half ps
  | none => ps
def unmixHalf (key : Option (BitVec 128)) (beats half : Nat) (ps : List Nat) : List Nat :=
  match key with
  | some k => codeHalf (unmix k) beats half ps
  | none => ps

end Sys2Proof.Machine
end

