-- ==== Sys2Proof/Machine/CanCore.lean ====
section
/-! DEFINITION. The CAN node's named operations: frames handed to the transmit queue, NMT state changes, the boot-up message,
the device temperature and the error register (R342 to R345, R352, R415, R416, Tables 13-4 and 13-9). -/

namespace Sys2Proof.Machine

/-! Temperatures (R414 to R416). -/

/-- Layer of a junction sensor. -/
def sensorLayer (n : Nat) : Nat := if n < 16 then 0 else if n < 32 then 1 else if n < 48 then 2 else if n < 112 then 3 else 4

/-- The reading of a sensor, in 1/16 °C: a broken one reads the throttle threshold in force (R415). -/
def State.reading (s : State) (n : Nat) : Int :=
  if s.pwr.broken.getLsbD n then 16 * (s.obj 0x2300 0x11 : Int) else Tbl.at 0 s.pwr.readings n

/-- Greatest of a list of readings, not below `m`. -/
def maxInt (m : Int) (l : List Int) : Int := l.foldl max m

/-- The device temperature: the highest reading (R416). -/
def State.temperature (s : State) : Int := maxInt (s.reading 0) ((List.range 128).map s.reading)

/-- A junction temperature is at or above the warn threshold. -/
def State.warm (s : State) : Bool := decide (16 * (s.obj 0x2300 0x10 : Int) ≤ s.temperature)

/-! The error register (R352). -/

/-- A worker as its manager sees it. -/
def State.worker (s : State) (w : Nat) : Worker := Tbl.at {} s.mer.workers w

/-- A worker replaced. -/
def State.setWorker (s : State) (w : Nat) (x : Worker) : State :=
  { s with mer := { s.mer with workers := Tbl.upd {} s.mer.workers w x } }

/-- The dark state of a worker is in force: from its entry to DARK until it is LIVE (Table 9-4). -/
def Worker.dark (x : Worker) : Bool := decide (x.state = 4) || (decide (x.state = 1) && decide (x.before = 4))

/-- Some worker is dark. -/
def State.anyDark (s : State) : Bool := (List.range 32).any (fun w => (s.worker w).dark)

/-- Bit 4 of 0x1001. -/
def State.commError (s : State) : Bool :=
  decide (s.can.bus ≠ 0) || s.can.consumers.any Consumer.timedOut || s.anyDark || s.adrift

/-- The error register 0x1001. -/
def State.errorRegister (s : State) : Nat :=
  let x := b2n s.can.manufacturerBit * 128 + b2n s.commError * 16 + b2n s.warm * 8
  x + b2n (decide (x ≠ 0))

/-! Frames and NMT states. -/

/-- The controller transmits: not silent, and neither bus-off nor off the bus (R340 to R342). -/
def State.canTalks (s : State) : Bool := !s.can.silent && decide (s.can.bus < 2)

/-- A frame takes its place in the transmit queue: frames leave in ascending COB-ID order (R342). -/
def queueFrame (f : CanFrame) (l : List CanFrame) : List CanFrame :=
  l.filter (fun x => decide (x.cob ≤ f.cob)) ++ f :: l.filter (fun x => decide (f.cob < x.cob))

/-- A frame is handed to the transmit queue; a USDO response goes in FD format with the bit-rate switch, any other frame in classic
format (Table 13-4). -/
def canSend (cob : Nat) (data : List Byte) (s : State) : State :=
  if s.canTalks then
    { s with can := { s.can with sent := queueFrame ⟨cob + s.can.nodeId, decide (cob = 0x580), data⟩ s.can.sent } }
  else s

/-- The frames of an earlier command have left the transmit queue (log 168). -/
def freshTx (s : State) : State := { s with can := { s.can with sent := [] } }

/-- Heartbeat code of an NMT state (Table 13-5). -/
def nmtCode : Nmt → Nat
  | .initialisation => 0xFF
  | .preOperational => 0x7F
  | .operational => 0x05
  | .stopped => 0x04

/-- The NMT state changes, with event 1504 (R343). -/
def setNmt (v : Nmt) (s : State) : State :=
  if s.can.nmt = v then s else raise 1504 { s with can := { s.can with nmt := v } }

/-- The boot-up message (R344). -/
def bootUp (s : State) : State := canSend 0x700 [0] s

/-- The error-reset EMCY: after a worker returns to LIVE or a consumed heartbeat returns, when no condition of bits 3 and 4 of
the error register remains (Table 13-8). -/
def errorReset (s : State) : State :=
  if s.commError || s.warm then s else emcyPush { code := 0, field := 0 } s

end Sys2Proof.Machine
end

