-- ==== Sys2Proof/Machine/Keepers.lean ====
section
/-! DEFINITION. Keeper cores: stores, instruction words, issue, faults, tags, rounds and the core reset (R307 to R330). The
instructions' meanings are in KeeperAlu.lean and KeeperSystem.lean. -/

namespace Sys2Proof.Machine

/-! Stores (R271, R309, R311). -/

/-- First address of a core's code store. -/
def codeBase (k : Nat) : Nat := 0x060000000000 + k * 0x100000

/-- First address of a core's data store. -/
def dataBase (k : Nat) : Nat := codeBase k + 0x80000

/-- First address of the pool. -/
def poolBase : Nat := 0x060001000000

/-- Instruction word `n` of core `k`'s code store (R316). -/
def State.codeWord (s : State) (k n : Nat) : Nat := s.readNat (codeBase k + 4 * n) 4

/-! Instruction words (Table 12-2). -/

/-- Form A. -/
def encA (op kd ka kb func : Nat) : Nat := op * 2 ^ 26 + kd * 2 ^ 21 + ka * 2 ^ 16 + kb * 2 ^ 11 + func

/-- Form B. -/
def encB (op kd ka imm : Nat) : Nat := op * 2 ^ 26 + kd * 2 ^ 21 + ka * 2 ^ 16 + imm

/-- Form C. -/
def encC (op kd imm : Nat) : Nat := op * 2 ^ 26 + kd * 2 ^ 21 + imm

/-- Form D. -/
def encD (op off : Nat) : Nat := op * 2 ^ 26 + off

/-- Form A with opcode 0x01: unused fields 0, selectors 0 to 7 (Table 12-3, R314, R320). -/
def legalSystem (kd ka kb func : Nat) : Bool :=
  match func with
  | 0 => true
  | 1 => true
  | 2 => true
  | 3 => ka == 0 && kb == 0
  | 4 => kb == 0 && decide (ka < 8)
  | 5 => kd == 0 && ka == 0 && kb == 0
  | 6 => kd == 0 && ka == 0 && kb == 0
  | _ => false

/-- Form B: opcodes of Table 12-3, reserved immediate bits and unused fields 0. -/
def legalImmediate (op kd imm : Nat) : Bool :=
  if op = 0x08 ∨ op = 0x09 ∨ op = 0x0A ∨ op = 0x23 then decide (imm < 64)
  else if op = 0x22 then kd == 0 && decide (imm < 16)
  else decide (0x04 ≤ op ∧ op ≤ 0x0C) || decide (0x10 ≤ op ∧ op ≤ 0x16) || decide (0x18 ≤ op ∧ op ≤ 0x1D) ||
    op == 0x20 || op == 0x21 || op == 0x24

/-- A word is an instruction of Table 12-3 (R314). -/
def legalWord (w : Nat) : Bool :=
  let op := bitsAt w 26 6
  let kd := bitsAt w 21 5
  let ka := bitsAt w 16 5
  let kb := bitsAt w 11 5
  let func := w % 2048
  if op = 0 then decide (func < 12)
  else if op = 1 then legalSystem kd ka kb func
  else if op = 0x28 ∨ op = 0x30 ∨ op = 0x31 then true
  else legalImmediate op kd (w % 65536)

/-! Registers (R308). -/

/-- Register of a core: k0 reads 0. -/
def Keeper.reg (c : Keeper) (r : KReg) : BitVec 64 := if r.val = 0 then 0 else Tbl.at 0 c.regs r.val

/-- A register written: a write of k0 is discarded. -/
def Keeper.setReg (c : Keeper) (r : KReg) (v : BitVec 64) : Keeper :=
  if r.val = 0 then c else { c with regs := Tbl.upd 0 c.regs r.val v }

/-! The core reset and faults (R329, R330). -/

/-- A posted tag abandoned: an ended one is free, another is freed when its transaction ends (R318). -/
def abandonTags (l : List Tag) : List Tag :=
  (l.filter (fun t => decide (t.ended = none))).map (fun t => { t with abandoned := true })

/-- The core reset: PC at the entry PC, registers, flags, mailbox and EMCY queue cleared, tags abandoned, stores kept
(R330). -/
def coreReset (k : Nat) (s : State) : State :=
  let c := s.keeper k
  s.setKeeper k { c with
    regs := [], pc := s.obj (0x3900 + k) 2, wait := .none, cycle := 0, pcOver := false, datumPending := false, overruns := 0,
    late := false, mailbox := [], emcy := [], tags := abandonTags c.tags }

/-- The fence of a faulted core is acknowledged: the device lifts its own, and the tags of the transactions that were outstanding at
the fault are freed; one posted while the core's domain was fenced, which the drain does not reach, goes on as abandoned and frees its tag
when it ends (R265, R318, R329). -/
def keeperAck (k : Nat) (s : State) : State :=
  if s.noc.deviceFence.getLsbD (65 + k) then
    let c := s.keeper k
    let open_ := fun (t : Tag) => s.isOpen ⟨.keeper (Fin.ofNat 4 k), t.number⟩
    deviceFenceOff (65 + k) (s.setKeeper k { c with
      tags := (c.tags.filter (fun t => !t.draining || open_ t)).map (fun t =>
        if t.draining then { t with draining := false, abandoned := true } else t) })
  else s

/-- A fault stops the core before the instruction has any effect: recorded, event 1472 + 4k, domain 65 + k fenced and drained; where
a fence of the host has been acknowledged already, so is this one (R329). -/
def keeperFault (k cause word addr : Nat) (s : State) : State :=
  let c := s.keeper k
  let s1 := raise (1472 + 4 * k) (deviceFenceOn (65 + k) (s.setKeeper k { c with
    state := .faulted, wait := .none, pcOver := false
    tags := c.tags.map (fun t => { t with draining := decide (t.ended = none) })
    faultRecord := word % 2 ^ 32 * 2 ^ 32 + c.pc % 65536 * 2 ^ 8 + cause, faultAddr := addr }))
  if s.fenceState (65 + k) = 2 ∨ s.fenceState (65 + k) = 3 then keeperAck k s1 else s1

/-! Issue (R307, R312, R316). -/

/-- A core may issue: RUNNING, not waiting, its root clock running, and not in per-block reset. -/
def State.mayIssue (s : State) (k : Nat) : Bool :=
  let c := s.keeper k
  decide (c.state = .running) && decide (c.wait = .none) && s.beatsRun && !s.keeperInReset k && s.l0Runs

/-- The word at the PC. -/
def State.fetched (s : State) (k : Nat) : Nat := s.codeWord k (s.keeper k).pc

/-- An instruction issues when its word stands at the PC; a parity error at fetch faults with CODE_PARITY (R312). -/
def issue (i : Issue) (word : Nat) (s : State) (f : State → State) : State :=
  if s.mayIssue i.core.val && decide (s.fetched i.core.val = word) then
    (if i.parityError then keeperFault i.core.val 5 word 0 s else f s)
  else s

/-- The core moves past an instruction that continues in sequence; from PC 65,535 the fault PC_RANGE is due (R316). -/
def Keeper.next (c : Keeper) (cost : Nat) : Keeper :=
  if c.pc = 65535 then { c with pcOver := true, cycle := c.cycle + cost }
  else { c with pc := c.pc + 1, cycle := c.cycle + cost }

/-- A due PC_RANGE fault is taken before any further instruction issues (R316). -/
def takeOver (k : Nat) (s : State) : State :=
  let c := s.keeper k
  if c.pcOver && decide (c.state = .running) && decide (c.wait = .none) then keeperFault k 2 (s.fetched k) 0 s else s

/-- The core executes an instruction that changes registers only, and continues in sequence. -/
def finish (k : Nat) (c : Keeper) (cost : Nat) (s : State) : State := takeOver k (s.setKeeper k (c.next cost))

/-- A register result. -/
def result (i : Issue) (word cost : Nat) (kd : KReg) (v : Keeper → BitVec 64) (s : State) :
    Host.Outcome State Fault Refusal :=
  done (issue i word s (fun t =>
    let c := t.keeper i.core.val
    finish i.core.val (c.setReg kd (v c)) cost t))

/-- A jump to a target: PC_RANGE outside 0 to 65,535, before any effect (R316). -/
def jump (k : Nat) (target : Int) (c : Keeper) (cost : Nat) (s : State) : State :=
  if target < 0 ∨ 65535 < target then keeperFault k 2 (s.fetched k) 0 s
  else s.setKeeper k { c with pc := target.toNat, cycle := c.cycle + cost }

/-- A branch: 2 cycles taken, 1 not taken (R316). -/
def branch (i : Issue) (op : Nat) (kd ka : KReg) (imm : BitVec 16) (p : BitVec 64 → BitVec 64 → Bool) (s : State) :
    Host.Outcome State Fault Refusal :=
  done (issue i (encB op kd.val ka.val imm.toNat) s (fun t =>
    let c := t.keeper i.core.val
    if p (c.reg kd) (c.reg ka) then jump i.core.val (c.pc + imm.toInt) c 2 t else finish i.core.val c 1 t))

/-! Data store and pool accesses (R309, R311, R313). -/

/-- KEEP cycle, plus 1, of core `k`'s pool slot among the four that begin with cycle `t` (R311). -/
def poolSlotOf (k t : Nat) : Nat := t + (k + 4 - t % 4) % 4 + 1

/-- A pool access of core `k` issues: it is served in the core's next slot. -/
def Keeper.usePool (c : Keeper) (k : Nat) : Keeper := { c with poolSlot := poolSlotOf k c.cycle }

/-- Address of an access: ka + sext(imm16). -/
def accessAddr (c : Keeper) (ka : KReg) (imm : BitVec 16) : Nat := (c.reg ka + imm.signExtend 64).toNat

/-- A checked access: ADDR_RANGE, MISALIGNED, then DATA_UNCORR; a corrected error is counted (R309, R313). -/
def checkedAccess (i : Issue) (word limit size : Nat) (ka : KReg) (imm : BitVec 16) (ecc : EccClass) (s : State)
    (f : Nat → Keeper → State → State) : Host.Outcome State Fault Refusal :=
  done (issue i word s (fun t =>
    let k := i.core.val
    let c := t.keeper k
    let a := accessAddr c ka imm
    if limit < a then keeperFault k 4 word a t
    else if a % size ≠ 0 then keeperFault k 3 word a t
    else match ecc with
      | .double _ => keeperFault k 6 word a t
      | .single => f a { c with corrected := satInc 32 c.corrected } t
      | .clean => f a c t))

/-- Last byte of the data store and of the pool. -/
def dataLimit : Nat := 0x3FFFF
def poolLimit : Nat := 0x3FFFFF

/-! Tags (R317 to R319). -/

/-- The lowest free tag of a core's 512. -/
def Keeper.freeTag (c : Keeper) : Option Nat := (List.range 512).find? (fun n => !c.tags.any (fun t => t.number == n))

/-- Request of a core's tag. -/
def keeperReq (k : Fin 4) (n : Nat) : ReqId := ⟨.keeper k, n⟩

/-- NOC cycle from which a posted request is at its router: a core's crosses KEEP_NOC until then (R177). -/
def State.postedFrom (s : State) (r : ReqId) : Nat :=
  match r.src with
  | .keeper k => if s.crossDelay 3 k.val = 0 then 0 else 2 * s.time.tick + s.crossDelay 3 k.val
  | _ => 0

/-- A transaction is posted with its size and data (R317). -/
def postTxn (r : ReqId) (addr : Nat) (write : Bool) (size data : Nat) (s : State) : State :=
  notePeak { s with noc := { s.noc with
    txns := s.noc.txns ++ [{ req := r, addr := addr, write := write, size := size, data := data, entered := false,
                             fromCycle := s.postedFrom r, held := (requesterDomain r.src).any s.fenced }] } }

/-- Post a transaction under a free tag, or return all ones with TAGS_OUT set; while the core's domain is fenced the transaction waits
at the core (R265, R317). -/
def post (i : Issue) (kd : KReg) (addr : Nat) (write : Bool) (size data landing : Nat) (s : State) : State :=
  let k := i.core.val
  let c := s.keeper k
  match c.freeTag with
  | none => finish k { c.setReg kd (BitVec.allOnes 64) with tagsOut := true } 1 s
  | some n =>
    let d := { c.setReg kd (BitVec.ofNat 64 n) with
      tagsOut := false
      tags := c.tags ++ [{ number := n, read := !write, landing := landing, ended := none, abandoned := false }] }
    finish k d 1 (postTxn (keeperReq i.core n) addr write size data s)

/-! The landing line between posting and the NWAIT that returns its status (R319). -/

/-- A posted NLD may land at a byte of the data store, or has landed there and no NWAIT has returned its status. -/
def Tag.lands (t : Tag) (a : Nat) : Bool :=
  t.read && !t.abandoned && decide (t.landing ≤ a) && decide (a < t.landing + 64) &&
  (match t.ended with
    | none => true
    | some st => statusGood st)

/-- A byte of the data store lies in such a line. -/
def Keeper.landsAt (c : Keeper) (a : Nat) : Bool := c.tags.any (fun t => t.lands a)

/-- Lines besides the stored one that the core may see in a tag's landing line: the old one once the read has landed, and before that
the new one, where the answer is on its way. -/
def State.landingLines (s : State) (k : Nat) (t : Tag) : List Nat :=
  match t.ended with
  | some _ => [t.before]
  | none => (s.noc.answers.filter (fun a =>
      decide (a.req = ⟨.keeper (Fin.ofNat 4 k), t.number⟩) && statusGood a.status)).map (fun a => a.data.toNat)

/-- Values that the 64-bit word at `a`, in a landing line, may show: the stored one first (R319). -/
def State.wordChoices (s : State) (k a : Nat) : List Nat :=
  s.readNat (dataBase k + a) 8 ::
    ((s.keeper k).tags.filter (fun t => t.lands a)).flatMap (fun t =>
      (s.landingLines k t).map (fun l => fieldAt 64 l ((a - t.landing) / 8)))

/-- One of the values, by a free choice. -/
def State.wordSeen (s : State) (k a choice : Nat) : Nat :=
  (s.wordChoices k a).getD (choice % (s.wordChoices k a).length) 0

/-- What the core reads at `a`: the stored bytes, or in a landing line, for each 64-bit word, the old or the new value (R319). -/
def coreRead (k a n : Nat) (s : State) : Nat × State :=
  if (s.keeper k).landsAt a then
    let words := packFn 64 ((n + 7) / 8) (fun w => s.wordSeen k (a / 8 * 8 + 8 * w) (Config.undefinedBits s.freeCtr / 2 ^ (16 * w)))
    (words / 256 ^ (a % 8) % 256 ^ n, s.draw)
  else (s.readNat (dataBase k + a) n, s)

/-- A store in a landing line is noted, by word. -/
def Keeper.noteStore (c : Keeper) (a : Nat) : Keeper :=
  { c with tags := c.tags.map (fun t => if t.lands a then { t with stored := setBit t.stored ((a - t.landing) / 8) true } else t) }

/-- What the core stores at `a`. In a landing line the other half of a word is the old or the new one, and the line that lands may
overwrite the word (R319). -/
def coreWrite (k a n v : Nat) (s : State) : State :=
  let c := s.keeper k
  if c.landsAt a then
    let d := Config.undefinedBits s.freeCtr
    let word := if n = 8 then v else withBits (s.wordSeen k (a / 8 * 8) (d / 2)) (8 * (a % 8)) 32 v
    let keeps := c.tags.all (fun t => !t.lands a || decide (t.ended = none)) || decide (d % 2 = 1)
    let s1 := s.setKeeper k (c.noteStore a)
    (if keeps then s1.writeNat (dataBase k + a / 8 * 8) 8 word else s1).draw
  else s.writeNat (dataBase k + a) n v

/-- A store of the core, which goes on with `c` (R319). -/
def coreStore (k a n v : Nat) (c : Keeper) (s : State) : State :=
  let t := coreWrite k a n v s
  finish k { c with tags := (t.keeper k).tags } 2 t

/-- The line that a landing leaves: a word that the core stored to since posting may be either. -/
def landedLine (k : Nat) (t : Tag) (data : Line) (s : State) : Nat :=
  packFn 64 8 (fun w =>
    if bitOf t.stored w && bitOf (Config.undefinedBits s.freeCtr) w then fieldAt 64 (s.readNat (dataBase k + t.landing) 64) w
    else fieldAt 64 data.toNat w)

/-- An NLD's line lands. -/
def land (k : Nat) (t : Tag) (data : Line) (s : State) : State :=
  if t.stored = 0 then s.writeNat (dataBase k + t.landing) 64 data.toNat
  else (s.writeNat (dataBase k + t.landing) 64 (landedLine k t data s)).draw

/-- A transaction of a core ends with a status: an NLD lands, a waiting NWAIT returns, an abandoned tag is freed (R318,
R319). -/
def keeperEnded (k : Nat) (n : Nat) (st : Status) (data : Line) (s : State) : State :=
  let c := s.keeper k
  match c.tags.find? (fun t => t.number == n) with
  | none => s
  | some t =>
    if t.abandoned then s.setKeeper k { c with tags := c.tags.filter (fun u => u.number != n) }
    else
      let before := s.readNat (dataBase k + t.landing) 64
      let s1 := if t.read && statusGood st then land k t data s else s
      let ends := fun (u : Tag) => if u.number = n then { u with ended := some st, before := before } else u
      match c.wait with
      | .nwait kd m =>
        if m = n then
          let r : KReg := Fin.ofNat 32 kd
          let now := 2 * s.time.tick
          let d := c.setReg r (BitVec.ofNat 64 (statusCode st))
          takeOver k (s1.setKeeper k { d with
            wait := .none, tags := c.tags.filter (fun u => u.number != n), cycle := max (c.cycle + 1) (now + 1) })
        else s1.setKeeper k { c with tags := c.tags.map ends }
      | _ => s1.setKeeper k { c with tags := c.tags.map ends }

/-! Status word and time (R320, Table 12-5). -/

/-- Device state code (0x2000 sub 0x15). -/
def devCode : Dev → Nat
  | .service => 0
  | .configured => 1
  | .run => 2
  | .hold => 3

/-- Status word SW of core `k`. -/
def State.statusWord (s : State) (k : Nat) : Nat :=
  let c := s.keeper k
  k + 4 * b2n c.late + 8 * b2n s.coasting + 16 * b2n (decide (s.time.relStep = 3)) + 32 * b2n c.mboxOvf +
    64 * b2n c.tagsOut + c.mailbox.length * 2 ^ 13 + c.tags.length * 2 ^ 20 + c.emcy.length * 2 ^ 30 +
    devCode s.dev * 2 ^ 34 + c.overruns * 2 ^ 36

/-- Round cycle counter: KEEP cycles since the first of the last datum beat (Table 12-4). -/
def State.roundCycle (s : State) (k : Nat) : Nat := (s.keeper k).cycle - 2 * s.time.datum

/-- Source of SRD (Table 12-4). -/
def State.srdSource (s : State) (k : Nat) (sel : Nat) : Nat :=
  match sel with
  | 0 => s.time.rot % 2 ^ 52 * 2 ^ 12 + s.time.beat
  | 1 => s.time.rot
  | 2 => s.roundCycle k
  | 3 => s.statusWord k
  | 4 => s.M / 4 * s.B
  | 5 => s.B
  | 6 => s.M
  | _ => k

/-! Datum beats (R322 to R324). -/

/-- A round of `n` cycles ends: counted, with its length (R322). -/
def Keeper.roundDone (c : Keeper) (n : Nat) : Keeper :=
  { c with rounds := wrapInc 64 c.rounds, lastRound := n % 2 ^ 32, longestRound := max c.longestRound (n % 2 ^ 32) }

/-- A core resumes in RUNNING at a datum beat, at round cycle 0. -/
def resume (k : Nat) (c : Keeper) (s : State) : State :=
  takeOver k (s.setKeeper k { c with state := .running, cycle := 2 * s.time.datum, datumPending := false, late := false, overruns := 0 })

/-- An overrun: counted, flag set, event 1473 + 4k; on the fourth in a row the watchdog resets the core (R323, R324). -/
def overrun (k : Nat) (s : State) : State :=
  let c := s.keeper k
  let d := { c with datumPending := true, overruns := min (c.overruns + 1) 4, overrunCount := satInc 32 c.overrunCount,
                    cycle := if c.wait = .none then max c.cycle (2 * s.time.datum) else c.cycle }
  let s1 := raise (1473 + 4 * k) (s.setKeeper k d)
  if d.overruns = 4 ∧ s.obj (0x3900 + k) 0xA = 1 then
    let s2 := coreReset k s1
    let e := s2.keeper k
    raise (1474 + 4 * k) (s2.setKeeper k { e with state := .waiting, watchdogs := satInc 32 e.watchdogs })
  else s1

/-- A datum beat at core `k`: start where Lantern is locked, resume or overrun (Table 12-7, R322 to R324). -/
def keeperDatum (k : Nat) (s : State) : State :=
  let c := s.keeper k
  if s.keeperInReset k then s
  else match c.state with
    | .waiting =>
      if s.clk.lantern = .locked ∨ s.clk.lantern = .align then
        resume k { c with pc := s.obj (0x3900 + k) 2, wait := .none, pcOver := false } s
      else s
    | .roundWait => resume k c s
    | .running => overrun k s
    | _ => s

end Sys2Proof.Machine
end

