-- ==== Sys2Proof/Machine/KeeperAlu.lean ====
section
/-! DEFINITION. Meanings of the Keeper instructions that compute, branch and reach the data store and the pool (R309, R311, R315,
R316). -/

namespace Sys2Proof.Machine

/-- A truth value as a register. -/
def flagWord (b : Bool) : BitVec 64 := if b then 1 else 0

/-- Form A of opcode 0x00. -/
def aluA (i : Issue) (func cost : Nat) (kd ka kb : KReg) (f : BitVec 64 → BitVec 64 → BitVec 64) (s : State) :
    Host.Outcome State Fault Refusal :=
  result i (encA 0 kd.val ka.val kb.val func) cost kd (fun c => f (c.reg ka) (c.reg kb)) s

/-- Form B with a 16-bit immediate. -/
def aluB (i : Issue) (op : Nat) (kd ka : KReg) (imm : BitVec 16) (f : BitVec 64 → BitVec 64) (s : State) :
    Host.Outcome State Fault Refusal :=
  result i (encB op kd.val ka.val imm.toNat) 1 kd (fun c => f (c.reg ka)) s

/-- Shift by an immediate. -/
def shiftB (i : Issue) (op : Nat) (kd ka : KReg) (imm : BitVec 6) (f : BitVec 64 → BitVec 64) (s : State) :
    Host.Outcome State Fault Refusal :=
  result i (encB op kd.val ka.val imm.toNat) 1 kd (fun c => f (c.reg ka)) s

/-- Shift amount kb[5:0]. -/
def shiftAmount (b : BitVec 64) : Nat := b.toNat % 64

/-- ADD: kd ← ka + kb. -/
def execAdd (i : Issue) (kd ka kb : KReg) (s : State) : Host.Outcome State Fault Refusal :=
  aluA i 0 1 kd ka kb (fun a b => a + b) s

/-- SUB: kd ← ka − kb. -/
def execSub (i : Issue) (kd ka kb : KReg) (s : State) : Host.Outcome State Fault Refusal :=
  aluA i 1 1 kd ka kb (fun a b => a - b) s

/-- AND: kd ← ka and kb. -/
def execAnd (i : Issue) (kd ka kb : KReg) (s : State) : Host.Outcome State Fault Refusal :=
  aluA i 2 1 kd ka kb (fun a b => a &&& b) s

/-- OR: kd ← ka or kb. -/
def execOr (i : Issue) (kd ka kb : KReg) (s : State) : Host.Outcome State Fault Refusal :=
  aluA i 3 1 kd ka kb (fun a b => a ||| b) s

/-- XOR: kd ← ka xor kb. -/
def execXor (i : Issue) (kd ka kb : KReg) (s : State) : Host.Outcome State Fault Refusal :=
  aluA i 4 1 kd ka kb (fun a b => a ^^^ b) s

/-- SLL: kd ← ka << kb[5:0]. -/
def execSll (i : Issue) (kd ka kb : KReg) (s : State) : Host.Outcome State Fault Refusal :=
  aluA i 5 1 kd ka kb (fun a b => a <<< shiftAmount b) s

/-- SRL: kd ← ka >> kb[5:0], zero fill. -/
def execSrl (i : Issue) (kd ka kb : KReg) (s : State) : Host.Outcome State Fault Refusal :=
  aluA i 6 1 kd ka kb (fun a b => a >>> shiftAmount b) s

/-- SRA: kd ← ka >> kb[5:0], sign fill. -/
def execSra (i : Issue) (kd ka kb : KReg) (s : State) : Host.Outcome State Fault Refusal :=
  aluA i 7 1 kd ka kb (fun a b => a.sshiftRight (shiftAmount b)) s

/-- SLT: kd ← 1 if ka < kb signed. -/
def execSlt (i : Issue) (kd ka kb : KReg) (s : State) : Host.Outcome State Fault Refusal :=
  aluA i 8 1 kd ka kb (fun a b => flagWord (a.slt b)) s

/-- SLTU: kd ← 1 if ka < kb unsigned. -/
def execSltu (i : Issue) (kd ka kb : KReg) (s : State) : Host.Outcome State Fault Refusal :=
  aluA i 9 1 kd ka kb (fun a b => flagWord (a.ult b)) s

/-- MUL: kd ← low 64 bits of ka × kb. -/
def execMul (i : Issue) (kd ka kb : KReg) (s : State) : Host.Outcome State Fault Refusal :=
  aluA i 10 3 kd ka kb (fun a b => a * b) s

/-- MULHU: kd ← high 64 bits of unsigned ka × kb. -/
def execMulhu (i : Issue) (kd ka kb : KReg) (s : State) : Host.Outcome State Fault Refusal :=
  aluA i 11 3 kd ka kb (fun a b => BitVec.ofNat 64 (a.toNat * b.toNat / 2 ^ 64)) s

/-- ADDI: kd ← ka + imm. -/
def execAddi (i : Issue) (kd ka : KReg) (imm : BitVec 16) (s : State) : Host.Outcome State Fault Refusal :=
  aluB i 0x04 kd ka imm (fun a => a + imm.signExtend 64) s

/-- ANDI: kd ← ka and imm, zero-extended. -/
def execAndi (i : Issue) (kd ka : KReg) (imm : BitVec 16) (s : State) : Host.Outcome State Fault Refusal :=
  aluB i 0x05 kd ka imm (fun a => a &&& imm.zeroExtend 64) s

/-- ORI: kd ← ka or imm, zero-extended. -/
def execOri (i : Issue) (kd ka : KReg) (imm : BitVec 16) (s : State) : Host.Outcome State Fault Refusal :=
  aluB i 0x06 kd ka imm (fun a => a ||| imm.zeroExtend 64) s

/-- XORI: kd ← ka xor imm, zero-extended. -/
def execXori (i : Issue) (kd ka : KReg) (imm : BitVec 16) (s : State) : Host.Outcome State Fault Refusal :=
  aluB i 0x07 kd ka imm (fun a => a ^^^ imm.zeroExtend 64) s

/-- SLLI: kd ← ka << imm[5:0]. -/
def execSlli (i : Issue) (kd ka : KReg) (imm : BitVec 6) (s : State) : Host.Outcome State Fault Refusal :=
  shiftB i 0x08 kd ka imm (fun a => a <<< imm.toNat) s

/-- SRLI: kd ← ka >> imm[5:0], zero fill. -/
def execSrli (i : Issue) (kd ka : KReg) (imm : BitVec 6) (s : State) : Host.Outcome State Fault Refusal :=
  shiftB i 0x09 kd ka imm (fun a => a >>> imm.toNat) s

/-- SRAI: kd ← ka >> imm[5:0], sign fill. -/
def execSrai (i : Issue) (kd ka : KReg) (imm : BitVec 6) (s : State) : Host.Outcome State Fault Refusal :=
  shiftB i 0x0A kd ka imm (fun a => a.sshiftRight imm.toNat) s

/-- SLTI: kd ← 1 if ka < imm signed. -/
def execSlti (i : Issue) (kd ka : KReg) (imm : BitVec 16) (s : State) : Host.Outcome State Fault Refusal :=
  aluB i 0x0B kd ka imm (fun a => flagWord (a.slt (imm.signExtend 64))) s

/-- SLTIU: kd ← 1 if ka < imm unsigned, imm sign-extended. -/
def execSltiu (i : Issue) (kd ka : KReg) (imm : BitVec 16) (s : State) : Host.Outcome State Fault Refusal :=
  aluB i 0x0C kd ka imm (fun a => flagWord (a.ult (imm.signExtend 64))) s

/-- LUI: kd ← sext(imm21) << 16. -/
def execLui (i : Issue) (kd : KReg) (imm : BitVec 21) (s : State) : Host.Outcome State Fault Refusal :=
  result i (encC 0x28 kd.val imm.toNat) 1 kd (fun _ => imm.signExtend 64 <<< 16) s

/-- LD: kd ← 64-bit data store word. -/
def execLd (i : Issue) (kd ka : KReg) (imm : BitVec 16) (ecc : EccClass) (s : State) : Host.Outcome State Fault Refusal :=
  checkedAccess i (encB 0x10 kd.val ka.val imm.toNat) dataLimit 8 ka imm ecc s (fun a c t =>
    let r := coreRead i.core.val a 8 t
    finish i.core.val (c.setReg kd (BitVec.ofNat 64 r.1)) 2 r.2)

/-- LDW: kd ← 32-bit data store word, zero-extended. -/
def execLdw (i : Issue) (kd ka : KReg) (imm : BitVec 16) (ecc : EccClass) (s : State) : Host.Outcome State Fault Refusal :=
  checkedAccess i (encB 0x11 kd.val ka.val imm.toNat) dataLimit 4 ka imm ecc s (fun a c t =>
    let r := coreRead i.core.val a 4 t
    finish i.core.val (c.setReg kd (BitVec.ofNat 64 r.1)) 2 r.2)

/-- ST: data store 64-bit word ← kd. -/
def execSt (i : Issue) (kd ka : KReg) (imm : BitVec 16) (s : State) : Host.Outcome State Fault Refusal :=
  checkedAccess i (encB 0x12 kd.val ka.val imm.toNat) dataLimit 8 ka imm .clean s (fun a c t =>
    coreStore i.core.val a 8 (c.reg kd).toNat c t)

/-- STW: data store 32-bit word ← kd[31:0]; the other half of its 64-bit word is read and written back. -/
def execStw (i : Issue) (kd ka : KReg) (imm : BitVec 16) (ecc : EccClass) (s : State) : Host.Outcome State Fault Refusal :=
  checkedAccess i (encB 0x13 kd.val ka.val imm.toNat) dataLimit 4 ka imm ecc s (fun a c t =>
    coreStore i.core.val a 4 ((c.reg kd).toNat % 2 ^ 32) c t)

/-- PLD: kd ← 64-bit pool word. -/
def execPld (i : Issue) (kd ka : KReg) (imm : BitVec 16) (ecc : EccClass) (s : State) : Host.Outcome State Fault Refusal :=
  checkedAccess i (encB 0x14 kd.val ka.val imm.toNat) poolLimit 8 ka imm ecc s (fun a c t =>
    finish i.core.val ((c.setReg kd (BitVec.ofNat 64 (t.readNat (poolBase + a) 8))).usePool i.core.val) 4 t)

/-- PST: pool 64-bit word ← kd. -/
def execPst (i : Issue) (kd ka : KReg) (imm : BitVec 16) (s : State) : Host.Outcome State Fault Refusal :=
  checkedAccess i (encB 0x15 kd.val ka.val imm.toNat) poolLimit 8 ka imm .clean s (fun a c t =>
    finish i.core.val (c.usePool i.core.val) 4 (t.writeNat (poolBase + a) 8 (c.reg kd).toNat))

/-- PXCHG: kd and the pool word change places (R311). -/
def execPxchg (i : Issue) (kd ka : KReg) (imm : BitVec 16) (ecc : EccClass) (s : State) :
    Host.Outcome State Fault Refusal :=
  checkedAccess i (encB 0x16 kd.val ka.val imm.toNat) poolLimit 8 ka imm ecc s (fun a c t =>
    finish i.core.val ((c.setReg kd (BitVec.ofNat 64 (t.readNat (poolBase + a) 8))).usePool i.core.val) 4
      (t.writeNat (poolBase + a) 8 (c.reg kd).toNat))

/-- BEQ: branch if kd = ka. -/
def execBeq (i : Issue) (kd ka : KReg) (imm : BitVec 16) (s : State) : Host.Outcome State Fault Refusal :=
  branch i 0x18 kd ka imm (fun a b => decide (a = b)) s

/-- BNE: branch if kd ≠ ka. -/
def execBne (i : Issue) (kd ka : KReg) (imm : BitVec 16) (s : State) : Host.Outcome State Fault Refusal :=
  branch i 0x19 kd ka imm (fun a b => decide (a ≠ b)) s

/-- BLT: branch if kd < ka signed. -/
def execBlt (i : Issue) (kd ka : KReg) (imm : BitVec 16) (s : State) : Host.Outcome State Fault Refusal :=
  branch i 0x1A kd ka imm (fun a b => a.slt b) s

/-- BGE: branch if kd ≥ ka signed. -/
def execBge (i : Issue) (kd ka : KReg) (imm : BitVec 16) (s : State) : Host.Outcome State Fault Refusal :=
  branch i 0x1B kd ka imm (fun a b => !a.slt b) s

/-- BLTU: branch if kd < ka unsigned. -/
def execBltu (i : Issue) (kd ka : KReg) (imm : BitVec 16) (s : State) : Host.Outcome State Fault Refusal :=
  branch i 0x1C kd ka imm (fun a b => a.ult b) s

/-- BGEU: branch if kd ≥ ka unsigned. -/
def execBgeu (i : Issue) (kd ka : KReg) (imm : BitVec 16) (s : State) : Host.Outcome State Fault Refusal :=
  branch i 0x1D kd ka imm (fun a b => !a.ult b) s

/-- JALR: kd ← PC + 1; PC ← ka + imm (R316). -/
def execJalr (i : Issue) (kd ka : KReg) (imm : BitVec 16) (s : State) : Host.Outcome State Fault Refusal :=
  done (issue i (encB 0x24 kd.val ka.val imm.toNat) s (fun t =>
    let c := t.keeper i.core.val
    jump i.core.val (accessAddr c ka imm) (c.setReg kd (BitVec.ofNat 64 (c.pc + 1))) 2 t))

/-- J: PC ← PC + sext(off26). -/
def execJ (i : Issue) (off : BitVec 26) (s : State) : Host.Outcome State Fault Refusal :=
  done (issue i (encD 0x30 off.toNat) s (fun t =>
    let c := t.keeper i.core.val
    jump i.core.val (c.pc + off.toInt) c 2 t))

/-- JAL: k31 ← PC + 1; PC ← PC + sext(off26). -/
def execJal (i : Issue) (off : BitVec 26) (s : State) : Host.Outcome State Fault Refusal :=
  done (issue i (encD 0x31 off.toNat) s (fun t =>
    let c := t.keeper i.core.val
    jump i.core.val (c.pc + off.toInt) (c.setReg 31 (BitVec.ofNat 64 (c.pc + 1))) 2 t))

end Sys2Proof.Machine
end

