-- ==== Sys2Proof/Machine/KeeperSystem.lean ====
section
/-! DEFINITION. Meanings of the Keeper instructions that reach the NoC, the mailbox, time and events; run and stop, code store
writes and illegal words (R312 to R330). -/

namespace Sys2Proof.Machine

/-- Checks of an NLD or NST: NoC address, data store line alignment, then its range (R317). -/
def lineChecked (i : Issue) (func : Nat) (kd ka kb : KReg) (s : State) (f : Nat → Nat → State → State) :
    Host.Outcome State Fault Refusal :=
  let word := encA 1 kd.val ka.val kb.val func
  done (issue i word s (fun t =>
    let k := i.core.val
    let c := t.keeper k
    let a := (c.reg ka).toNat
    let b := (c.reg kb).toNat
    if a % 64 ≠ 0 then keeperFault k 3 word a t
    else if b % 64 ≠ 0 then keeperFault k 3 word b t
    else if dataLimit < b then keeperFault k 4 word b t
    else f a b t))

/-- NLD: post a 64-byte read of NoC address ka, landing at data store kb (R317). -/
def execNld (i : Issue) (kd ka kb : KReg) (s : State) : Host.Outcome State Fault Refusal :=
  lineChecked i 0 kd ka kb s (fun a b t => post i kd a false 64 0 b t)

/-- The line that an NST copies is read: a double-bit error faults, a corrected one is counted (R313). -/
def lineCopied (i : Issue) (word b : Nat) (ecc : EccClass) (s : State) (f : Nat → State → State) : State :=
  let k := i.core.val
  let c := s.keeper k
  match ecc with
  | .double _ => keeperFault k 6 word b s
  | .single =>
    let r := coreRead k b 64 (s.setKeeper k { c with corrected := satInc 32 c.corrected })
    f r.1 r.2
  | .clean =>
    let r := coreRead k b 64 s
    f r.1 r.2

/-- NST: post a 64-byte write of the data store line kb, copied in the posting cycle (R317). -/
def execNst (i : Issue) (kd ka kb : KReg) (ecc : EccClass) (s : State) : Host.Outcome State Fault Refusal :=
  lineChecked i 1 kd ka kb s (fun a b t =>
    if (t.keeper i.core.val).freeTag.isSome then
      lineCopied i (encA 1 kd.val ka.val kb.val 1) b ecc t (fun line u => post i kd a true 64 line b u)
    else post i kd a true 64 0 b t)

/-- NSTW: post a 4-byte write of kb[31:0] (R317). -/
def execNstw (i : Issue) (kd ka kb : KReg) (s : State) : Host.Outcome State Fault Refusal :=
  let word := encA 1 kd.val ka.val kb.val 2
  done (issue i word s (fun t =>
    let c := t.keeper i.core.val
    let a := (c.reg ka).toNat
    if a % 4 ≠ 0 then keeperFault i.core.val 3 word a t
    else post i kd a true 4 ((c.reg kb).toNat % 2 ^ 32) 0 t))

/-- WATCH: kd ← oldest mailbox entry, removed; 0 if empty, which clears MBOX_OVF (R325, Table 12-5). -/
def execWatch (i : Issue) (kd : KReg) (s : State) : Host.Outcome State Fault Refusal :=
  done (issue i (encA 1 kd.val 0 0 3) s (fun t =>
    let c := t.keeper i.core.val
    match c.mailbox with
    | [] => finish i.core.val { c.setReg kd 0 with mboxOvf := false } 1 t
    | e :: rest => finish i.core.val { c.setReg kd (BitVec.ofNat 64 e) with mailbox := rest } 1 t))

/-- SRD: kd ← the source selected by the ka field (R320). -/
def execSrd (i : Issue) (kd : KReg) (sel : Fin 8) (s : State) : Host.Outcome State Fault Refusal :=
  done (issue i (encA 1 kd.val sel.val 0 4) s (fun t =>
    let c := t.keeper i.core.val
    finish i.core.val (c.setReg kd (BitVec.ofNat 64 (t.srdSource i.core.val sel.val))) 1 t))

/-- ROUND: at once, late, with the flag set; else ROUND_WAIT (R322). -/
def execRound (i : Issue) (s : State) : Host.Outcome State Fault Refusal :=
  done (issue i (encA 1 0 0 0 5) s (fun t =>
    let c := (t.keeper i.core.val).roundDone (t.roundCycle i.core.val + 1)
    if c.datumPending then
      finish i.core.val { c with datumPending := false, late := true, lateRounds := satInc 32 c.lateRounds } 1 t
    else t.setKeeper i.core.val { c.next 1 with state := .roundWait }))

/-- HALT: enter HALTED (R328). -/
def execHalt (i : Issue) (s : State) : Host.Outcome State Fault Refusal :=
  done (issue i (encA 1 0 0 0 6) s (fun t =>
    let c := t.keeper i.core.val
    t.setKeeper i.core.val { c with state := .halted, pc := min (c.pc + 1) 65535, cycle := c.cycle + 1 }))

/-- NWAIT: the tag's status, 8 for an immediate timeout, 9 for no such tag, or a wait (R318). -/
def execNwait (i : Issue) (kd ka : KReg) (imm : BitVec 16) (s : State) : Host.Outcome State Fault Refusal :=
  done (issue i (encB 0x20 kd.val ka.val imm.toNat) s (fun t =>
    let k := i.core.val
    let c := t.keeper k
    let n := (c.reg ka).toNat
    match c.tags.find? (fun g => g.number == n && !g.abandoned) with
    | none => finish k (c.setReg kd 9) 1 t
    | some g =>
      match g.ended with
      | some st =>
        finish k { c.setReg kd (BitVec.ofNat 64 (statusCode st)) with tags := c.tags.filter (fun u => u.number != n) } 1 t
      | none =>
        if imm = 0 then
          finish k { c.setReg kd 8 with
            tags := c.tags.map (fun u => if u.number = n then { u with abandoned := true } else u) } 1 t
        else t.setKeeper k { (c.next 0) with wait := .nwait kd.val n, waitLimit := imm.toNat }))

/-- NWAIT_TIMEOUT: imm cycles pass without an end: NWAIT returns 8 and the tag is abandoned (R318). -/
def execNwaitTimeout (core : Fin 4) (s : State) : Host.Outcome State Fault Refusal :=
  let c := s.keeper core.val
  match c.wait with
  | .nwait kd n =>
    if c.state = .running then
      done (takeOver core.val (s.setKeeper core.val { c.setReg (Fin.ofNat 32 kd) 8 with
        wait := .none, cycle := c.cycle + c.waitLimit
        tags := c.tags.map (fun u => if u.number = n then { u with abandoned := true } else u) }))
    else done s
  | _ => done s

/-- WBEAT: at once when the beat index has reached n = ka + sext(imm), else a wait for beat n, or B − 1 (R321). -/
def execWbeat (i : Issue) (kd ka : KReg) (imm : BitVec 16) (s : State) : Host.Outcome State Fault Refusal :=
  done (issue i (encB 0x21 kd.val ka.val imm.toNat) s (fun t =>
    let c := t.keeper i.core.val
    let n := (c.reg ka).toInt + imm.toInt
    let n1 := if (t.B : Int) ≤ n then (t.B : Int) - 1 else n
    if n1 ≤ t.time.beat then finish i.core.val (c.setReg kd (BitVec.ofNat 64 t.time.beat)) 1 t
    else t.setKeeper i.core.val { (c.next 0) with wait := .wbeat kd.val n1.toNat }))

/-- WBEAT_RETURN: the awaited beat begins, and the waiting WBEAT returns the beat index (R321). -/
def execWbeatReturn (core : Fin 4) (s : State) : Host.Outcome State Fault Refusal :=
  let c := s.keeper core.val
  match c.wait with
  | .wbeat kd n =>
    if c.state = .running ∧ n ≤ s.time.beat then
      done (takeOver core.val (s.setKeeper core.val { c.setReg (Fin.ofNat 32 kd) (BitVec.ofNat 64 s.time.beat) with
        wait := .none, cycle := 2 * (s.time.tick - s.time.cyc) - s.M / 4 * (s.time.beat - n) + 1 }))
    else done s
  | _ => done s

/-- EVPOST: raise event 1488 + imm[3:0] with data ka (R326). -/
def execEvpost (i : Issue) (ka : KReg) (n : Fin 16) (s : State) : Host.Outcome State Fault Refusal :=
  done (issue i (encB 0x22 0 ka.val n.val) s (fun t =>
    let c := t.keeper i.core.val
    raise (1488 + n.val) (finish i.core.val { c with lastEvpost := (c.reg ka).toNat } 1 t)))

/-- EMCY: queue 0xFF00 + imm[5:0] with data ka[39:0], or drop it when 8 wait (R327). -/
def execEmcy (i : Issue) (kd ka : KReg) (n : BitVec 6) (s : State) : Host.Outcome State Fault Refusal :=
  done (issue i (encB 0x23 kd.val ka.val n.toNat) s (fun t =>
    let k := i.core.val
    let c := t.keeper k
    if 8 ≤ c.emcy.length then finish k { c.setReg kd 1 with emcyDrops := satInc 32 c.emcyDrops } 1 t
    else
      let m : Emcy := { code := 0xFF00 + n.toNat, field := (c.reg ka).toNat % 2 ^ 40, age := t.can.emcyAges }
      finish k { c.setReg kd 0 with emcy := c.emcy ++ [m] } 1
        { t with can := { t.can with emcyAges := t.can.emcyAges + 1 } }))

/-- ILLEGAL_INSTRUCTION: the core issues a word that Table 12-3 does not list (R314). -/
def execIllegalInstruction (i : Issue) (s : State) : Host.Outcome State Fault Refusal :=
  let k := i.core.val
  let w := s.fetched k
  if s.mayIssue k && !legalWord w then done (keeperFault k (if i.parityError then 5 else 1) w 0 s) else done s

/-! Run, stop and code store writes (R312, R328, R330). -/

/-- Control write 1 at the dictionary: a run (R328). -/
def keeperRunWrite (k : Nat) (s : State) : Nat × State :=
  let c := s.keeper k
  if s.keeperInReset k then (abortState, s)
  else match c.state with
    | .stopped => (0, s.setKeeper k { c with state := .waiting, longestRound := 0 })
    | .halted =>
      let s1 := coreReset k s
      (0, s1.setKeeper k { s1.keeper k with state := .waiting, longestRound := 0 })
    | .faulted =>
      let s1 := coreReset k s
      (0, s1.setKeeper k { s1.keeper k with state := .waiting, longestRound := 0 })
    | _ => (abortState, s)

/-- Control write 2 at the dictionary: a stop (R328). -/
def keeperStopWrite (k : Nat) (s : State) : Nat × State :=
  if s.keeperInReset k then (abortState, s)
  else (0, s.setKeeper k { s.keeper k with state := .stopped, wait := .none, pcOver := false })

/-- KEEPER_RUN (R328). -/
def execKeeperRun (path : Path) (core : Fin 4) (s : State) : Host.Outcome State Fault Refusal :=
  done (onPath path (0x3900 + core.val) 1 s (keeperRunWrite core.val s))

/-- KEEPER_STOP (R328). -/
def execKeeperStop (path : Path) (core : Fin 4) (s : State) : Host.Outcome State Fault Refusal :=
  done (onPath path (0x3900 + core.val) 1 s (keeperStopWrite core.val s))

/-- The code store accepts writes: its core is STOPPED, as it is throughout a per-block reset, HALTED or FAULTED (R312, R330). -/
def State.codeWritable (s : State) (k : Nat) : Bool :=
  s.keeperInReset k || match (s.keeper k).state with
  | .stopped => true
  | .halted => true
  | .faulted => true
  | _ => false

/-- A write of a line or of a word with byte enables into plain memory, when its shape is legal. -/
def storeWrite (addr : Nat) (data : List Byte) (be : Nat) (s : State) : State :=
  if data.length = 4 then s.writeNat addr 4 (mergeBE (s.readNat addr 4) (ofBytes data) be)
  else State.writeBytes data addr s

/-- A write is a 64-byte line or a 4-byte word, aligned (Table 10-3). -/
def legalWrite (addr : Nat) (data : List Byte) : Bool :=
  (decide (data.length = 64) && decide (addr % 64 = 0)) || (decide (data.length = 4) && decide (addr % 4 = 0))

/-- KEEPER_CODE_STORE_WRITE: accepted only while the core is STOPPED, HALTED or FAULTED (R312). -/
def execKeeperCodeStoreWrite (req : ReqId) (addr : BitVec 48) (data : List Byte) (be : BitVec 4) (s : State) :
    Host.Outcome State Fault Refusal :=
  if !s.reaches req then done s
  else
    let t := openTxn req addr.toNat true s
    let d := s.carriedBytes req data
    match s.place addr.toNat with
    | .code k _ =>
      if s.fencedFor (65 + k) req then done (answerStatus req .fenced t)
      else if !s.codeWritable k || !legalWrite addr.toNat d then done (answerStatus req .buserr t)
      else done (answerStatus req .ok (storeWrite addr.toNat d be.toNat t))
    | _ => done (answerStatus req .buserr t)

end Sys2Proof.Machine
end

