-- ==== Sys2Proof/Machine/Sessions.lean ====
section
/-! DEFINITION. The dictionary engine's clients: the queue of operations and its grants, the transfer buffers, the requests of the
Survey port and of the window slots, and the responses of every client (R335, R336, R347, R349, R355 to R358, Tables 13-10
to 13-13). What an operation does to an object stands in Machine/Dictionary.lean. -/

namespace Sys2Proof.Machine

/-! Clients: 0 Survey, 1 CAN, 2 relay, 3 + k window slot k; 16 + c is a client whose session ended while its last operation ran. -/

/-- PATH of a client (Table 13-1). -/
def clientPath (c : Nat) : Nat := min (c % 16) 3

/-- A client's session. -/
def State.session (s : State) (c : Nat) : Session := Tbl.at {} s.eng.sessions c

/-- A client's session replaced. -/
def State.setSession (s : State) (c : Nat) (x : Session) : State :=
  { s with eng := { s.eng with sessions := Tbl.upd {} s.eng.sessions c x } }

/-- Length of a path's transfer buffer (R336). -/
def bufferSize : Nat := 131072

/-! The queue of operations (R335). -/

/-- Operations that a request needs: 64 bytes of a write in each; a read copies its object in one (R335, R336). -/
def jobOps : JobKind → Nat
  | .write d => max 1 ((d.length + 63) / 64)
  | _ => 1

/-- The job waits for the end of a relay transfer and not for the engine. -/
def Job.onRelay (j : Job) : Bool := j.started && decide (j.opsLeft = 0)

/-- The paths with an operation that waits for a grant. -/
def State.waitingPaths (s : State) : List Nat :=
  whichBelow 4 (fun p => s.eng.jobs.any (fun j => !j.onRelay && decide (clientPath j.client = p)))

/-- The path that receives the next grant: one that 16 consecutive operations have passed, else the first in order. -/
def State.grantedPath (s : State) : Option Nat :=
  match s.waitingPaths.find? (fun p => decide (16 ≤ s.eng.passed.getD p 0)) with
  | some p => some p
  | none => s.waitingPaths.head?

/-- The oldest operation of a path that waits. -/
def State.oldestJob (s : State) (p : Nat) : Option Job :=
  (sortBy Job.arrival (s.eng.jobs.filter (fun j => !j.onRelay && decide (clientPath j.client = p)))).head?

/-- The idle engine takes its next operation (R335). -/
def grantNext (s : State) : State :=
  if s.eng.current.isSome then s
  else match s.grantedPath with
    | none => s
    | some p => match s.oldestJob p with
      | none => s
      | some j =>
        let rest := s.eng.jobs.filter (fun i => decide (i.arrival ≠ j.arrival))
        let passed := (List.range 4).map (fun q =>
          if q ≠ p ∧ s.waitingPaths.contains q = true then s.eng.passed.getD q 0 + 1 else 0)
        { s with eng := { s.eng with jobs := rest, current := some { j with started := true }, passed := passed } }

/-- A client's request arrives at the engine. -/
def enqueue (c idx sub : Nat) (kind : JobKind) (s : State) : State :=
  let j : Job := { client := c, kind := kind, index := idx, sub := sub, opsLeft := jobOps kind, started := false,
                   arrival := s.eng.arrivals }
  grantNext { s with eng := { s.eng with jobs := s.eng.jobs ++ [j], arrivals := s.eng.arrivals + 1 } }

/-- The client's last request has not completed. -/
def State.clientBusy (s : State) (c : Nat) : Bool :=
  s.eng.jobs.any (fun j => decide (j.client = c)) || s.eng.current.any (fun j => decide (j.client = c))

/-- A client's session ends: its waiting operations go, and one in progress will answer nobody (R335, R349). -/
def dropJobs (c : Nat) (s : State) : State :=
  let cur : Option Job := s.eng.current.map (fun j => if j.client = c then { j with client := 16 + c } else j)
  { s with eng := { s.eng with jobs := s.eng.jobs.filter (fun j => decide (j.client ≠ c)), current := cur } }

/-! Responses. -/

/-- Data words of a relay transfer, 7 bytes each (Table 9-5). -/
def relayDataWords (txn : Nat) (data : List Byte) : List Nat :=
  (List.range ((data.length + 6) / 7)).map (fun i =>
    2 * 2 ^ 60 + txn * 2 ^ 56 + ofBytes ((data.drop (7 * i)).take 7))

/-- Words of a worker's response: its header, then the bytes read (Table 9-5). -/
def relayResponseWords (txn code : Nat) (data : List Byte) : List Nat :=
  (3 * 2 ^ 60 + txn * 2 ^ 56 + data.length % 2 ^ 24 * 2 ^ 32 + code % 2 ^ 32) :: relayDataWords txn data

/-- Word that aborts a transfer (Table 9-5). -/
def relayAbortWord (txn code : Nat) : Nat := 4 * 2 ^ 60 + txn * 2 ^ 56 + code % 2 ^ 32

/-- A USDO response is handed to the transmit queue (R347, R348). -/
def usdoSend (a : Config.UsdoAnswer) (idx sub : Nat) (data : List Byte) (s : State) : State :=
  canSend 0x580 (Config.usdoFrame a idx sub data) s

/-- An abort that the device originates on CAN is counted, with event 1510 (R349). -/
def usdoCounted (s : State) : State :=
  raise 1510 { s with can := { s.can with aborted := satInc 32 s.can.aborted } }

/-- The device sends an abort frame, which it originates (R349). -/
def usdoAbortFrame (idx sub code : Nat) (s : State) : State := usdoCounted (usdoSend (.abort code) idx sub [] s)

/-- The answer of a request that succeeds: an upload's carries the size, and its bytes where it is expedited (R347). -/
def usdoDone (a : Config.UsdoAnswer) (len : Nat) : Config.UsdoAnswer :=
  match a with
  | .uploadInitiate _ _ => .uploadInitiate (decide (len ≤ 8)) len
  | _ => a

/-- The response of a client's request: `len` is the object's length, `data` what the response carries. -/
def clientRespond (c idx sub code len : Nat) (data : List Byte) (s : State) : State :=
  let r : Response := { index := idx, sub := sub, done := true, err := decide (code ≠ 0),
                        code := if code ≠ 0 then code else len, data := if code ≠ 0 then [] else data }
  if 16 ≤ c then s
  else if c = 0 then { s with eng := { s.eng with survey := r } }
  else if c = 1 then
    if code ≠ 0 then usdoAbortFrame idx sub code s else usdoSend (usdoDone (s.session 1).answer len) idx sub r.data s
  else if c = 2 then
    { s with mer := { s.mer with relayOut := s.mer.relayOut ++ relayResponseWords (s.session 2).pos code r.data } }
  else { s with eng := { s.eng with windows := s.eng.windows.set (c - 3) r } }

/-- A request ends: the response, and the answer of its path. -/
def endRequest (c idx sub code seq len : Nat) (data full : List Byte) (s : State) : State :=
  clientRespond c idx sub code len data
    (if 16 ≤ c then s else reply (clientPath c) idx sub code seq (if code ≠ 0 then [] else full) s)

/-- Bytes that a response carries of a copy, from an offset on: 8 at the Survey port, with 0 beyond the end; at a window those
that exist (R356, R357). -/
def responseBytes (c off len : Nat) (full : List Byte) : List Byte :=
  let got := (full.drop off).take len
  if c = 0 then (got ++ List.replicate 8 0).take 8 else got

/-- A copy of an object stands in a client's buffer, and the read is answered from it. -/
def finishRead (j : Job) (off len : Nat) (full : List Byte) (s : State) : State :=
  let x : Session := { s.session j.client with buf := full, index := j.index, sub := j.sub, copyValid := true, collecting := false }
  endRequest j.client j.index j.sub 0 0 full.length (responseBytes j.client off len full) full (s.setSession j.client x)

/-- An upload initiate: up to 8 bytes go with the response, more open a session (R347). -/
def finishUpload (j : Job) (full : List Byte) (s : State) : State :=
  let s1 := if j.client ≠ 1 then s
    else s.setSession 1 (if full.length ≤ 8 then { answer := .uploadInitiate true 0 }
      else { answer := .uploadInitiate false 0, buf := full, index := j.index, sub := j.sub, copyValid := true, opened := 2, size := full.length })
  endRequest j.client j.index j.sub 0 0 full.length (if j.client = 1 ∧ 8 < full.length then [] else full) full s1

/-- A read ends well. -/
def finishCopy (j : Job) (full : List Byte) (s : State) : State :=
  match j.kind with
  | .read off len => finishRead j off len full s
  | _ => finishUpload j full s

/-- A write ends, or any request is refused: its session is over. -/
def finishCode (j : Job) (code seq len : Nat) (s : State) : State :=
  let s1 := endRequest j.client j.index j.sub code seq len [] [] s
  if 16 ≤ j.client then s1 else s1.setSession j.client {}

/-- A transfer to worker `w` ends: the requests that waited for it complete (R243). -/
def endRelayWait (w code : Nat) (data : List Byte) (s : State) : State :=
  let mine : Job → Bool := fun j => j.onRelay && decide (j.index = 0x5000 + w) && decide (j.sub = 0x11)
  let s1 := { s with eng := { s.eng with jobs := s.eng.jobs.filter (fun j => !mine j) } }
  (s.eng.jobs.filter mine).foldl (fun t j =>
    match j.kind with
    | .write d => finishCode j code 0 d.length t
    | _ => if code = 0 then finishCopy j data t else finishCode j code 0 0 t) s1

/-! Requests in pieces, at the Survey port and at the window slots (R356, R357). -/

/-- Discard whatever a client's session holds. -/
def discard (c : Nat) (s : State) : State := s.setSession c {}

/-- A write segment: it must start at the number of bytes collected, and fit the buffer; the code it is refused with. -/
def collect (c idx sub off : Nat) (data : List Byte) (s : State) : Nat × State :=
  let x := s.session c
  let have0 := if x.collecting then x.buf else []
  if off ≠ have0.length ∨ (x.collecting = true ∧ (x.index ≠ idx ∨ x.sub ≠ sub)) then (abortCommand, discard c s)
  else if bufferSize < have0.length + data.length then (abortTooLong, discard c s)
  else (0, s.setSession c { x with buf := have0 ++ data, index := idx, sub := sub, collecting := true, copyValid := false })

/-- Length of an object whose length is fixed; 0 of another. -/
def fixedLength (idx sub : Nat) : Nat :=
  match objRow idx sub with
  | some r => r.len
  | none => 0

/-- A read request: from the copy in the buffer, or by the engine (R356). -/
def readRequest (c idx sub off len : Nat) (s : State) : State :=
  let x := s.session c
  if off ≠ 0 ∧ x.copyValid = true ∧ x.index = idx ∧ x.sub = sub then
    endRequest c idx sub 0 0 x.buf.length (responseBytes c off len x.buf) x.buf s
  else enqueue c idx sub (.read off len) (s.setSession c { x with collecting := false })

/-- A write segment request. -/
def segmentRequest (c idx sub off : Nat) (data : List Byte) (s : State) : State :=
  let r := collect c idx sub off data s
  endRequest c idx sub r.1 0 (fixedLength idx sub) [] [] r.2

/-- A write final request: its bytes are added and the whole is one write. -/
def finalRequest (c idx sub off : Nat) (data : List Byte) (s : State) : State :=
  let r := collect c idx sub off data s
  if r.1 ≠ 0 then endRequest c idx sub r.1 0 0 [] [] r.2
  else enqueue c idx sub (.write (r.2.session c).buf) r.2

/-! The Survey port (R355). -/

/-- The response register, as Capture-DR loads it (Table 13-11). -/
def State.surveyWord (s : State) : Nat :=
  let r := s.eng.survey
  ofBytes r.data % 2 ^ 64 + r.code % 2 ^ 32 * 2 ^ 64 + b2n r.err * 2 ^ 102 + b2n r.done * 2 ^ 103 +
    r.sub % 256 * 2 ^ 104 + r.index % 65536 * 2 ^ 112

/-- A request at Update-DR: ignored while the previous one runs (R355). -/
def surveyRequest (idx sub : Nat) (f : State → State) (s : State) : State :=
  if s.clientBusy 0 then s else f { s with eng := { s.eng with survey := { index := idx, sub := sub, done := false } } }

/-! The window (R357). -/

/-- The response line of a slot (Table 13-13). -/
def State.windowLine (s : State) (k : Nat) : Line :=
  let r := s.eng.windows.getD k {}
  BitVec.ofNat 512 (r.index % 65536 + r.sub % 256 * 2 ^ 16 + (b2n r.done + 2 * b2n r.err) * 2 ^ 24 + r.code % 2 ^ 32 * 2 ^ 32 +
    r.data.length % 256 * 2 ^ 64 + ofBytes r.data % 2 ^ 384 * 2 ^ 128)

/-- A request in slot `k`: 0 read, 1 write segment, 2 write final; a LEN of 0 or above 48, or the reserved OP, completes with
code 0x0504_0001 and discards what the slot has collected. -/
def windowRequest (k op idx sub off len : Nat) (data : List Byte) (s : State) : State :=
  let c := 3 + k
  let s1 := { s with eng := { s.eng with windows := s.eng.windows.set k { index := idx, sub := sub, done := false } } }
  if len = 0 ∨ 48 < len ∨ 3 ≤ op then endRequest c idx sub abortCommand 0 0 [] [] (discard c s1)
  else if op = 0 then readRequest c idx sub off len s1
  else if op = 1 then segmentRequest c idx sub off (data.take len) s1
  else finalRequest c idx sub off (data.take len) s1

/-- The SVC to NOC crossing is synchronous and its divider ratio is above 8, while SVC runs from the root: it transfers undefined
values (R176, R393, R394). -/
def State.svcBroken (s : State) : Bool :=
  decide (4 < bitsAt (s.obj 0x2100 3) 0 4) && !bitOf (s.obj 0x2100 4) 4 &&
  (match s.clk.lantern with
    | .off => false
    | .locking => false
    | _ => true)

/-- A write of a request line that the engine takes: BUSERR while the slot's request runs (R357). -/
def windowTake (q : ReqId) (k op idx sub off len : Nat) (data : List Byte) (s : State) : State :=
  if s.rst.engineReset then answerStatus q .abortReset s
  else if s.served = false then s
  else if s.clientBusy (3 + k) then answerStatus q .buserr s
  else answerStatus q .ok (windowRequest k op idx sub off len data s)

/-- The fields of a request line (Table 13-12). -/
def windowTakeLine (q : ReqId) (k : Nat) (v : Nat) (s : State) : State :=
  windowTake q k (bitsAt v 24 2) (v % 65536) (bitsAt v 16 8) (bitsAt v 32 32) (bitsAt v 64 8) (toBytes 48 (v / 2 ^ 128)) s

/-- A write of a request line by a NoC requester; over a broken crossing its line arrives as a free value (R176, R357). -/
def windowWrite (q : ReqId) (k op idx sub off len : Nat) (data : List Byte) (s : State) : State :=
  if s.svcBroken then windowTakeLine q k (Config.undefinedBits s.freeCtr % 2 ^ 512) s.draw
  else windowTake q k op idx sub off len data s

/-- The same for a whole line. -/
def windowWriteLine (q : ReqId) (k : Nat) (v : Nat) (s : State) : State :=
  if s.svcBroken then windowTakeLine q k (Config.undefinedBits s.freeCtr % 2 ^ 512) s.draw
  else windowTakeLine q k v s

/-- A read of a response line; over a broken crossing it delivers a free value (R176, R357). -/
def windowReadLine (q : ReqId) (k : Nat) (s : State) : State :=
  if s.rst.engineReset then answerStatus q .abortReset s
  else if s.served = false then s
  else if s.svcBroken then answer q .ok (BitVec.ofNat 512 (Config.undefinedBits s.freeCtr)) s.draw
  else answer q .ok (s.windowLine k) s

/-! USDO sessions (R349). -/

/-- A CAN session is open: a transfer, or a request in progress. -/
def State.usdoOpen (s : State) : Bool := decide ((s.session 1).opened ≠ 0) || s.clientBusy 1

/-- A USDO session ends: nothing of it is left. -/
def usdoEnds (s : State) : State := dropJobs 1 (discard 1 s)

/-- A new initiate aborts an open USDO session without an abort frame: counted, with event 1510 (R349). -/
def usdoAborted (s : State) : State := usdoCounted (usdoEnds s)

end Sys2Proof.Machine
end

