-- ==== Sys2Proof/Machine/Noc.lean ====
section
/-! DEFINITION. The mesh: flits, routers, slot tables and slot misses, best-effort arbitration, delivery to plain memories,
responses and timeouts, with the meanings of ROUTER_FLIT_IN, NOC_RESPONSE and NOC_TIMEOUT (R185 to R188, R249 to R259,
R265, R270, R271). -/

namespace Sys2Proof

/-! The header (Table 10-3). -/

def Flit.kind (f : Flit) : Nat := bitsAt f.header.toNat 124 4
def Flit.sched (f : Flit) : Bool := Machine.bitOf f.header.toNat 123
def Flit.status (f : Flit) : Nat := bitsAt f.header.toNat 120 3
def Flit.tag (f : Flit) : Nat := bitsAt f.header.toNat 106 14
def Flit.srcRouter (f : Flit) : Nat := bitsAt f.header.toNat 100 6
def Flit.srcPort (f : Flit) : Nat := bitsAt f.header.toNat 96 4
def Flit.dstRouter (f : Flit) : Nat := bitsAt f.header.toNat 90 6
def Flit.dstPort (f : Flit) : Nat := bitsAt f.header.toNat 86 4
def Flit.addr (f : Flit) : Nat := bitsAt f.header.toNat 38 48
def Flit.be (f : Flit) : Nat := bitsAt f.header.toNat 34 4
def Flit.crcv (f : Flit) : Bool := Machine.bitOf f.header.toNat 33
def Flit.pcrc (f : Flit) : Nat := bitsAt f.header.toNat 0 32

/-- The flit is a request. -/
def Flit.isRequest (f : Flit) : Bool := decide (f.kind < 3)

/-- The flit is a response. -/
def Flit.isResponse (f : Flit) : Bool := f.kind == 3 || f.kind == 4

/-- STATUS marked DATAERR, or 3 in scheduled data (R253). -/
def Flit.poison (f : Flit) : Flit := { f with header := BitVec.ofNat 128 (withBits f.header.toNat 120 3 3) }

/-- A flit that missed its slot stays in the best-effort class (R188). -/
def Flit.toBestEffort (f : Flit) : Flit := { f with header := BitVec.ofNat 128 (withBits f.header.toNat 123 1 0) }

/-- The end-to-end CRC fails (R254). -/
def Flit.crcFails (f : Flit) : Bool := f.crcv && decide (Machine.crc32c (toBytes 64 f.payload.toNat) ≠ f.pcrc)

/-- Data that a write carries to the pattern window; none for a read. -/
def Flit.lineData (f : Flit) : Option Nat := if f.kind = 0 then none else some f.payload.toNat

/-- The bytes that a write carries. -/
def Flit.bytes (f : Flit) : List Byte :=
  if f.kind = 1 then toBytes 64 f.payload.toNat else toBytes 4 (f.payload.toNat % 2 ^ 32)

end Sys2Proof

namespace Sys2Proof.Machine

/-- The requester at a router port with a tag (Tables 10-2 and 10-5): at a lane group's port, tags 0 to 63 are the carriage's
and the next 32 the eye scan's. -/
def requesterAt (r p tag : Nat) : Option ReqId :=
  let g : Fin 32 := Fin.ofNat 32 (4 * (r / 8) + (if r % 8 = 0 then 0 else 2) + (p - 8))
  match p with
  | 8 => some (if tag < 64 then ⟨.carriage g, tag⟩ else ⟨.eyeScan g, tag - 64⟩)
  | 9 => some (if tag < 64 then ⟨.carriage g, tag⟩ else ⟨.eyeScan g, tag - 64⟩)
  | 11 => ([2, 5, 58, 61].idxOf? r).map (fun k => ⟨.keeper (Fin.ofNat 4 k), tag⟩)
  | 12 => some ⟨.dict, tag⟩
  | 13 => some ⟨.config, tag⟩
  | 14 => ([24, 31, 32, 39].idxOf? r).map (fun e => ⟨.move (Fin.ofNat 4 e), tag⟩)
  | 15 => some ⟨.security, tag⟩
  | _ => none

end Sys2Proof.Machine

namespace Sys2Proof

/-- The transaction a flit belongs to: its SRC for a request, its DST for a response (R252). -/
def Flit.req (f : Flit) : Option ReqId :=
  if f.isRequest then Machine.requesterAt f.srcRouter f.srcPort f.tag
  else if f.isResponse then Machine.requesterAt f.dstRouter f.dstPort f.tag
  else none

/-- The flit is a request of `r`. -/
def Flit.requestOf (f : Flit) (r : ReqId) : Bool := f.isRequest && decide (f.req = some r)

/-- The flit arrives bad: marked, or with a failed CRC (R253, R254). -/
def Flit.bad (f : Flit) : Bool := decide (f.status = 3) || f.crcFails

/-- The access reads the array: a read, or a word write, which merges with the rest of its 64-bit word (R313). -/
def Flit.reads (f : Flit) : Bool := decide (f.kind = 0) || decide (f.kind = 2)

end Sys2Proof

namespace Sys2Proof.Machine

/-! The headers that sources form (R252, Tables 10-3 and 10-5). -/

/-- TAG of a requester's transaction at its router port. DESIGN CHOICE (log 194): the carriage and the eye scan share a port; the carriage has
tags 0 to 63 there and the eye scan 64 to 95. -/
def tagField (r : ReqId) : Nat :=
  match r.src with
  | .eyeScan _ => 64 + r.tag
  | _ => r.tag

/-- Router and port as a header field. -/
def portField (p : Nat × Nat) : Nat := p.1 * 16 + p.2

/-- DST_ROUTER and DST_PORT of a request, decoded from its address (R252). -/
def State.dstField (s : State) (src : Nat × Nat) (addr : Nat) : Nat := portField ((s.placePort (s.place addr)).getD src)

/-- The flit of a transaction's request, as its source interface forms it (R252). -/
def State.requestFlit (s : State) (t : Txn) : Flit :=
  let src := requesterPort t.req.src
  let kind := if t.write then (if t.size = 4 then 2 else 1) else 0
  { header := BitVec.ofNat 128 (kind * 2 ^ 124 + tagField t.req % 2 ^ 14 * 2 ^ 106 + portField src * 2 ^ 96 +
      s.dstField src t.addr * 2 ^ 86 + t.addr % 2 ^ 48 * 2 ^ 38 + (if kind = 2 then 15 * 2 ^ 34 else 0))
    payload := BitVec.ofNat 512 (if t.write then t.data else 0) }

/-- A request that enters the mesh: what its requester posted, or the flit given with DST decoded from its address (R252, R317). -/
def State.sourceFlit (s : State) (r p : Nat) (q : ReqId) (f : Flit) : Flit :=
  match s.posting q with
  | some t => s.requestFlit t
  | none => { f with header := BitVec.ofNat 128 (withBits f.header.toNat 86 10 (s.dstField (r, p) f.addr)) }

/-- A response: the request's SRC fields become DST, TAG and ADDR are echoed (R252). `header` is the request's. -/
def responseFlit (header : Nat) (st : Status) (data : Line) : Flit :=
  let kind := if bitsAt header 124 4 = 0 then 3 else 4
  { header := BitVec.ofNat 128 (kind * 2 ^ 124 + statusCode st * 2 ^ 120 + bitsAt header 106 14 * 2 ^ 106 +
      bitsAt header 86 10 * 2 ^ 96 + bitsAt header 96 10 * 2 ^ 86 + bitsAt header 38 48 * 2 ^ 38), payload := data }

/-- The flit of an answer on its way back: that of the open transaction's request, turned round. -/
def State.answerFlit (s : State) (a : NocAnswer) : Option Flit :=
  (s.noc.txns.find? (fun t => decide (t.req = a.req))).map
    (fun t => responseFlit (s.requestFlit t).header.toNat a.status a.data)

/-- Status that a code names (Table 10-4). -/
def statusOf (c : Nat) : Status :=
  [Status.ok, .okCorrected, .buserr, .dataerr, .abortReset, .fenced, .partialMove, .collided].getD c .dataerr

/-! The check on input (R253). -/

/-- Answers in flight to a transaction, changed. -/
def mapAnswers (r : ReqId) (f : NocAnswer → NocAnswer) (s : State) : State :=
  { s with noc := { s.noc with answers := s.noc.answers.map (fun a => if a.req = r then f a else a) } }

/-- A single-bit error is corrected and counted; the transaction ends OK_CORRECTED at best (R253, R255). -/
def correctFlit (r : Nat) (f : Flit) (owner : Option ReqId) (s : State) : State :=
  let s1 := { s with noc := { s.noc with
    corrections := Tbl.upd 0 s.noc.corrections r (satInc 32 (Tbl.at 0 s.noc.corrections r)) } }
  let s2 := match owner with
    | some q =>
      if f.isRequest then { s1 with noc := { s1.noc with pathCorrected := q :: s1.noc.pathCorrected } }
      else mapAnswers q (fun a => if a.status = .ok then { a with status := .okCorrected } else a) s1
    | none => s1
  raiseOnce 1280 s2

/-- A payload double-bit error: the flit is marked and goes on; a response that was good becomes DATAERR (R253, R255). -/
def poisonFlit (f : Flit) (owner : Option ReqId) (s : State) : State :=
  let s1 := { s with noc := { s.noc with poisoned := satInc 32 s.noc.poisoned } }
  let s2 := match owner with
    | some q => if f.isResponse then mapAnswers q (fun a => if statusGood a.status then { a with status := .dataerr } else a) s1 else s1
    | none => s1
  raise 1281 s2

/-- A header double-bit error: the flit is discarded; its transaction, open at its source, ends by timeout (R253). -/
def discardFlit (p : Nat) (f : Flit) (owner : Option ReqId) (s : State) : State :=
  let s1 := { s with noc := { s.noc with discarded := satInc 32 s.noc.discarded } }
  let s2 := match owner with
    | some q =>
      if f.isResponse then { s1 with noc := { s1.noc with answers := s1.noc.answers.filter (fun a => decide (a.req ≠ q)) } }
      else if 4 ≤ p then openTxn q f.addr (decide (f.kind ≠ 0)) s1
      else s1
    | none => s1
  raise 1281 s2

/-! Responses at their requesters (R252, R258, R259). -/

/-- What the requester does when its transaction ends: a core's tag ends, a carriage sends the response back, a scan notes the status of
its record write (R216, R238, R318, R319); a carriage's transaction keeps the request's header as its data. -/
def requesterEnded (t : Txn) (st : Status) (data : Line) (s : State) : State :=
  match t.req.src with
  | .keeper k => keeperEnded k.val t.req.tag st data s
  | .carriage g =>
    let x := s.group g.val
    s.setGroup g.val { x with carWait := x.carWait ++ [responseFlit t.data st data] }
  | .eyeScan g =>
    let x := s.group g.val
    s.setGroup g.val { x with scan := { x.scan with answers := x.scan.answers ++ [st] } }
  | _ => s

/-- A transaction ends: its tag is freed and its requester has the status (R258, R259). -/
def endTxn (r : ReqId) (st : Status) (data : Line) (s : State) : State :=
  match s.noc.txns.find? (fun t => decide (t.req = r)) with
  | some t => requesterEnded t st data (closeTxn r s)
  | none => s

/-- A response for a freed tag is discarded and counted (R258). -/
def lateResponse (s : State) : State := { s with noc := { s.noc with late := satInc 32 s.noc.late } }

/-- The answers without the first one to a request. -/
def dropAnswer (r : ReqId) : List NocAnswer → List NocAnswer
  | [] => []
  | a :: as => if a.req = r then as else a :: dropAnswer r as

/-- A response with a status and data arrives at its source. -/
def respond (r : ReqId) (st : Status) (data : Line) (s : State) : State :=
  if s.isOpen r then endTxn r st data s else lateResponse s

/-- The oldest answer that waits for a requester's tag, for its transaction or for one that has ended. -/
def State.firstAnswer (s : State) (r : ReqId) : Option NocAnswer :=
  s.noc.answers.find? (fun a => decide (a.req = r) || decide (a.req = r.stale))

/-- The response in flight to a request, or one from outside, completes its transaction and frees the tag (R258); one that still crosses an
asynchronous boundary has not arrived (R177). -/
def takeResponse (req : ReqId) (outside : Option (Status × Line)) (s : State) : State :=
  match s.noc.answers.find? (fun a => decide (a.req = req)) with
  | some a =>
    if s.answerCrosses req then s
    else respond req a.status a.data { s with noc := { s.noc with answers := dropAnswer req s.noc.answers } }
  | none =>
    match outside with
    | some x => respond req x.1 x.2 s
    | none => s

/-- A response at its source: that of a transaction which has ended is discarded as late, another is taken (R258). -/
def nocResponse (req : ReqId) (outside : Option (Status × Line)) (s : State) : State :=
  if (s.firstAnswer req).any (fun a => decide (a.req = req.stale)) then
    lateResponse { s with noc := { s.noc with answers := dropAnswer req.stale s.noc.answers } }
  else takeResponse req outside s

/-- NOC_RESPONSE: a response reaches its source interface (R258). -/
def execNocResponse (req : ReqId) (outside : Option (Status × Line)) (s : State) : Host.Outcome State Fault Refusal :=
  done (nocResponse req outside s)

/-! Move descriptors (R268, Table 10-8). -/

def moveSrc (d : Nat) : Nat := bitsAt d 0 48
def moveDst (d : Nat) : Nat := bitsAt d 64 48
def moveLength (d : Nat) : Nat := bitsAt d 128 32
def moveId (d : Nat) : Nat := bitsAt d 160 16
def moveCrc (d : Nat) : Bool := bitOf d 176
def moveNotify (d : Nat) : Bool := bitOf d 177

/-- A descriptor is legal: no reserved bit, aligned addresses, a length of 64 to 1,048,576 in whole flits (R268). -/
def moveLegal (d : Nat) : Bool :=
  decide (bitsAt d 48 16 = 0) && decide (bitsAt d 112 16 = 0) && decide (d / 2 ^ 178 = 0) &&
    decide (moveSrc d % 64 = 0) && decide (moveDst d % 64 = 0) && decide (moveLength d % 64 = 0) &&
    decide (64 ≤ moveLength d) && decide (moveLength d ≤ 1048576)

/-- A move engine. -/
def State.mover (s : State) (e : Nat) : MoveEngine := s.noc.movers.getD e {}

/-- A move engine replaced. -/
def State.setMover (s : State) (e : Nat) (x : MoveEngine) : State :=
  { s with noc := { s.noc with movers := s.noc.movers.set e x } }

/-- A descriptor at an engine: queued, or refused with the abort code of the dictionary's path (R268). -/
def moveAccept (e : Nat) (d : Line) (s : State) : Nat × State :=
  let x := s.mover e
  if !moveLegal d.toNat then (abortRange, s)
  else if 16 ≤ x.queue.length then (abortBusy, s)
  else (0, s.setMover e { x with queue := x.queue ++ [d] })

/-- A descriptor written at the engine's submit address: OK or BUSERR; one that arrives bad is not taken (R253, R268, R271). -/
def moveFromNoc (e : Nat) (r : ReqId) (d : Line) (bad : Bool) (s : State) : State :=
  if !s.reaches r then s
  else
    let t := moveAccept e d (openTxn r (0x070100000000 + e * 0x10000) true s)
    if t.1 ≠ 0 then answerStatus r .buserr t.2
    else if bad then answerStatus r .dataerr (openTxn r (0x070100000000 + e * 0x10000) true s)
    else answerStatus r .ok t.2

/-! Delivery (R253, R254, R271, R294, R310, R311, R468). -/

/-- An end-to-end CRC failure is counted, event 1283 (R254). -/
def countCrc (fails : Bool) (s : State) : State :=
  if fails then raise 1283 { s with noc := { s.noc with e2eFails := satInc 32 s.noc.e2eFails } } else s

/-- The address lies in a window of a worker (R239). -/
def State.isWindow (s : State) (a : Nat) : Bool :=
  match s.place a with
  | .workerDram _ _ => true
  | .workerCtl _ _ => true
  | _ => false

/-- A write of a whole line into plain memory, without an answer. -/
def storeLine (f : Flit) (s : State) : State := s.writeNat (f.addr / 64 * 64) 64 f.payload.toNat

/-- Status of an access to a plain memory whose array check finds `e`. -/
def arrayStatus (e : EccClass) : Status :=
  match e with
  | .clean => .ok
  | .single => .okCorrected
  | .double _ => .dataerr

/-- A read or write of plain memory: a line read, a line write or a word write; reads check the array (R310, R313). -/
def plainAccess (q : ReqId) (f : Flit) (readOnly : Bool) (e : EccClass) (s : State) : State :=
  if f.kind = 0 then
    (if f.addr % 64 ≠ 0 then answerStatus q .buserr s else answer q (arrayStatus e) (s.readLine f.addr) s)
  else if readOnly || !legalWrite f.addr f.bytes then answerStatus q .buserr s
  else if f.bad || (decide (f.kind = 2) && decide (arrayStatus e = .dataerr)) then answerStatus q .dataerr s
  else answerStatus q (if f.kind = 2 then arrayStatus e else .ok) (storeWrite f.addr f.bytes f.be s)

/-- Corrected errors of a data store are counted at its core (R313). -/
def countStoreEcc (k : Nat) (e : EccClass) (s : State) : State :=
  if e = .single then s.setKeeper k { s.keeper k with corrected := satInc 32 (s.keeper k).corrected } else s

/-- A corrected error that a NoC access finds in the pool is counted at the core whose slot serves the access (R311, R313). DESIGN CHOICE
(log 164): for an access of a move, and one while no beats run, the model has no slot: a free value. -/
def countPoolEcc (e : EccClass) (s : State) : State :=
  if e = .single then (countStoreEcc (Config.undefinedBits s.freeCtr % 4) e s).draw else s

/-- The requester may reach the secure SRAM, which is served in the present life-cycle state (R468). -/
def State.secureServed (s : State) (q : ReqId) : Bool :=
  (match q.src with
    | .keeper _ => true
    | .security => true
    | _ => false) &&
  (s.sec.life == 1 || s.sec.life == 2) && !s.sec.sramWiping

/-- Completion slots of a move engine, four records to a line (R269, R271). -/
def State.slotLine (s : State) (e off : Nat) : Line :=
  BitVec.ofNat 512 (packFields 128 ((s.noc.movers.getD e {}).records.drop (off / 64 * 4) |>.take 4))

/-- What the check of a sub-burst finds, for an access that comes by the mesh. -/
def nibbleOf (e : EccClass) : NibbleErr :=
  match e with
  | .clean => .clean
  | .single => .one
  | .double m => .many (BitVec.ofNat 256 m)

/-! Accesses that wait at their target's edge (R311, R395). -/

/-- A window access by its parts: a line access of slot `k`, 0 its request line and 1 its response line; a request line that arrives bad is
not taken (R253, R357). -/
def windowDeliver (q : ReqId) (k line : Nat) (f : Flit) (s : State) : State :=
  if f.addr % 64 ≠ 0 ∨ f.kind ≠ 1 - line then
    answerStatus q (if s.rst.engineReset then .abortReset else .buserr) s
  else if line = 1 then windowReadLine q k s
  else if f.bad then
    (if s.rst.engineReset then answerStatus q .abortReset s
     else answerStatus q (if s.served && s.clientBusy (3 + k) then .buserr else .dataerr) s)
  else windowWriteLine q k f.payload.toNat s

/-- An access is performed at its target; the pool counts what it finds by `count`. -/
def performEntry (count : EccClass → State → State) (x : Entering) (s : State) : State :=
  match x.req, s.place x.flit.addr with
  | some q, .window k line => windowDeliver q k line x.flit s
  | some q, .pool _ => plainAccess q x.flit false x.err (if x.flit.reads then count x.err s else s)
  | some q, _ => patternAccess q x.flit.addr x.legal x.flit.lineData x.flit.bad s
  | none, .pool _ => if x.flit.bad then s else storeLine x.flit s
  | none, _ => patternScheduled x.flit.addr x.flit.payload.toNat x.flit.bad s

/-- NOC cycles that an access takes into its target's domain over an asynchronous PAT_NOC or SVC_NOC crossing (R395). -/
def State.entryDelay (s : State) (a : Nat) : Nat :=
  match targetCrossing a with
  | some (6, st) => patRatio * s.crossDelay 6 st
  | some (4, p) => svcRatio * s.crossDelay 4 p
  | _ => 0

/-- The address lies in the pool. -/
def State.inPool (s : State) (a : Nat) : Bool :=
  match s.place a with
  | .pool _ => true
  | _ => false

/-- The access is answered FENCED at its entry: its domain is fenced, and it did not pass its first router before that (R265). -/
def State.entryFenced (s : State) (x : Entering) : Bool :=
  match x.req with
  | some q => (s.domainsOf (s.place x.flit.addr)).any (fun n => s.fencedFor n q)
  | none => s.placeFenced (s.place x.flit.addr)

/-- A request opens its transaction; scheduled data has none. -/
def openEntry (x : Entering) (s : State) : State :=
  match x.req with
  | some q => openTxn q x.flit.addr (decide (x.flit.kind ≠ 0)) s
  | none => s

/-- An access comes to its target: it waits for its way across or for a slot of the pool, or is performed at once, as it is while no beats
run (R311, R395). -/
def enterTarget (x : Entering) (s : State) : State :=
  let d := s.entryDelay x.flit.addr
  if !(x.req.all s.reaches) then s
  else if s.beatsRun && (decide (d ≠ 0) || s.inPool x.flit.addr) && !s.entryFenced x then
    let t := openEntry x s
    { t with noc := { t.noc with atTarget := t.noc.atTarget ++ [{ x with due := 2 * s.time.tick + 1 + d }] } }
  else performEntry countPoolEcc x s

/-- KEEP cycle `t` serves core t mod 4; a NoC access has the slot when that core makes no pool access in it (R311). The NOC cycle, as
`State.nocCycle` counts, is KEEP cycle `cycle − 1`. -/
def State.poolFree (s : State) (cycle : Nat) : Bool := decide ((s.keeper ((cycle - 1) % 4)).poolSlot ≠ cycle)

/-- The oldest pool access has the slot of a NOC cycle. DESIGN CHOICE (log 192): a line access of the NoC takes one slot. -/
def poolStep (cycle : Nat) (s : State) : State :=
  match s.noc.atTarget.find? (fun x => s.inPool x.flit.addr) with
  | some x =>
    if s.poolFree cycle then
      performEntry (countStoreEcc ((cycle - 1) % 4)) x { s with noc := { s.noc with atTarget := s.noc.atTarget.erase x } }
    else s
  | none => s

/-- The accesses that have crossed by a NOC cycle are performed, oldest first, and one of the pool in its slot. -/
def targetStep (cycle : Nat) (s : State) : State :=
  let comes := fun (x : Entering) => decide (x.due ≤ cycle) && !s.inPool x.flit.addr
  poolStep cycle ((s.noc.atTarget.filter comes).foldl (fun t x => performEntry countPoolEcc x t)
    { s with noc := { s.noc with atTarget := s.noc.atTarget.filter (fun x => !comes x) } })

/-- The flit of an access to one line, as its target sees it. -/
def lineFlit (addr : Nat) (data : Option Line) (bad : Bool) : Flit :=
  { header := BitVec.ofNat 128 (b2n data.isSome * 2 ^ 124 + (if bad then 3 * 2 ^ 120 else 0) + addr % 2 ^ 48 * 2 ^ 38)
    payload := data.getD 0 }

/-- A window access to a pattern bank by its parts. -/
def patternRequest (req : ReqId) (addr : Nat) (legal : Bool) (data : Option Nat) (s : State) : State :=
  enterTarget { req := some req, flit := lineFlit addr (data.map (BitVec.ofNat 512)) false, legal := legal } s

/-- PATTERN_LINE_READ: a read of one entry line (R126). -/
def execPatternLineRead (req : ReqId) (addr : BitVec 48) (size : Nat) (s : State) : Host.Outcome State Fault Refusal :=
  done (patternRequest req addr.toNat (decide (size = 64) && decide (addr.toNat % 64 = 0)) none s)

/-- PATTERN_LINE_WRITE: a write of one entry line (R126, R127). -/
def execPatternLineWrite (req : ReqId) (addr : BitVec 48) (data : List Byte) (s : State) :
    Host.Outcome State Fault Refusal :=
  done (patternRequest req addr.toNat (decide (data.length = 64) && decide (addr.toNat % 64 = 0)) (some (s.carries req (ofBytes data))) s)

/-! Acceptance by the attachments. -/

/-- Scheduled data, or such data that lost its class, reaches its destination: a DRAM controller takes it into the channel's buffer,
poisoned when it came bad; every other destination writes it without a response, or discards it when it is bad (R253, R254, R259,
R294). -/
def deliverScheduled (f : Flit) (s : State) : State :=
  let s1 := countCrc f.crcFails s
  match s.place f.addr with
  | .dram c _ =>
    bufferFlit c { addr := f.addr, data := f.payload, poison := f.bad } s1
  | .hold _ w => holdAccess f.addr true ⟨⟨.config, 0⟩, 1, w, f.payload.toNat, 15, true, 0, false, [], 0, f.bad, 0⟩ s1
  | .pattern _ _ => enterTarget { req := none, flit := f } s1
  | .data _ _ => if f.bad then s1 else storeLine f s1
  | .pool _ => enterTarget { req := none, flit := f } s1
  | .code k _ => if f.bad || !s.codeWritable k then s1 else storeLine f s1
  | _ => s1

/-- A flit joins those that wait for the carriage to worker `w` (R238); the answer to a request whose transaction has ended will be
late. -/
def toCarriage (q : ReqId) (w : Nat) (f : Flit) (s : State) : State :=
  match s.carrierOf w with
  | some g =>
    let s1 := s.setGroup g { s.group g with carWait := (s.group g).carWait ++ [f] }
    if q.isStale then { s1 with noc := { s1.noc with orphans := s1.noc.orphans ++ [({ q with tag := q.tag - 16384 }, f.addr)] } } else s1
  | none => answerStatus q .buserr s

/-- A request reaches its attachment, whose array check finds `e`, and is performed there by the target's own rules (R126, R145, R253,
R254, R255, R268, R281, R312, R313, R357, R468). A worker's window is no destination: the worker checks the end-to-end CRC. -/
def deliverRequest (q : ReqId) (f : Flit) (e : EccClass) (s : State) : State :=
  let s1 := countCrc (f.crcFails && !s.isWindow f.addr) s
  match s.place f.addr with
  | .dram _ _ =>
    dramRequest ⟨q, f.addr, f.kind, if f.kind = 2 then f.payload.toNat % 2 ^ 32 else f.payload.toNat, f.be, f.bad, nibbleOf e,
      .clean, 0⟩ (decide (f.addr % (if f.kind = 2 then 4 else 64) = 0)) s1
  | .hold _ w =>
    holdAccess f.addr (decide (f.addr % (if f.kind = 2 then 4 else 64) = 0))
      ⟨q, f.kind, w, if f.kind = 2 then f.payload.toNat % 2 ^ 32 else f.payload.toNat, if f.kind = 2 then f.be else 15, false, 0,
        false, [e], 0, f.bad, 0⟩ s1
  | .pattern _ _ => enterTarget { req := some q, flit := f, legal := decide (f.kind ≠ 2) && decide (f.addr % 64 = 0) } s1
  | .patternRest => patternAccess q f.addr true (if f.kind = 0 then none else some 0) f.bad s1
  | .data k _ => plainAccess q f false e (if f.reads then countStoreEcc k e s1 else s1)
  | .code k _ => plainAccess q f (!s.codeWritable k) .clean s1
  | .pool _ => enterTarget { req := some q, flit := f, err := e } s1
  | .secure _ => if s.secureServed q then plainAccess q f false .clean s1 else answerStatus q .buserr s1
  | .slots eng off =>
    if f.kind = 0 ∧ f.addr % 64 = 0 then answer q .ok (s.slotLine eng off) s1 else answerStatus q .buserr s1
  | .window _ _ => enterTarget { req := some q, flit := f } s1
  | .submit eng => if f.kind = 1 ∧ f.addr % 64 = 0 then moveFromNoc eng q f.payload f.bad s1 else answerStatus q .buserr s1
  | .workerDram w _ => toCarriage q w f s1
  | .workerCtl w _ => toCarriage q w f s1
  | .unmapped => answerStatus q .buserr s1

/-- A flit leaves its last router and is accepted by its attachment; a response of a transaction that has ended is discarded and counted
(R186, R252, R258). -/
def deliver (f : Flit) (stale : Bool) (e : EccClass) (s : State) : State :=
  if f.kind = 5 then deliverScheduled f s
  else match f.req with
    | some q =>
      if f.isRequest then deliverRequest (if stale then q.stale else q) f e s
      else if stale then lateResponse s
      else takeResponse q (some (statusOf f.status, f.payload)) s
    | none => s

/-! Outputs (R185 to R188, R251, R256). -/

/-- Neighbour of a router through a direction port, and the input there. -/
def neighbour (r out : Nat) : Nat × Nat :=
  match out with
  | 0 => (r + 8, 2)
  | 1 => (r + 1, 3)
  | 2 => (r - 8, 0)
  | _ => (r - 1, 1)

/-- A flit on its way from an output: to the next router's input, or to the attachment behind a last output (R186). -/
def flightOf (r p out due : Nat) (f : Flit) (e : EccClass) (stale : Bool) : RouterFlit :=
  if 4 ≤ out then ⟨r, p, out, f, 0, e, due, stale⟩ else ⟨(neighbour r out).1, (neighbour r out).2, 0, f, 0, e, due, stale⟩

/-- The output sends a flit in NOC cycle `cycle`: it leaves the next router, or is accepted, two cycles later (R186). While no beats run,
an attachment accepts it at once. -/
def sendOut (r p out cycle : Nat) (f : Flit) (e : EccClass) (stale : Bool) (s : State) : State :=
  let s1 := { s with noc := { s.noc with sent := Tbl.upd none s.noc.sent (16 * r + out) (some f) } }
  if 4 ≤ out ∧ s.beatsRun = false then deliver f stale e s1
  else { s1 with noc := { s1.noc with
    flying := s1.noc.flying ++ [flightOf r p out (if s.beatsRun then cycle + 2 else 0) f e stale] } }

/-- Entry of a slot table: output `out` of router `r`, slot `j` (Table 10-6). -/
def State.slotEntry (s : State) (r out j : Nat) : Nat := s.planByte (8 + 1024 * r + 64 * out + j)

/-- A slot miss: counted, recorded, event 35 once in each beat (R188, Table 7-9). -/
def slotMiss (r out j : Nat) (s : State) : State :=
  raiseOnce 35 { s with con := { s.con with
    slotMisses := satInc 32 s.con.slotMisses, lastMiss := r % 8 + r / 8 * 8 + out * 64 + j % 64 * 1024 } }

/-- Order of the grants at one output: long waits, responses, requests, each by input port (R256). -/
def grantRank (x : RouterFlit) : Nat :=
  if 256 ≤ x.waited then x.input else if x.flit.isResponse then 16 + x.input else 32 + x.input

/-- The flit of least rank. -/
def bestWaiting : List RouterFlit → Option RouterFlit
  | [] => none
  | x :: xs =>
    match bestWaiting xs with
    | none => some x
    | some y => if grantRank y < grantRank x then some y else some x

/-! Buffers and credits (R256, R257, R267, R284). -/

/-- The flit travels in the response channel; a scheduled flit that missed its slot travels in the request channel (R188, R256). -/
def RouterFlit.channel (x : RouterFlit) : Bool := x.flit.isResponse

/-- Best-effort flits of a channel in the buffer of a router input, and on their way to it. -/
def State.inputFill (s : State) (r p : Nat) (resp : Bool) : Nat :=
  (s.noc.waiting.filter (fun x => decide (x.router = r) && decide (x.input = p) && x.channel == resp)).length +
  (s.noc.flying.filter (fun x => decide (x.router = r) && decide (x.input = p) && decide (x.output < 4) && !x.flit.sched &&
    x.channel == resp)).length

/-- Flits on their way from a router to an attachment. -/
def State.leaving (s : State) (r out : Nat) : Nat :=
  (s.noc.flying.filter (fun x => decide (x.router = r) && decide (x.output = out) && decide (4 ≤ out) && x.flit.isRequest)).length

/-- The attachment behind an output takes the request: a DRAM controller while it has one of its 1,024 tags free, a shaft guard while it
holds fewer than 64 requests (R257, R267, R284). -/
def State.targetTakes (s : State) (r out : Nat) (f : Flit) : Bool :=
  !f.isRequest || (match s.place f.addr with
    | .dram c _ => decide ((s.channel c).held.length + s.leaving r out < 1024)
    | .hold u _ => decide (4096 ≤ u) || decide (s.shaftHeld (u / 16) + s.leaving r out < 64)
    | _ => true)

/-- An output has credit for a waiting flit: a place among the 8 of its channel at the next router's input, or at its attachment. -/
def State.credit (s : State) (x : RouterFlit) : Bool :=
  if 4 ≤ x.output then s.targetTakes x.router x.output x.flit
  else decide (s.inputFill (neighbour x.router x.output).1 (neighbour x.router x.output).2 x.channel < 8)

/-- The output has granted its link in a NOC cycle. -/
def State.grantedIn (s : State) (r out cycle : Nat) : Bool := (Tbl.at [] s.noc.granted (16 * r + out)).contains cycle

/-- An output grants its link in a NOC cycle; cycles of past beats are forgotten. -/
def noteGrant (r out cycle : Nat) (s : State) : State :=
  let l := (Tbl.at [] s.noc.granted (16 * r + out)).filter (fun c => decide (s.nocCycle 0 ≤ c))
  if s.beatsRun then { s with noc := { s.noc with granted := Tbl.upd [] s.noc.granted (16 * r + out) (cycle :: l) } } else s

/-- An output grants its link in a NOC cycle to the best waiting flit that it has credit for (R256). -/
def grantOutput (r out cycle : Nat) (s : State) : State :=
  match bestWaiting (s.noc.waiting.filter (fun x => decide (x.router = r) && decide (x.output = out) && s.credit x)) with
  | none => s
  | some x =>
    sendOut r x.input out cycle x.flit x.err x.stale (noteGrant r out cycle { s with noc := { s.noc with
      waiting := s.noc.waiting.erase x } })

/-- A best-effort flit at its output waits for a grant, which the NOC cycle gives; while no beats run the link is free at once (R256). -/
def bestEffort (r p out j : Nat) (f : Flit) (e : EccClass) (stale : Bool) (s : State) : State :=
  let s1 := { s with noc := { s.noc with waiting := s.noc.waiting ++ [⟨r, p, out, f, 0, e, 0, stale⟩] } }
  if s.beatsRun then s1 else grantOutput r out (s.nocCycle j) s1

/-- A scheduled flit crosses an asynchronous HOLD_NOC boundary at this router: it comes from a bank or ring, or leaves to one
(R178). -/
def State.holdLate (s : State) (p out : Nat) (f : Flit) : Bool :=
  (bitOf (s.obj 0x2100 4) 2 && decide (4 ≤ p ∧ p < 10)) || (decide (4 ≤ out) && (match s.place f.addr with
    | .hold u _ => s.crossesAsync 2 u
    | _ => false))

/-- A scheduled flit at its output: in its slot it takes the link, which no other flit has in that cycle (R251); out of it, or across an
asynchronous boundary, it misses (R178, R186 to R188). -/
def scheduled (r p out j : Nat) (f : Flit) (e : EccClass) (s : State) : State :=
  let entry := s.slotEntry r out j
  if decide (j < s.M / 4) && bitOf entry 7 && decide (entry % 16 = p) && !s.holdLate p out f &&
      !(s.beatsRun && s.grantedIn r out (s.nocCycle j)) then
    sendOut r p out (s.nocCycle j) f e false (noteGrant r out (s.nocCycle j) s)
  else bestEffort r p out j f.toBestEffort e false (slotMiss r out j s)

/-- The flit is routed (R251). -/
def routeFlit (r p j : Nat) (f : Flit) (e : EccClass) (stale : Bool) (s : State) : State :=
  let out := routeOut r f.dstRouter f.dstPort
  if !portExists r out then s
  else if f.sched && f.kind == 5 then scheduled r p out j f e s
  else bestEffort r p out j f e stale s

/-- A new request at its first router: BUSERR where nothing is mapped, FENCED where its domain is, the answer of Table 5-4 past the last
pattern bank, else it enters the mesh with the header that its source forms (R126, R252, R265, R270). -/
def enterMesh (r p j : Nat) (f : Flit) (e : EccClass) (s : State) : State :=
  match f.req with
  | none => s
  | some q =>
    if !s.reaches q then s
    else
      let g := s.sourceFlit r p q f
      let t := openTxn q g.addr (decide (g.kind ≠ 0)) s
      let pl := s.place g.addr
      if s.placeFenced pl then answerStatus q .fenced t
      else if pl = .unmapped then answerStatus q .buserr t
      else if pl = .patternRest then patternAccess q g.addr true (if g.kind = 0 then none else some 0) false t
      else routeFlit r p j g e false t

/-- A response at its first router: the flit of the oldest answer that waits for its requester, once it has crossed (R177, R252). The flit
of an answer whose transaction has ended goes its way as a stale one. -/
def enterResponse (r p j : Nat) (f : Flit) (e : EccClass) (s : State) : State :=
  match f.req with
  | none => s
  | some q =>
    match s.firstAnswer q with
    | some a =>
      if a.req.isStale then
        routeFlit r p j f e true { s with noc := { s.noc with answers := dropAnswer q.stale s.noc.answers } }
      else if s.answerCrosses q then s
      else routeFlit r p j ((s.answerFlit a).getD f) e false s
    | none => if s.answerCrosses q then s else routeFlit r p j f e false s

/-- A flit at a router input after its check (R186, R265). -/
def acceptFlit (r p j : Nat) (f : Flit) (e : EccClass) (stale : Bool) (s : State) : State :=
  if f.kind = 5 ∧ s.placeFenced (s.place f.addr) = true then
    raise 1284 { s with noc := { s.noc with schedDiscarded := satInc 32 s.noc.schedDiscarded } }
  else if 4 ≤ p ∧ f.isRequest = true then enterMesh r p j f e s
  else if 4 ≤ p ∧ f.isResponse = true then enterResponse r p j f e s
  else if f.kind ≤ 5 then routeFlit r p j f e stale s
  else s

/-- The router's check of a flit on input, and the flit it leaves, `none` for a discarded one (R253); `owner` is the transaction that it
belongs to. -/
def checkFlit (r p : Nat) (err : FlitErr) (f : Flit) (owner : Option ReqId) (s : State) : Option Flit × State :=
  match err with
  | .header => (none, discardFlit p f owner s)
  | .payload => (some f.poison, poisonFlit f owner s)
  | .single => (some f, correctFlit r f owner s)
  | .clean => (some f, s)

/-- The transaction that a flit in the mesh belongs to; none where it has ended. -/
def RouterFlit.owner (x : RouterFlit) : Option ReqId := if x.stale then none else x.flit.req

/-- The flit on the link to this input, on its way. -/
def State.inFlight (s : State) (r p : Nat) (f : Flit) : Option RouterFlit :=
  s.noc.flying.find? (fun x => decide (x.router = r) && decide (x.input = p) && decide (x.output < 4) && decide (x.flit = f))

/-- The buffer of the input has no place for the flit: its source holds it back (R256, R257). -/
def State.inputFull (s : State) (r p : Nat) (f : Flit) : Bool :=
  !f.sched && s.beatsRun && decide (8 ≤ s.inputFill r p f.isResponse)

/-- A flit on its way is checked where it arrives and keeps the cycle in which it leaves that router (R186); without beats it goes on at
once. -/
def flightChecked (x : RouterFlit) (j : Nat) (err : FlitErr) (target : EccClass) (s : State) : State :=
  let c := checkFlit x.router x.input err x.flit x.owner { s with noc := { s.noc with flying := s.noc.flying.erase x } }
  match c.1 with
  | none => c.2
  | some g =>
    if s.beatsRun then { c.2 with noc := { c.2.noc with flying := c.2.noc.flying ++ [{ x with flit := g, err := target }] } }
    else acceptFlit x.router x.input j g target x.stale c.2

/-- ROUTER_FLIT_IN: a flit is offered at a router input for slot j. It is checked and corrected, then forwarded in its slot or
by best-effort arbitration, or answered at its first router; a flit on its way is only checked, and leaves in its own cycle; `target` is
what the array of a memory it reaches finds. -/
def execRouterFlitIn (router : Fin 64) (port : Fin 16) (flit : Flit) (slot : Fin 64) (err : FlitErr) (target : EccClass)
    (s : State) : Host.Outcome State Fault Refusal :=
  let r := router.val
  let p := port.val
  if !s.l0Runs || !portExists r p then done s
  else match s.inFlight r p flit with
    | some x => done (flightChecked x slot.val err target s)
    | none =>
      if s.inputFull r p flit then done s
      else
        let c := checkFlit r p err flit flit.req s
        done (match c.1 with
          | none => c.2
          | some f => acceptFlit r p slot.val f target false c.2)

/-! The mesh in one NOC cycle. -/

/-- Slot of a NOC cycle, as `State.nocCycle` counts. -/
def State.slotOf (s : State) (cycle : Nat) : Nat :=
  (cycle - 1 + 2 * s.M - 2 * (s.time.tick - s.time.cyc)) % (s.M / 4)

/-- A flit whose cycle has come leaves its router, or is accepted by its attachment. -/
def flightEnds (cycle : Nat) (x : RouterFlit) (s : State) : State :=
  if 4 ≤ x.output then deliver x.flit x.stale x.err s
  else acceptFlit x.router x.input (s.slotOf cycle) x.flit x.err x.stale s

/-- The flits whose cycle has come, oldest first (R186). -/
def flightsStep (cycle : Nat) (s : State) : State :=
  (s.noc.flying.filter (fun x => decide (x.due ≤ cycle))).foldl (fun t x => flightEnds cycle x t)
    { s with noc := { s.noc with flying := s.noc.flying.filter (fun x => decide (cycle < x.due)) } }

/-- Crossing points, by bit of Table 15-5 and number, that hold a transfer: a request or an answer on its way across. -/
def State.heldPoints (s : State) : List (Nat × Nat) :=
  let now := 2 * s.time.tick
  (s.hold.units.filter (fun u => u.2.waiting.any (fun r => decide (s.time.tick < r.fromTick)))).map (fun u => (2, u.1)) ++
  s.noc.atTarget.filterMap (fun x => targetCrossing x.flit.addr) ++
  (s.noc.txns.filter (fun t => !t.entered && decide (now + 1 < t.fromCycle))).filterMap (fun t =>
    (requesterCrossing t.req.src).map (fun p => (p.1, p.2.1))) ++
  (s.noc.crossing.filter (fun c => decide (now < c.2))).flatMap (fun c =>
    ((requesterCrossing c.1.src).map (fun p => (p.1, p.2.1))).toList ++
    ((s.noc.txns.find? (fun t => decide (t.req = c.1))).bind (fun t => targetCrossing t.addr)).toList)

/-- A crossing point that kept its mode for a transfer changes when it holds none any more (R395). -/
def crossingsStep (s : State) : State :=
  if s.clk.crossOld.isEmpty then s
  else { s with clk := { s.clk with crossOld := s.clk.crossOld.filter (fun p => s.heldPoints.contains p) } }

/-- One NOC cycle: flits on their way move, scheduled ones first, and every output whose link is free grants it to one that waits (R186,
R187, R256). -/
def nocGrants (cycle : Nat) (s0 : State) : State :=
  let s := crossingsStep (targetStep cycle (flightsStep cycle s0))
  let outs := (s.noc.waiting.map (fun x => 16 * x.router + x.output)).dedup
  let s1 := outs.foldl (fun t o =>
    if t.grantedIn (o / 16) (o % 16) cycle then t else grantOutput (o / 16) (o % 16) cycle t) s
  { s1 with noc := { s1.noc with waiting := s1.noc.waiting.map (fun x => { x with waited := x.waited + 1 }) } }

/-! Transactions that end without their answer (R258, R266). -/

/-- The request still waits at a hold unit, a shaft guard or a DRAM controller. -/
def State.waitsAtTarget (s : State) (r : ReqId) : Bool :=
  s.hold.units.any (fun u => u.2.waiting.any (fun x => decide (x.req = r) && !x.sched)) ||
  s.hold.guard.any (fun x => decide (x.2.req = r)) ||
  s.dram.channels.any (fun c => (c.2.held ++ c.2.queued).any (fun x => decide (x.req = r)))

/-- A flit of the transaction in the mesh belongs to none any more. -/
def RouterFlit.forget (r : ReqId) (x : RouterFlit) : RouterFlit :=
  if x.flit.req = some r then { x with stale := true } else x

/-- A request that waits at a hold unit, under its stale identity. -/
def HoldReq.forget (r : ReqId) (q : HoldReq) : HoldReq := if q.req = r ∧ q.sched = false then { q with req := r.stale } else q

/-- A request that waits at a DRAM controller, under its stale identity. -/
def DramReq.forget (r : ReqId) (q : DramReq) : DramReq := if q.req = r then { q with req := r.stale } else q

/-- An access at the edge of its target, under its stale identity. -/
def Entering.forget (r : ReqId) (x : Entering) : Entering := if x.req = some r then { x with req := some r.stale } else x

/-- The flits in the mesh. -/
def State.meshFlits (s : State) : List RouterFlit := s.noc.waiting ++ s.noc.flying

/-- The response of the transaction is in the mesh. -/
def State.answerFlies (s : State) (r : ReqId) : Bool :=
  s.meshFlits.any (fun x => !x.stale && x.flit.isResponse && decide (x.flit.req = some r))

/-- Address of a transaction whose request is on the carriage or with its worker, and not answered. -/
def State.withWorker (s : State) (r : ReqId) : Option Nat :=
  match s.noc.txns.find? (fun t => decide (t.req = r) && t.entered) with
  | some t =>
    if s.isWindow t.addr && !s.noc.answers.any (fun a => decide (a.req = r)) &&
      !s.meshFlits.any (fun x => !x.stale && x.flit.requestOf r) then some t.addr else none
  | none => none

/-- What is left of a transaction that ends without its answer, wherever it is, belongs to no transaction: an answer to it will be
discarded as late and never completes a later transaction with the same tag (R258). -/
def forgetTxn (r : ReqId) (s : State) : State :=
  { s with
    noc := { s.noc with
      answers := (if s.answerFlies r then dropAnswer r s.noc.answers else s.noc.answers).map
        (fun a => if a.req = r then { a with req := r.stale } else a)
      orphans := s.noc.orphans ++ ((s.withWorker r).map (fun a => (r, a))).toList
      pathCorrected := s.noc.pathCorrected.filter (fun x => decide (x ≠ r))
      waiting := s.noc.waiting.map (RouterFlit.forget r)
      flying := s.noc.flying.map (RouterFlit.forget r)
      atTarget := s.noc.atTarget.map (Entering.forget r) }
    hold := { s.hold with
      units := mapTbl {} (fun x => { x with waiting := x.waiting.map (HoldReq.forget r) }) s.hold.units
      guard := s.hold.guard.map (fun g => (g.1, g.2.forget r)) }
    dram := { s.dram with channels := mapTbl {} (fun x => { x with
      held := x.held.map (DramReq.forget r), queued := x.queued.map (DramReq.forget r) }) s.dram.channels } }

/-- A transaction ends with a status that its source gives, without its answer (R258, R266). -/
def endEarly (r : ReqId) (st : Status) (s : State) : State := endTxn r st 0 (forgetTxn r s)

/-- NOC_TIMEOUT: a transaction without a response ends DATAERR, its tag is freed, counted, event 1282 (R258). -/
def execNocTimeout (req : ReqId) (s : State) : Host.Outcome State Fault Refusal :=
  if s.isOpen req then
    let s1 := endEarly req .dataerr s
    done (raise 1282 { s1 with noc := { s1.noc with timedOut := satInc 32 s1.noc.timedOut } })
  else done s

end Sys2Proof.Machine
end

