-- ==== Sys2Proof/Machine/ResetCore.lean ====
section
/-! DEFINITION. What a reset does: the cause log, the option load, the role, the cold and the warm reset (R29, R30, R163, R302,
R303, R398, R426 to R435, R464, R471, R476). -/

namespace Sys2Proof.Machine

/-- One of several start-up milestones is reached (0x2200 sub 0x0B): a free value. -/
def milestone (i : Nat) (s : State) : State :=
  { s with
    rst := { s.rst with milestones := s.rst.milestones.set i (Config.milestone s.freeCtr % 2 ^ 32) }
    freeCtr := s.freeCtr + 1 }

/-! Option bytes (R432, Table 17-4). -/

/-- Byte `i` of an option image. -/
def optionByte (img : List Byte) (i : Nat) : Nat := (img.getD i 0).toNat

/-- A copy is good: its CRC matches and its FORMAT is 0x0001. -/
def goodCopy (c : List Byte) : Bool :=
  decide (c.length = 512) && decide (crc32c (c.take 508) = ofBytes (c.drop 508)) && decide (ofBytes (c.take 2) = 1)

/-- The Default column of Table 17-4. -/
def defaultImage : List Byte := toBytes 512 (1 + 127 * 2 ^ 24)

/-- Fields of the option image in force. -/
def State.roleSel (s : State) : Nat := optionByte s.rst.options 2 % 4
def State.marchOption (s : State) : Bool := bitOf (optionByte s.rst.options 5) 1
def State.autostartOption (s : State) : Bool := bitOf (optionByte s.rst.options 5) 0
def State.fallback (s : State) : Bool := bitOf s.rst.optionStatus 3

/-- The AON state machine loads the option image (R432). -/
def optionLoad (s : State) : State :=
  let a := goodCopy s.nvm.copyA
  let b := goodCopy s.nvm.copyB
  let img := if a then s.nvm.copyA else if b then s.nvm.copyB else defaultImage
  let st := b2n a + 2 * b2n b + 4 * b2n (!a && b) + 8 * b2n (!a && !b)
  raiseIf (!a && !b) 98 (raiseIf (a != b) 97 { s with rst := { s.rst with options := img, optionStatus := st } })

/-- Node ID and bit rates from the option image; a bad ID or rate code leaves the controller silent (R340). -/
def canOptions (s : State) : State :=
  let id := optionByte s.rst.options 3
  let r := optionByte s.rst.options 4
  if id = 0 ∨ 127 < id ∨ bitsAt r 1 2 = 3 then
    raise 1511 { s with can := { s.can with nodeId := 0, silent := true, nomRate := r % 2, dataRate := bitsAt r 1 2 } }
  else { s with can := { s.can with nodeId := id, silent := false, nomRate := r % 2, dataRate := bitsAt r 1 2 } }

/-- The rename table and the pattern repair map are copied from OTP into the shadow (R22, R129). -/
def otpLoad (s : State) : State := { s with rst := { s.rst with rename := s.part.rename, repair := s.part.repair } }

/-- The role is resolved from the ROLE ball and ROLE_SEL (R29, Table 1-6). -/
def resolveRole (high : Bool) (s : State) : State :=
  let sel := s.roleSel
  { s with rst := { s.rst with
      roleStrap := high
      roleSource := decide (sel = 1) || decide (sel = 2)
      roleManager := if sel = 1 then true else if sel = 2 then false else high } }

/-- The default of 0x1F80 bit 0 comes from the option image (R346). -/
def autostartDefault (s : State) : State := s.setObj 0x1F80 0 (b2n s.autostartOption)

/-! The backup domain (R434, R435, R464). -/

/-- A reset that the device performs is counted and logged (R434, Table 17-5). -/
def logReset (cause : Nat) (warm multi : Bool) (path : Nat) (s : State) : State :=
  let e : CauseEntry := { rot := s.time.rot, bakTime := Config.bakTime s.freeCtr % 2 ^ 48, cause := cause, warm := warm,
                          multi := multi, path := path }
  { s with
    backup := { s.backup with resets := satInc 32 s.backup.resets, causes := (e :: s.backup.causes).take 8 }
    freeCtr := s.freeCtr + 1 }

/-- The check over the backup domain fails at power-on (R435, R469). -/
def loseBackup (s : State) : State := { s with backup := { lifeCopy := s.nvm.otpState } }

/-- The later of the OTP state and the backup copy holds, and the other is brought up to it (R464). -/
def lifeCheck (s : State) : State :=
  let v := max s.nvm.otpState s.backup.lifeCopy
  { s with
    nvm := { s.nvm with otpState := v }
    backup := { s.backup with lifeCopy := v }
    sec := { s.sec with life := v } }

/-- A report in production is abandoned by a reset; the last complete report stays (R467). -/
def attestAfterReset (x : Security) : Security := if x.attState = 1 then { attState := 3, report := x.report } else {}

/-! Device fences that a reset leaves in force. -/

/-- Linked workers that are not LIVE or DEGRADED are fenced (R238, R264). -/
def fenceWorkers (s : State) : State :=
  if s.manager then
    (List.range 32).foldl (fun t w =>
      if s.groupsOfWorker w = [] then t else deviceFenceOn (69 + w) t) s
  else s

/-! The cold reset (R429). -/

/-- What a cold reset keeps: the part, NVM and OTP, the backup domain of R434 (the backup status 0x2200 sub 0x15 and the shutdown
count 0x2300 sub 0x1B are none of it), and what lies outside the block. -/
def coldBase (s : State) : State :=
  { State.reset with
    part := s.part
    nvm := s.nvm
    backup := { s.backup with lost := false, shutdowns := 0 }
    dramGen := s.dramGen + 1
    freeCtr := s.freeCtr
    pending := s.pending
    rst := { State.reset.rst with phase := .xoJudging }
    pat := { State.reset.pat with layer := if s.part.grade = .n then .notFitted else .off }
    pins := { State.reset.pins with ext := s.pins.ext, floating := s.pins.floating }
    sec := attestAfterReset s.sec }

/-- A fresh nonce is drawn; where the health test before the draw fails, the draw is refused and ENTROPY set: the nonce stays (R465,
R477). -/
def freshNonce (s : State) : State :=
  if Config.entropyHealthy s.freeCtr then
    { s with sec := { s.sec with nonce := toBytes 32 (Config.random s.freeCtr) }, freeCtr := s.freeCtr + 1 }
  else alarm 0x80 s.draw

/-- The random source's health test at a cold reset (R477). -/
def testEntropy (s : State) : State := if Config.entropyHealthy s.freeCtr then s.draw else alarm 0x80 s.draw

/-- Option load, role, life cycle, and the nonce and wipe of the security engine (R29, R432, R464, R468, R477). -/
def coldLoad (roleHigh lost : Bool) (s : State) : State :=
  let s1 := raiseIf lost 100 (lifeCheck { s with rst := { s.rst with phase := .xoJudging }, backup := { s.backup with lost := lost } })
  let s2 := autostartDefault (canOptions (resolveRole roleHigh (otpLoad (optionLoad s1))))
  let s3 := freshNonce (testEntropy { s2 with sec := { s2.sec with sramWiping := true } })
  let s4 := if s3.part.grade = .n then s3.setObj 0x3100 1 0 else s3
  milestone 0 s4

/-- A cold reset with RESET_N low: everything but the backup domain is reset, and the device stays in reset, its pins in their reset
states, until RESET_N is high; `lost` is kept for the start-up that follows (R426, R435). -/
def holdReset (lost : Bool) (s : State) : State :=
  let t := coldBase s
  { t with rst := { t.rst with phase := .held }, backup := { t.backup with lost := lost } }

/-- A cold reset with its cause: logged, everything but the backup domain reset, the ROLE ball at level `role` sampled, and the
start-up begun again; while RESET_N is held low, the device stays in reset (R29, R426, R429). -/
def coldReset (cause : Nat) (multi role : Bool) (path : Nat) (s : State) : State :=
  let t := logReset cause false multi path s
  if s.rst.phase = .held then holdReset s.backup.lost t else coldLoad role false (coldBase t)

/-! The warm reset (R303, R429, Table 17-2). -/

/-- A stored object that a warm reset keeps: Service-class and Reset-class; the crossing-mode word stays to the first datum
beat (R398). -/
def keptObject (key : Nat) : Bool :=
  match objRow (key / 256) (key % 256) with
  | some r => decide (r.cls = .service) || decide (r.cls = .reset) || decide (key = okey 0x2100 4)
  | none => false

/-- Buffered archive flits are committed where the controller can at once, and every stream stops; elsewhere the flits stay in the buffer and
are committed later (R294, R302, R303). -/
def settleArchive (s : State) : State :=
  let s1 := (List.range 16).foldl (fun t c =>
    if t.commits c then iterate (t.channel c).buffer.length (fun _ => commitFlit c) t else t) s
  (List.range 32).foldl (fun t i => if (t.stream i).active then stopStream i (t.descOf i) t else t) s1

/-- A channel after a warm reset: its state, keys, epoch, tags and sweep stay; a channel in per-block reset leaves it (R303,
R430). -/
def warmChannel (seed : Nat) (inReset : Bool) (x : Channel) : Channel :=
  { state := if inReset then .training else x.state
    claim := if inReset then .retraining else x.claim
    initialising := x.initialising && !inReset
    linesDone := x.linesDone, linesPoisoned := x.linesPoisoned, epoch := x.epoch, tagMap := x.tagMap, keys := x.keys,
    noKey := x.noKey, opening := x.opening && !inReset, resweep := x.resweep, arrivals := x.arrivals, waitsEntropy := x.waitsEntropy, rfmOwed := x.rfmOwed, openRows := x.openRows, retry := x.retry,
    base := x.base, sweepPos := x.sweepPos, buffer := x.buffer, lfsr := seed }

/-- The archive after a warm reset. -/
def warmDram (s : State) : Dram :=
  { s.dram with channels := (List.range 16).foldl (fun t c =>
      Tbl.upd {} t c (warmChannel (s.obj 0x3800 9) (s.dramInReset c) (s.channel c))) s.dram.channels }

/-- Requests that hold units and DRAM controllers hold, answered ABORT_RESET (R162, R303, R431). -/
def State.heldRequests (s : State) : List ReqId :=
  (s.hold.units.flatMap (fun u => (u.2.waiting.filter (fun r => !r.sched)).map HoldReq.req)) ++
  (s.hold.guard.map (fun g => g.2.req)) ++
  (s.dram.channels.flatMap (fun c => (c.2.held ++ c.2.queued).map DramReq.req))

/-- Accesses to the dictionary's window that have reached it and are not answered (R334). -/
def State.windowRequests (s : State) : List ReqId :=
  (s.noc.txns.filter (fun t =>
    (match s.place t.addr with
      | .window .. => true
      | _ => false) && t.entered && !s.noc.answers.any (fun a => decide (a.req = t.req)))).map Txn.req

/-- The device fence of domain `n` outlives a warm reset: a layer, sector or channel that is not in service yet. -/
def warmFence (s : State) (n : Nat) : Bool :=
  s.noc.deviceFence.getLsbD n &&
    (if n < 16 then s.pwr.vl3Off.contains n || s.pwr.ramping.contains n
     else if n = 16 then decide (s.pat.layer ≠ .on)
     else if n < 33 then decide ((s.channel (n - 17)).state = .faulty) || decide ((s.channel (n - 17)).state = .training) ||
       s.dramInReset (n - 17)
     else false)

/-- The NoC after a warm reset; the peak of tags in use counts since the cold reset (R259). -/
def warmNoc (s : State) : Noc :=
  { deviceFence := BitVec.ofNat 101 (natOfFn 101 (warmFence s))
    fenceState := s.noc.fenceState.filter (fun f => warmFence s f.1)
    answers := (s.heldRequests ++ s.windowRequests).map (fun r => ⟨r, .abortReset, 0⟩)
    peakTags := s.noc.peakTags }

/-- The region states after a warm reset: LOADING becomes FAILED (R383). -/
def warmRegions (t : Tbl Region) : Tbl Region := t.map (fun e => if e.2 = .loading then (e.1, .failed) else e)

/-- Configuration storage after a warm reset; both scrubbers owe one pass (R383). -/
def warmCfg (s : State) : Cfg :=
  { frames := s.cfg.frames, upsets := s.cfg.upsets, checks := s.cfg.checks, regions := warmRegions s.cfg.regions, contracts := s.cfg.contracts,
    digests := s.cfg.digests, warmPassA := true, warmPassB := true }

/-- The loops after a warm reset (R398). -/
def warmClocks (s : State) : Clocks :=
  { lantern := s.clk.lantern, xoGood := s.clk.xoGood, refGood := s.clk.refGood, aonFallback := s.clk.aonFallback,
    daymark := s.clk.daymark, memLock := s.clk.memLock, memHoldover := s.clk.memHoldover, xoPasses := s.clk.xoPasses,
    xoWindows := s.clk.xoWindows, refPasses := s.clk.refPasses, refTainted := s.clk.refTainted,
    enteredService := s.clk.enteredService, crossClear := true }

/-- Power after a warm reset: back to RUN, domains that were off ramping up. -/
def warmPower (s : State) : Power :=
  { state := if s.pwr.state = 3 then 3 else 0, transition := if s.pwr.state = 3 then 5 else 0
    regOn := s.pwr.regOn
    ramping := (s.pwr.vl3Off ++ s.pwr.ramping).dedup }

/-- The pattern layer after a warm reset: entries and checker positions stay; a layer that was off ramps up (R132). DESIGN CHOICE
(log 149): a per-block clear in progress is dropped with its reset bit and every entry it would have cleared stays; the spec does
not say how far such a clear has come. -/
def warmPattern (s : State) : Pattern :=
  { entries := if s.pat.layer = .on ∨ s.pat.layer = .notFitted then s.pat.entries else []
    banks := (s.pat.banks.map (fun b => (b.1, ({ checkPos := b.2.checkPos } : PatBank)))).filter (fun b => decide (b.2 ≠ {}))
    layer := if s.pat.layer = .on ∨ s.pat.layer = .notFitted then s.pat.layer else .ramping
    dark := decide (s.pat.layer ≠ .on) && decide (s.pat.layer ≠ .notFitted) }

/-- What a warm reset leaves, before the defaults that depend on the option image. -/
def warmBase (s : State) : State :=
  { State.reset with
    part := s.part
    nvm := s.nvm
    backup := { s.backup with lost := false, shutdowns := 0 }
    rst := { phase := .starting, warmStart := true, roleManager := s.rst.roleManager, roleSource := s.rst.roleSource,
             roleStrap := s.rst.roleStrap, options := s.rst.options, optionStatus := s.rst.optionStatus
             rename := s.rst.rename, repair := s.rst.repair }
    time := { tick := s.time.tick, cyc := s.time.cyc, beat := s.time.beat, freshLock := s.time.freshLock, datum := s.time.datum }
    dict := s.dict.filter (fun e => keptObject e.1)
    can := { nodeId := s.can.nodeId, nomRate := s.can.nomRate, dataRate := s.can.dataRate, silent := s.can.silent,
             bus := if s.clk.aonFallback then 3 else 0 }
    ev := { log := s.ev.log }
    pat := warmPattern s
    noc := warmNoc s
    dram := warmDram s
    cfg := warmCfg s
    clk := warmClocks s
    pwr := warmPower s
    pins := { State.reset.pins with ext := s.pins.ext, floating := s.pins.floating }
    sec := { attestAfterReset s.sec with life := s.sec.life, nonce := s.sec.nonce, sramWiping := true }
    memGen := s.memGen + 1
    dramGen := s.dramGen
    freeCtr := s.freeCtr
    pending := s.pending }

/-- A warm reset with its cause (R429). -/
def warmReset (cause : Nat) (multi : Bool) (path : Nat) (s : State) : State :=
  let s1 := autostartDefault (warmBase (settleArchive (logReset cause true multi path s)))
  let s2 := if s1.part.grade = .n then s1.setObj 0x3100 1 0 else s1
  updateFrozen (fenceWorkers s2)

/-! Sources (R426, R428). -/

/-- A reset source arises: performed, or for a warm one before SERVICE recorded as event 99; nothing while power-on reset is
held. `role` is the level of the ROLE ball, which a cold reset samples. -/
def resetSource (cause : Nat) (warm multi role : Bool) (path : Nat) (s : State) : State :=
  if s.rst.phase = .powerOn then s
  else if warm then
    if s.rst.phase = .service then warmReset cause multi path s else raise 99 s
  else coldReset cause multi role path s

end Sys2Proof.Machine
end

