-- ==== Sys2Proof/Machine/LaneCore.lean ====
section
/-! DEFINITION. Lane groups as state: settings in force, receive states and their events, cause bits, the maintenance claim,
and the actions on a Merig link's loss and return (R205, R208, R209, R217, R218, R227, R240, R241, R410). -/

namespace Sys2Proof.Machine

/-! Settings. -/

/-- An object of lane group `g`. -/
def State.laneObj (s : State) (g sub : Nat) : Nat := s.obj (0x3500 + g) sub

/-- Mode: 0 DETECTOR, 1 MERIG, 2 READOUT. -/
def State.laneMode (s : State) (g : Nat) : Nat := s.laneObj g 1

/-- A group is a Merig link (R226). -/
def State.isMerig (s : State) (g : Nat) : Bool := decide (s.laneMode g = 1)

/-- Frame length in UI. -/
def State.nui (s : State) (g : Nat) : Nat := nuiOf (s.laneObj g 2)

/-- Lane `l` of group `g` is enabled. -/
def State.laneEnabled (s : State) (g l : Nat) : Bool := bitOf (s.laneObj g 6) l

/-- Lane action of a device power state (Table 16-3). -/
def laneAction (st : Nat) : Nat := if st = 1 then 1 else if st = 2 then 2 else 0

/-- Effective power state of a group: 0 Active, 1 shallow idle, 2 deep sleep (R410). -/
def State.lanePower (s : State) (g : Nat) : Nat := max (s.laneObj g 3) (laneAction s.pwr.state)

/-- Loop `q` of group `g` is locked, and both are. -/
def State.loopLocked (s : State) (g q : Nat) : Bool := s.clk.loops.getLsbD (2 * g + q)
def State.loopsLocked (s : State) (g : Nat) : Bool := s.loopLocked g 0 && s.loopLocked g 1

/-- L_M (R234), and the flash cycle F of group `g` (R231). -/
def State.lm (s : State) : Nat := s.obj 0x3600 1
def State.flashCycle (s : State) (g : Nat) : Nat := byteAt (s.obj 0x3600 4) g

/-- Link-table byte of group `g`. -/
def State.linkByte (s : State) (g : Nat) : Nat := byteAt (s.obj 0x3600 3) g

/-- The worker whose event block a group's link uses: its own on a worker, the link table's on a manager (R248). -/
def State.linkWorker (s : State) (g : Nat) : Nat := (if s.manager then s.linkByte g else s.mer.wnum) % 32

/-- A lane's registers. -/
def State.lane (s : State) (i : Nat) : Lane := Tbl.at {} s.lan.lanes i

/-- A lane's registers replaced. -/
def State.setLane (s : State) (i : Nat) (x : Lane) : State :=
  { s with lan := { s.lan with lanes := Tbl.upd {} s.lan.lanes i x } }

/-- The lanes of group `g`. -/
def groupLanes (g : Nat) : List Nat := (List.range 8).map (fun l => 8 * g + l)

/-- Some property of a lane holds on every enabled lane of a group that has one. -/
def State.allEnabled (s : State) (g : Nat) (p : Lane → Bool) : Bool :=
  decide (s.laneObj g 6 % 256 ≠ 0) && (List.range 8).all (fun l => !s.laneEnabled g l || p (s.lane (8 * g + l)))

/-! Cause bits (Table 8-13). -/

def laneCrcErr : Nat := 1
def laneSyncErr : Nat := 2
def laneSeqErr : Nat := 4
def laneCoastRx : Nat := 8
def laneLost : Nat := 16
def laneWander : Nat := 32
def laneTrainFail : Nat := 64
def laneDatumMoved : Nat := 128
def laneUnderrun : Nat := 256
def laneClaimRefused : Nat := 512
def laneDarkRx : Nat := 1024

/-- Set cause bits of a group. -/
def groupCause (g bits : Nat) (s : State) : State :=
  let x := s.group g
  s.setGroup g { x with causes := x.causes ||| bits }

/-! The maintenance claim (R217, R218). -/

/-- Code of a holder or of a refused activity (0x3500 + g sub 0x1B). -/
def laneClaimCode : LaneClaim → Nat
  | .adaptation => 1
  | .deepSleep => 2
  | _ => 0

/-- A request is refused because the claim is held (R218). -/
def laneClaimRefuse (g refused : Nat) (s : State) : State :=
  let x := s.group g
  raise (131 + 4 * g) (s.setGroup g { x with
    causes := x.causes ||| laneClaimRefused, lastRefusal := laneClaimCode x.claim + 4 * refused })

/-- A scan is running or paused. -/
def Group.scanning (x : Group) : Bool := decide (x.scan.state = 1) || decide (x.scan.state = 2)

/-- A scan ends in a state, releases the claim, and raises its event (R217). -/
def endScan (g st : Nat) (s : State) : State :=
  let x := s.group g
  raise (if st = 3 then 130 + 4 * g else 131 + 4 * g)
    (s.setGroup g { x with claim := .none, scan := { x.scan with state := st, outBuf := [] } })

/-- A scan that is running or paused ends with state 4. -/
def abortScan (g : Nat) (s : State) : State := if (s.group g).scanning then endScan g 4 s else s

/-! Receive states (Table 8-5). -/

/-- Events of an entry to a receive state. -/
def rxEvent (g : Nat) (r : Rx) (s : State) : State :=
  match r with
  | .up => raise (130 + 4 * g) s
  | .shallow => raise (130 + 4 * g) s
  | .deep => raise (130 + 4 * g) s
  | .lost => raise (128 + 4 * g) s
  | .fault => raise (128 + 4 * g) s
  | _ => s

/-- The receive side enters a state, with its event; a scan pauses in SHALLOW, resumes in UP and ends elsewhere. -/
def enterRx (g : Nat) (r : Rx) (s : State) : State :=
  let s1 := if r = .up ∨ r = .shallow then s else abortScan g s
  let x := s1.group g
  let scan := if x.scanning then { x.scan with state := if r = .shallow then 2 else 1 } else x.scan
  rxEvent g r (s1.setGroup g { x with rx := r, scan := scan })

/-- Carriage state of a group as it stands before a first flit. -/
def Group.clearCarriage (x : Group) : Group :=
  { x with carOut := [], carSeqTx := 0, carSeqRx := 0, carKnown := false, carNak := false, carIdle := 0, carBeatFlit := none,
           carNext := 0, carWait := [], keepSeen := false }

/-- The lanes of a group start anew: no sequence, no run, nothing waiting. -/
def clearLanes (g : Nat) (s : State) : State :=
  (groupLanes g).foldl (fun t i =>
    let x := t.lane i
    t.setLane i { x with seqKnown := false, bad := 0, run := 0, sinceValid := 0, waits := none }) s

/-- Training begins: the receive side enters CLOCK, its trained relation ends (R212), the claim of a training before it is free, and
it asks for adaptation where the claim is (R209, R218). A carriage keeps its sequence over a training; where the far end may have
started anew, the next flit is the first (DESIGN CHOICE, log 159). -/
def toClock (g : Nat) (adapt : Bool) (s : State) : State :=
  let known := (s.group g).carKnown && decide ((s.group g).rx = .up)
  let s1 := clearLanes g (enterRx g .clock s)
  let x := s1.group g
  let held := decide (x.claim ≠ .none) && decide (x.claim ≠ .adaptation)
  let y := { x with trained := false, datumSeen := false, datumHeard := false, wake := 0, keepSeen := false, carKnown := known,
                    carBeatFlit := none, adaptAsked := adapt && !held,
                    claim := if held then x.claim else if adapt then .adaptation else .none }
  let s2 := s1.setGroup g y
  if adapt && held then laneClaimRefuse g 1 s2 else s2

/-- The receive side enters DEEP, with its event where it was not there; the trained relation is lost (R209, R220). -/
def toDeep (g : Nat) (s : State) : State :=
  let s1 := if (s.group g).rx = .deep then s else enterRx g .deep s
  s1.setGroup g { s1.group g with trained := false }

/-- The training's claim is free again. -/
def freeAdaptation (g : Nat) (s : State) : State :=
  let x := s.group g
  if x.claim = .adaptation then s.setGroup g { x with claim := .none, adaptAsked := false } else s

/-- Training fails: FAULT with TRAIN_FAIL. -/
def trainFail (g : Nat) (s : State) : State := groupCause g laneTrainFail (enterRx g .fault (freeAdaptation g s))

/-- Group `g` takes part in reception: its per-block reset is over. -/
def State.laneServes (s : State) (g : Nat) : Bool := s.l0Runs && !s.laneInReset g

/-! Losing and regaining a Merig link (R240, R241, Table 9-4). -/

/-- Trained Merig groups of a device that reach worker `w`; on a worker, all of its own. -/
def State.trainedLinks (s : State) (w : Nat) : List Nat :=
  whichBelow 32 (fun g => s.isMerig g && (s.group g).trained && (!s.manager || decide (s.linkByte g = w)))

/-- Merig groups of a device that have reached worker `w` and are not lost (R240, R241). -/
def State.linkedLinks (s : State) (w : Nat) : List Nat :=
  whichBelow 32 (fun g => s.isMerig g && (s.group g).linked && (!s.manager || decide (s.linkByte g = w)))

/-- The worker whose window an address lies in. -/
def windowWorker (a : Nat) : Option Nat :=
  if 0x800000000000 ≤ a ∧ a < 0xC00000000000 then some ((a - 0x800000000000) / 0x020000000000)
  else if 0xC00000000000 ≤ a ∧ a < 0xE00000000000 then some ((a - 0xC00000000000) / 0x010000000000)
  else none

/-- Nothing is left to send or to be acknowledged: the next flit takes the number of the first that was not acknowledged. -/
def Group.dropFlits (x : Group) : Group :=
  { x with
    carSeqTx := match x.carOut with
      | [] => x.carSeqTx
      | f :: _ => (f.1 + 15) % 16
    carOut := [], carNext := 0, carWait := [] }

/-- Transactions that wait in the windows of worker `w` end with DATAERR, and nothing is left to send (R238). -/
def endWindows (w : Nat) (s : State) : State :=
  let s0 := ((s.noc.txns.filter (fun t => windowWorker t.addr == some w)).map Txn.req).foldl
    (fun t r => endEarly r .dataerr t) s
  let elsewhere := fun (x : ReqId × Nat) => windowWorker x.2 != some w
  let s1 := { s0 with noc := { s0.noc with
    orphans := s0.noc.orphans.filter elsewhere, absorb := s0.noc.absorb.filter elsewhere } }
  (s.groupsOfWorker w).foldl (fun t g => t.setGroup g (t.group g).dropFlits) s1

/-- A relay transfer aborts: the code is recorded, its requester has it, event 1155 + 4w (R243). -/
def relayAbortWith (w code : Nat) (s : State) : State :=
  let x := s.worker w
  let s1 := raise (1155 + 4 * w) (s.setWorker w { x with relayAbort := code, relayOpen := none, relayOut := [] })
  match x.relayOpen with
  | some (p, _) => endRelayWait w code [] (answered p (0x5000 + w) 0x11 (code, s1))
  | none => s1

/-- A worker turns DARK (R240). -/
def workerDark (w : Nat) (s : State) : State :=
  let x := s.worker w
  let s1 := s.setWorker w { x with
    state := 4, darkEntries := satInc 32 x.darkEntries, resetSent := false
    lastDark := s.time.rot % 2 ^ 48 * 2 ^ 16 + (if x.resetSent && decide (s.time.tick < x.resetUntil) then 2 else 1) }
  let s2 := emcyPush ⟨0xFF40 + w, s.time.rot % 2 ^ 40, 0⟩ (raise (1152 + 4 * w) (endWindows w (deviceFenceOn (69 + w) s1)))
  if x.relayOpen.isSome then relayAbortWith w abortState s2 else s2

/-- A manager's link to worker `w` is lost; `left` says that another one stays (Table 9-4). -/
def managerLost (w : Nat) (left : Bool) (s : State) : State :=
  let x := s.worker w
  match x.state with
  | 1 => if left then s else s.setWorker w { x with state := x.before }
  | 2 => if left then raise (1153 + 4 * w) (s.setWorker w { x with state := 3 }) else workerDark w s
  | 3 => if left then s else workerDark w s
  | _ => s

/-- A worker's link is lost (R241). -/
def workerLost (left : Bool) (s : State) : State :=
  let w := s.mer.wnum % 32
  if left then raise (1153 + 4 * w) s
  else
    let first := decide (s.mer.own ≠ 4)
    let s1 := { s with mer := { s.mer with own := 3, adoptDue := false, resumeAtDatum := false } }
    updateFrozen (raiseIf first (1152 + 4 * w) s1)

/-- A Merig group enters LOST: its link is lost where it was up. A worker is adrift with its last trained link (R241), a manager has lost
every link when none is left that has been up and is not lost (R240). -/
def linkLost (g : Nat) (s : State) : State :=
  if !s.isMerig g || !(s.group g).linked then s
  else
    let s1 := s.setGroup g { s.group g with trained := false, linked := false }
    let w := s.linkByte g
    if s.manager then (if w < 32 then managerLost w (s1.linkedLinks w ≠ []) s1 else s1)
    else workerLost (s1.trainedLinks 0 ≠ []) s1

/-- A group enters LOST with a cause (R208). -/
def toLost (g cause : Nat) (s : State) : State := linkLost g (enterRx g .lost (groupCause g cause s))

/-- A worker becomes LIVE (Table 9-4): the dark state is cleared and its windows open. -/
def workerLive (w : Nat) (s : State) : State :=
  errorReset (deviceFenceOff (69 + w) (raise (1154 + 4 * w)
    (s.setWorker w { s.worker w with state := 2, before := 0, resetSent := false })))

/-- A link of worker `w` reaches UP, as its manager sees it; `back` says that it was lost (Table 9-4). -/
def managerUp (w serial : Nat) (back : Bool) (s : State) : State :=
  let x := { s.worker w with serial := serial }
  match x.state with
  | 0 => s.setWorker w { x with state := 1, before := 0 }
  | 4 => s.setWorker w { x with state := 1, before := 4 }
  | 3 => if back then raise (1154 + 4 * w) (s.setWorker w { x with state := 2 }) else s.setWorker w x
  | _ => s.setWorker w x

/-- A worker's link reaches UP: it aligns, or realigns (R241); one that was linked aligns again (R514, Table 2-3). -/
def workerUp (wnum : Nat) (s : State) : State :=
  let own := match s.mer.own with
    | 0 => 1
    | 2 => 1
    | 3 => 4
    | n => n
  { s with mer := { s.mer with own := own, wnum := wnum } }

/-- A link of a group reaches UP with what training learned of the far end. -/
def linkUp (g wnum serial : Nat) (s : State) : State :=
  if !s.isMerig g then s
  else
    let back := !(s.group g).linked
    let s1 := s.setGroup g { s.group g with trained := true, linked := true }
    if s.manager then (if s.linkByte g < 32 then managerUp (s.linkByte g) serial back s1 else s1) else workerUp wnum s1

/-- A group reaches UP: counted, with its event (R209). -/
def toUp (g : Nat) (s : State) : State :=
  let s1 := enterRx g .up (freeAdaptation g s)
  let x := s1.group g
  s1.setGroup g { x with trainings := wrapInc 32 x.trainings, wake := 0 }

end Sys2Proof.Machine
end

