-- ==== Sys2Proof/Machine/Lanes.lean ====
section
/-! DEFINITION. Reception on the lane groups: frames classified, delivered, counted and captured, loss, training, alignment,
lane power states, the eye scan and the transmit loops (R154, R155, R197 to R222, R227, R230, R232, R233, R402, R510, R512). -/

namespace Sys2Proof.Machine

/-! Time. -/

/-- FAB cycle number of the first cycle of the beat in progress, and of the next beat. -/
def State.beatStart (s : State) : Nat := s.time.tick - s.time.cyc
def State.nextBeat (s : State) : Nat := s.beatStart + s.fabPerBeat

/-! What a lane delivers to its home station (R168, R206, R232). -/

/-- Word pairs on their way to a port: those whose cycle has not passed. -/
def enqueuePairs (l : List Flight) (s : State) : State :=
  { s with lan := { s.lan with rxq := s.lan.rxq ++ l.filter (fun f => decide (s.time.tick ≤ f.due)) } }

/-- Port number in `rxq` of the flash word of group `g`. -/
def flashPort (g : Nat) : Nat := 256 + g

/-- Primitive pair `j` of lane `l` with the value `v` as presented: on a worker the flash takes bits [15:0] of lane 0's pair F. -/
def State.primitive (s : State) (g l j v : Nat) : Nat :=
  if !s.manager && decide (l = 0) && decide (j = s.flashCycle g) then v / 2 ^ 16 * 2 ^ 16 else v

/-- Primitive pairs of a Merig lane whose beat began, in the receiver's numbering, at cycle `start` (R232). Those that were due before
the frame completed have been presented as they came (`State.merigPair`). -/
def merigPairs (g l start payload : Nat) (s : State) : State :=
  enqueuePairs ((List.range 8).map (fun j => ⟨start + s.lm + j, 8 * g + l, s.primitive g l j (bitsAt payload (32 * j) 32)⟩)) s

/-- Word pairs of a detector lane whose frame end is cycle `e` (R168). -/
def detectorPairs (g l e payload : Nat) (s : State) : State :=
  enqueuePairs ((List.range (pairsOf (s.nui g))).map (fun j => ⟨e + 24 + j, 8 * g + l, pairOf (s.nui g) payload j⟩)) s

/-- A frame that completes in the beat in progress is presented (R206, R232). -/
def presentFrame (g l payload : Nat) (s : State) : State :=
  if s.isMerig g then merigPairs g l (s.beatStart - (s.group g).lag * s.fabPerBeat) payload s
  else detectorPairs g l s.nextBeat payload s

/-- The flash word of a good frame of lane 7 is presented on a worker (R232). -/
def presentFlash (g l payload : Nat) (s : State) : State :=
  if s.isMerig g && !s.manager && decide (l = 7) then
    enqueuePairs [⟨s.beatStart - (s.group g).lag * s.fabPerBeat + s.lm + s.flashCycle g, flashPort g, bitsAt payload 352 16⟩] s
  else s

/-- The dark payload of a group. -/
def State.darkOf (s : State) (g : Nat) : Nat := darkPayload (s.nui g) (s.laneObj g 5)

/-- A lane that delivers no frame of its own shows dark words: its group is not UP, or it is disabled (R205, R206). On a Merig lane
every pair that no frame gives is dark (R232). -/
def darkLane (g l : Nat) (s : State) : State :=
  let i := 8 * g + l
  let p := s.darkOf g
  let s1 := s.setLane i { s.lane i with payload := p, raw := 0, seen := true, waits := none }
  if s.isMerig g then s1 else detectorPairs g l s.nextBeat p s1

/-- Every lane of a group that has delivered nothing in this beat shows dark words. -/
def showDark (g : Nat) (s : State) : State :=
  (List.range 8).foldl (fun t l => if (t.lane (8 * g + l)).seen then t else darkLane g l t) s

/-! Classification (Table 8-4). -/

/-- A received frame with its line code and mix undone. -/
structure RxFrame where
  sync : Nat
  ctl : Nat
  good : Bool
  payload : Nat
  deriving DecidableEq, Repr

/-- Read the fields of frame `x`, whose clear payload is `p`. -/
def readFrame (n x p : Nat) : RxFrame := ⟨frameSync x, frameCtl x, crcGood n x p, p⟩

/-- SYNC stands at its place. -/
def RxFrame.synced (f : RxFrame) : Bool := decide (f.sync = syncData) || decide (f.sync = syncIdle)

/-- Rows of Table 8-4 in their order. -/
inductive RxCase where
  | sync | crc | seq | idle | dark | coast | plain
  deriving DecidableEq, Repr

/-- The first row of Table 8-4 that a frame on a lane meets. -/
def rxCase (ln : Lane) : Option RxFrame → RxCase
  | none => .sync
  | some f =>
    if !f.synced then .sync
    else if !f.good then .crc
    else if ln.seqKnown && decide (ctlSeq f.ctl ≠ (ln.lastSeq + ln.sinceValid) % 256) then .seq
    else if f.sync = syncIdle then .idle
    else if ctlDark f.ctl then .dark
    else if ctlCoast f.ctl then .coast
    else .plain

/-- Valid for loss detection. -/
def RxCase.valid : RxCase → Bool
  | .sync => false
  | .crc => false
  | .seq => false
  | _ => true

/-- Delivered as received. -/
def RxCase.asReceived : RxCase → Bool
  | .coast => true
  | .plain => true
  | _ => false

/-- Cause code of a counted replacement (0x3500 + g sub 0x16). -/
def RxCase.code : RxCase → Nat
  | .sync => 1
  | .crc => 2
  | .seq => 3
  | .dark => 4
  | _ => 0

/-- A replacement that counts at sub 0x11 (Table 8-4). -/
def countReplaced (g l code : Nat) (s : State) : State :=
  let x := s.group g
  let s1 := { s with lan := { s.lan with replaced := wrapInc 64 s.lan.replaced } }
  raiseOnce (129 + 4 * g) (s1.setGroup g { x with
    replaced := satInc 32 x.replaced
    lastReplaced := code * 2 ^ 14 + l * 2 ^ 17 + s.time.beat % 4096 * 2 ^ 20 + s.time.rot % 2 ^ 32 * 2 ^ 32 })

/-- Counters and cause bits of a classified frame. -/
def countCase (g l : Nat) (c : RxCase) (s : State) : State :=
  let x := s.group g
  match c with
  | .sync => countReplaced g l 1 (s.setGroup g { x with syncErrs := satInc 32 x.syncErrs, causes := x.causes ||| laneSyncErr })
  | .crc => countReplaced g l 2 (s.setGroup g { x with crcErrs := satInc 32 x.crcErrs, causes := x.causes ||| laneCrcErr })
  | .seq => countReplaced g l 3 (s.setGroup g { x with seqErrs := satInc 32 x.seqErrs, causes := x.causes ||| laneSeqErr })
  | .idle => s
  | .dark => countReplaced g l 4 (groupCause g laneDarkRx s)
  | .coast => s.setGroup g { x with coasted := satInc 32 x.coasted, delivered := wrapInc 64 x.delivered,
                                    causes := x.causes ||| laneCoastRx }
  | .plain => s.setGroup g { x with delivered := wrapInc 64 x.delivered }

/-- What an idle frame asks for: 1 ENTER_SHALLOW, 2 ENTER_DEEP (R202). -/
def idleAsks (payload : Nat) : Nat := if payload % 65536 = 1 then 1 else if payload % 65536 = 2 then 2 else 0

/-- What the lane keeps of its frame. -/
def laneAfter (ln : Lane) (c : RxCase) (f : Option RxFrame) (shown : Nat) : Lane :=
  let raw := match f with
    | some r => r.payload
    | none => 0
  let seq := match f with
    | some r => ctlSeq r.ctl
    | none => 0
  { ln with
    seen := true, payload := shown, raw := raw, waits := none
    good := c.valid && decide (c ≠ .idle)
    idle := if c = .idle then idleAsks raw else 0
    lastSeq := if c.valid then seq else ln.lastSeq
    seqKnown := ln.seqKnown || c.valid
    sinceValid := if c.valid then 0 else ln.sinceValid
    bad := if c.valid then 0 else ln.bad + 1 }

/-- The payload that a lane delivers: as received, replaced, or on a Merig lane with a failed CRC the primitive words as
received (R205, R230). -/
def shownPayload (merig : Bool) (dark : Nat) (c : RxCase) (f : Option RxFrame) : Nat :=
  match f with
  | none => dark
  | some r =>
    if c.asReceived then r.payload
    else if merig && decide (c = .crc) then withBits dark 0 256 (r.payload % 2 ^ 256)
    else dark

/-! Merig control (R236, R238, R240, Table 9-2). -/

/-- Control field: link-block bits 720 to 895. -/
def controlOf (block : Nat) : Nat := bitsAt block 720 176

/-- KEEPALIVE must advance by 1 from the last one received. -/
def keepAlive (g ctl : Nat) (s : State) : State :=
  let x := s.group g
  let k := bitsAt ctl 44 8
  let late := x.keepSeen && decide (k ≠ (x.keepRx + 1) % 256)
  raiseIf late (1155 + 4 * s.linkWorker g) (s.setGroup g { x with keepRx := k, keepSeen := true })

/-- Flits acknowledged by CAR_ACK leave the sender; CAR_NAK asks for a resend (R238). -/
def carriageAcks (g ctl : Nat) (s : State) : State :=
  let x := s.group g
  let ack := bitsAt ctl 136 4
  let nak := bitOf ctl 140
  match x.carOut.findIdx? (fun f => f.1 == ack) with
  | some i => s.setGroup g { x with carOut := x.carOut.drop (i + 1), carNext := x.carNext - (i + 1),
                                    carIdle := if nak then 16 else 0 }
  | none => if nak then s.setGroup g { x with carIdle := 16 } else s

/-- The carriage flit of the beat, with its sequence number, for CARRIAGE_FLIT_RECEIVED. -/
def carriageTake (g block ctl : Nat) (s : State) : State :=
  let x := s.group g
  let f : Flit := ⟨BitVec.ofNat 128 block, BitVec.ofNat 512 (block / 2 ^ 128)⟩
  s.setGroup g { x with carBeatFlit := if bitOf ctl 131 then some (bitsAt ctl 132 4, f) else none }

/-- A worker adopts its manager's counter from the first frame with KIND 5 after alignment (R236). -/
def adoptCounter (ctl : Nat) (s : State) : State :=
  if s.mer.adoptDue && decide (bitsAt ctl 112 4 = 5) then
    let rot := bitsAt ctl 52 32 * 2 ^ 32 + ctl % 2 ^ 32
    let crossed := decide (s.time.beat < bitsAt ctl 32 12)
    { s with
      time := { s.time with rot := (if crossed then rot + 1 else rot) % 2 ^ 64, adopted := true }
      mer := { s.mer with adoptDue := false } }
  else s

/-- What a manager takes from a worker's control field: device state, and LIVE once it has released and is not adrift. -/
def managerControl (g ctl : Nat) (s : State) : State :=
  let w := s.linkByte g
  if 32 ≤ w then s
  else
    let x := { s.worker w with dstate := bitsAt ctl 126 2 }
    let s1 := s.setWorker w x
    if x.state = 1 ∧ bitOf ctl 129 = true ∧ bitOf ctl 130 = false then workerLive w s1 else s1

/-- The far end's training shows in its relay word, which carries its serial number meanwhile: a linked worker aligns again at the next
marker (R514, Table 9-2; DEDUCED, log 161). -/
def farTrains (g ctl : Nat) (s : State) : State :=
  let x := s.group g
  let training := decide (bitsAt ctl 52 64 = x.farSerial)
  let s1 := s.setGroup g { x with farUp := !training }
  if training && x.farUp && decide (s.mer.own = 2) then { s1 with mer := { s1.mer with own := 1 } } else s1

/-- What a worker takes from its manager's control field: WNUM, CMD = 1, a training at the far end, and the counter (R236, R242,
R514). -/
def workerControl (g ctl : Nat) (s : State) : State :=
  let s1 := s.setGroup g { s.group g with wnumRx := bitsAt ctl 120 5 }
  adoptCounter ctl (farTrains g ctl
    { s1 with mer := { s1.mer with cmdDue := s1.mer.cmdDue || decide (bitsAt ctl 116 4 = 1) } })

/-- All eight lanes of a Merig group have a good frame in this beat: its link block is read. -/
def linkReceived (g : Nat) (s : State) : State :=
  let block := linkBlock ((groupLanes g).map (fun i => (s.lane i).raw))
  let ctl := controlOf block
  let s1 := carriageTake g block ctl (carriageAcks g ctl (keepAlive g ctl s))
  if s.manager then managerControl g ctl s1 else workerControl g ctl s1

/-! One classified frame of a group in UP. -/

/-- Index of the beat `n` beats before the beat in progress, in the numbering in force. -/
def State.indexAgo (s : State) (n : Nat) : Nat := (s.time.beat + s.B - n % s.B) % s.B

/-- Frames with DATUM = 1 fix DATUM_BEAT, or move it (R212). -/
def datumSeen (g : Nat) (f : Option RxFrame) (c : RxCase) (s : State) : State :=
  match f with
  | some r =>
    if c.valid && ctlDatum r.ctl then
      let x := s.group g
      let y := { x with datumSeen := true, datumHeard := true, datumBeat := s.time.beat, datumIndex := s.indexAgo x.lag }
      if x.datumSeen ∧ x.datumBeat ≠ s.time.beat then
        raiseOnce (129 + 4 * g) (s.setGroup g { y with causes := x.causes ||| laneDatumMoved })
      else s.setGroup g y
    else s
  | none => s

/-- What the lanes of a group together ask for after a frame: sleep, or the link block read. -/
def groupAfterFrame (g : Nat) (s : State) : State :=
  if s.allEnabled g (fun ln => decide (ln.idle = 1)) then clearLanes g (enterRx g .shallow s)
  else if s.allEnabled g (fun ln => decide (ln.idle = 2)) then toClock g false s
  else if s.isMerig g && s.allEnabled g Lane.good then linkReceived g s
  else s

/-- A frame, or its absence, on an enabled lane of a group in UP (R205). -/
def upFrame (g l : Nat) (f : Option RxFrame) (s : State) : State :=
  let i := 8 * g + l
  let ln := s.lane i
  let c := rxCase ln f
  let shown := shownPayload (s.isMerig g) (s.darkOf g) c f
  let s1 := presentFrame g l shown (s.setLane i (laneAfter ln c f shown))
  let s2 := match f with
    | some r => if c.valid && decide (c ≠ .idle) then presentFlash g l r.payload s1 else s1
    | none => s1
  groupAfterFrame g (datumSeen g f c (countCase g l c s2))

/-- A worker's group notes the WNUM that a data frame of lane 7 carries in link word 52: its own frames echo it (Table 9-2). -/
def noteWnum (g : Nat) (f : Option RxFrame) (s : State) : State :=
  match f with
  | some r =>
    if s.isMerig g && !s.manager && decide (r.sync = syncData) then
      s.setGroup g { s.group g with wnumRx := bitsAt r.payload 312 5 }
    else s
  | none => s

/-- A frame on an enabled lane of a group in LOCK: 8 valid ones in a row on every enabled lane end the search; one that is not valid
starts the search anew, its sequence included. -/
def lockFrame (g l : Nat) (f : Option RxFrame) (s : State) : State :=
  let i := 8 * g + l
  let ln := s.lane i
  let ok := (rxCase ln f).valid
  let seq := match f with
    | some r => ctlSeq r.ctl
    | none => 0
  let s0 := if ok && decide (l = 7) then noteWnum g f s else s
  let s1 := darkLane g l (s0.setLane i (if ok then { ln with run := ln.run + 1, lastSeq := seq, seqKnown := true, sinceValid := 0 }
    else { ln with run := 0, seqKnown := false }))
  if s1.allEnabled g (fun x => decide (8 ≤ x.run)) then enterRx g .deskew s1 else s1

/-- A frame on an enabled lane of a group in SHALLOW: valid ones on every enabled lane wake the group. -/
def wakeFrame (g l : Nat) (f : Option RxFrame) (s : State) : State :=
  match f with
  | none => s
  | some r =>
    if r.synced && r.good && decide (s.lanePower g = 0) && !(decide (r.sync = syncIdle) && decide (idleAsks r.payload ≠ 0)) then
      let i := 8 * g + l
      let ln := s.lane i
      let x := s.group g
      let s1 := (darkLane g l (s.setLane i { ln with lastSeq := ctlSeq r.ctl, seqKnown := true, sinceValid := 0, bad := 0 })).setGroup g
        { x with wake := x.wake ||| 2 ^ l }
      let woken := (s1.group g).wake
      if (List.range 8).all (fun k => !s.laneEnabled g k || bitOf woken k) then showDark g (enterRx g .up s1) else s1
    else s

/-- A frame on a lane, by the receive state of its group. -/
def acceptFrame (g l : Nat) (f : Option RxFrame) (s : State) : State :=
  if !s.laneEnabled g l || (s.lane (8 * g + l)).seen then s
  else match (s.group g).rx with
    | .up => upFrame g l f s
    | .lock => lockFrame g l f s
    | .shallow => wakeFrame g l f s
    | _ => s

/-! Keyed links (R244). -/

/-- The keyed mix runs on a group's reception. -/
def State.rxMixed (s : State) (g : Nat) : Bool :=
  s.isMerig g && bitOf (s.obj 0x3600 5) g && ((s.group g).rxKey.isSome || (s.group g).rxOld.isSome)

/-- Key and counter of a frame whose sender's beat lies `lag` beats back. -/
def Group.rxKeyAt (x : Group) (lag : Nat) : Option (BitVec 128) × Nat :=
  if lag ≤ x.rxKeyBeats then (x.rxKey, x.rxKeyBeats - lag) else (x.rxOld, x.rxOldBeats + x.rxKeyBeats - lag)

/-- Clear payloads of a half whose frames (0 for a missing one) are `fs`. -/
def Group.clearHalf (x : Group) (half lag n : Nat) (fs : List Nat) : List Nat :=
  unmixHalf (x.rxKeyAt lag).1 (x.rxKeyAt lag).2 half (fs.map (framePayload n))

/-- Beats between a frame's beat and its completion: by alignment in UP, searched for before it. -/
def Group.lagOf (x : Group) (half n : Nat) (fs : List Nat) : Nat :=
  if x.rx = .up then x.lag
  else ((List.range 48).find? (fun k =>
    ((x.clearHalf half k n fs).zip fs).all (fun p => crcGood n p.2 p.1))).getD x.lag

/-- The waiting frames of a half are read together. -/
def readHalf (g half : Nat) (s : State) : State :=
  let n := s.nui g
  let waits := (List.range 4).map (fun a => (s.lane (8 * g + 4 * half + a)).waits)
  let fs := waits.map (fun w => match w with
    | some b => b.toNat
    | none => 0)
  let clear := (s.group g).clearHalf half ((s.group g).lagOf half n fs) n fs
  (List.range 4).foldl (fun t a =>
    match waits.getD a none with
    | some b => acceptFrame g (4 * half + a) (some (readFrame n b.toNat (clear.getD a 0))) t
    | none => t) s

/-- A frame of a keyed link waits for the other lanes of its half. -/
def keyedFrame (g l : Nat) (x : Option Nat) (s : State) : State :=
  let i := 8 * g + l
  let s1 := match x with
    | some f => s.setLane i { s.lane i with waits := some (BitVec.ofNat 400 f) }
    | none => acceptFrame g l none s
  let half := l / 4
  if (List.range 4).all (fun a =>
      let y := s1.lane (8 * g + 4 * half + a)
      y.seen || y.waits.isSome) then readHalf g half s1 else s1

/-! LANE_FRAME_RECEIVED. -/

/-- The margin of a frame left its range (R208). -/
def State.wanders (s : State) (margin : Nat) : Bool := decide (margin < 1) || decide (s.fabPerBeat + 6 < margin)

/-- The margin of a frame of a group in UP is reported, and noted where it left its range (R208, R212). DESIGN CHOICE (log 202): frames that
come in SHALLOW or LOST, where the alignment still stands, change neither MARGIN nor DATUM_BEAT. -/
def noteMargin (g margin : Nat) (s : State) : State :=
  let x := s.group g
  if x.rx = .up then s.setGroup g { x with margin := margin, wander := x.wander || s.wanders margin } else s

/-- A group in UP is lost when every lane's frame of the beat is classified: 4 beats without a valid one on some enabled lane, or a
margin out of its range; each sets its own cause, also where both come in one beat (R208; DEDUCED, log 183). -/
def judgeLoss (g : Nat) (s : State) : State :=
  if (s.group g).rx ≠ .up then s
  else
    let silent := (groupLanes g).any (fun i => s.laneEnabled g (i % 8) && decide (4 ≤ (s.lane i).bad))
    let wander := (s.group g).wander
    if silent || wander then toLost g ((if silent then laneLost else 0) + (if wander then laneWander else 0)) s else s

/-- LANE_FRAME_RECEIVED: in the beat in progress a frame completes at a lane's trained position, or none does (R205 to R208,
R230). -/
def execLaneFrameReceived (lane : Fin 256) (bits : Option (BitVec 400)) (margin : Nat) (s : State) :
    Host.Outcome State Fault Refusal :=
  let g := lane.val / 8
  let l := lane.val % 8
  if !s.laneServes g || !s.beatsRun || !s.laneEnabled g l || (s.lane lane.val).seen || (s.lane lane.val).waits.isSome then done s
  else
    let n := s.nui g
    let x := bits.map (fun b => lineCode n l (decide (s.laneObj g 7 = 1)) (bitOf (s.laneObj g 8) l) (b.toNat % 2 ^ n))
    let s1 := if s.rxMixed g then keyedFrame g l x s
      else acceptFrame g l (x.map (fun f => readFrame n f (framePayload n f))) s
    done (if bits.isSome then noteMargin g margin s1 else s1)

/-! The end of a beat. -/

/-- Frames that still wait are read; lanes of a group in UP without a frame count a sync error. -/
def missingFrames (g : Nat) (s : State) : State :=
  let s1 := if (groupLanes g).any (fun i => (s.lane i).waits.isSome) then readHalf g 1 (readHalf g 0 s) else s
  showDark g ((List.range 8).foldl (fun t l =>
    if decide ((t.group g).rx = .up) || decide ((t.group g).rx = .lock) then acceptFrame g l none t else t) s1)

/-- Bytes of the capture record of a beat: the lanes' payloads as delivered, on a worker's link with the flash in its place
(R154, R207, R230). -/
def State.recordOf (s : State) (g : Nat) : List Byte :=
  let n := s.nui g
  let ps := (List.range 8).map (fun l =>
    let p := (s.lane (8 * g + l)).payload
    let f := s.flashCycle g
    if s.isMerig g && !s.manager && decide (l = 0) && decide (f < 8) then
      let y := s.lane (8 * g + 7)
      withBits p (32 * f) 16 (if y.good then bitsAt y.raw 352 16 else 0)
    else p)
  ps.flatMap (fun p => toBytes ((n - 32) / 8) p)

/-- The capture enable of group `g`. -/
def State.captures (s : State) (g : Nat) : Bool := bitOf (s.obj 0x3200 0x10) g && decide (2 ≤ s.time.relStep)

/-- The rotation that begins will have records: capture is enabled and the release has begun (R154, R377). -/
def State.capturing (s : State) (g : Nat) : Bool := bitOf (s.obj 0x3200 0x10) g && s.released

/-- What a lane forgets when a beat ends. -/
def Lane.endBeat (x : Lane) : Lane :=
  { x with seen := false, good := false, idle := 0, sinceValid := (x.sinceValid + 1) % 256, waits := none, payload := 0, raw := 0 }

/-- One group's reception ends its beat: missing frames, dark words, loss, the record, and the counters of its link. -/
def groupEndBeat (g : Nat) (s : State) : State :=
  let s1 := judgeLoss g (missingFrames g s)
  let s2 := if s1.captures g then { s1 with lan := { s1.lan with records := s1.lan.records ++ [(g, s1.recordOf g)] } } else s1
  let s3 := (groupLanes g).foldl (fun t i => t.setLane i (t.lane i).endBeat) s2
  let x := s3.group g
  s3.setGroup g { x with
    rxKeyBeats := if x.rxKey.isSome || x.rxOld.isSome then x.rxKeyBeats + 1 else 0
    carIdle := if x.carOut = [] then 0 else x.carIdle + 1
    carBeatFlit := none, wander := false }

/-- The records of the beat before the one that ends are complete in the ring from this edge on (R155). -/
def writeRecords (s : State) : State :=
  s.lan.records.foldl (fun t r => captureRecord r.1 r.2 t) { s with lan := { s.lan with records := [] } }

/-- Reception at the edge that ends a beat. -/
def lanesEndBeat (s : State) : State := (List.range 32).foldl (fun t g => groupEndBeat g t) (writeRecords s)

/-! Training (R209 to R214). -/

/-- LANE_CLOCK_OK: the clock lane has been in tolerance for 64 beats: ADAPT or LOCK (R209). -/
def execLaneClockOk (g : Fin 32) (s : State) : Host.Outcome State Fault Refusal :=
  let x := s.group g.val
  if x.rx = .clock ∧ s.laneServes g.val = true then
    done (if x.adaptAsked && decide (x.claim = .adaptation) then enterRx g.val .adapt s
      else clearLanes g.val (enterRx g.val .lock s))
  else done s

/-- The combination with the most steps, the lowest of equals: PEAK × 4 + POLE (R214). -/
def bestCombo (steps : List Nat) : Nat :=
  ((List.range 64).foldl (fun b k => if steps.getD b 0 < steps.getD k 0 then k else b) 0)

/-- Equaliser words of a group with the combination that adaptation found on every enabled lane. -/
def adaptWords (enable words : Nat) (steps : List (List Nat)) : Nat :=
  packFn 16 8 (fun l =>
    let w := fieldAt 16 words l
    match steps[l]? with
    | some t => if bitOf enable l then withBits (withBits w 0 4 (bestCombo t / 4)) 4 2 (bestCombo t % 4) else w
    | none => w)

/-- LANE_ADAPT_DONE: the 64 combinations have been tried on every enabled lane; PEAK and POLE are written, and LOCK is entered
(R214). -/
def execLaneAdaptDone (g : Fin 32) (steps : List (List Nat)) (s : State) : Host.Outcome State Fault Refusal :=
  if (s.group g.val).rx = .adapt then
    let words := adaptWords (s.laneObj g.val 6) (s.laneObj g.val 9) steps
    done (clearLanes g.val (enterRx g.val .lock (s.setObj (0x3500 + g.val) 9 words)))
  else done s

/-- LANE_LOCK_TIMEOUT: 1,024 beats in LOCK without 8 valid frames on every enabled lane (R209, R210). -/
def execLaneLockTimeout (g : Fin 32) (s : State) : Host.Outcome State Fault Refusal :=
  if (s.group g.val).rx = .lock then done (trainFail g.val s) else done s

/-- Midpoint of the earliest and the latest arrival on the enabled lanes, and their distance (R211). -/
def arrivalsOf (enable : Nat) (arrival : List Int) : List Int :=
  ((List.range 8).filter (bitOf enable)).map (fun l => arrival.getD l 0)
def lowInt (l : List Int) : Int := l.foldl min (l.headD 0)
def highInt (l : List Int) : Int := l.foldl max (l.headD 0)

/-- Every lane's offset from the midpoint lies within ±64 UI. -/
def skewOk (l : List Int) : Bool := decide (highInt l - lowInt l ≤ 128)

/-- Trained offsets from the midpoint, in whole UI. -/
def deskewOf (enable : Nat) (arrival : List Int) : List Int :=
  let l := arrivalsOf enable arrival
  (List.range 8).map (fun k => if bitOf enable k then arrival.getD k 0 - (lowInt l + highInt l) / 2 else 0)

/-- The earliest choice of completion beat whose margin is at least 4 FAB cycles (R212). -/
def alignMargin (fpb margin : Nat) : Nat :=
  if 4 ≤ margin then margin else if fpb = 0 then margin else margin + (3 - margin + fpb) / fpb * fpb

/-- Beats by which the numbering in force exceeds the smallest numbering the measured frame allows. -/
def State.numberingAhead (s : State) (m : Deskew) : Option Nat :=
  let d := (s.time.beat + s.B - m.stampBeat % s.B) % s.B
  if m.lag ≤ d then some (d - m.lag) else none

/-- The conditions of step 2 of R233 at the numbering `k` beats above the smallest. -/
def State.latencyOk (s : State) (g : Nat) (m : Deskew) (k : Nat) : Bool :=
  let np := m.np + k * s.fabPerBeat
  decide (np ≤ s.lm) && (s.manager || decide (np + m.flashExtra ≤ s.lm + s.flashCycle g))

/-- The largest admitted numbering, `none` when the smallest is too large already (R233). -/
def State.bestNumbering (s : State) (g : Nat) (m : Deskew) : Option Nat :=
  ((List.range 256).filter (s.latencyOk g m)).getLast?

/-- The Merig numbering of a link, and whether this worker chooses it now (R233, R512). -/
def State.linkNumbering (s : State) (g : Nat) (m : Deskew) : Option Nat × Bool :=
  if s.manager || decide (s.trainedLinks 0 ≠ []) then
    ((s.numberingAhead m).filter (s.latencyOk g m), false)
  else (s.bestNumbering g m, true)

/-- Roles, worker numbers and serial numbers of the two ends agree (R32, R227); a worker has two links at most, and a third group in
MERIG mode fails its training (R31; DEDUCED, log 160). -/
def State.endsAgree (s : State) (g : Nat) (m : Deskew) : Bool :=
  decide (m.farManager ≠ s.manager) &&
  (if s.manager then
    decide (s.linkByte g < 32) && decide (m.farWnum = s.linkByte g) &&
      (decide (s.trainedLinks (s.linkByte g) = []) || decide ((s.worker (s.linkByte g)).serial = m.farSerial))
   else decide (m.farWnum < 32) && decide (((s.linkedLinks 0).erase g).length < 2) &&
     (decide (s.trainedLinks 0 = []) || decide (s.mer.wnum = m.farWnum)))

/-- The numbering a worker chose takes effect at the next beat edge (R233, R510). -/
def renumberFrom (m : Deskew) (k : Nat) (s : State) : State :=
  let b := m.stampBeat + m.lag + k + 1
  { s with mer := { s.mer with renumber := some (b % s.B, (m.stampRot + b / s.B) % 2 ^ 32) } }

/-- A link whose checks pass: latencies and pads reported, UP (R233). -/
def linkTrained (g : Nat) (m : Deskew) (k : Nat) (chooses : Bool) (s : State) : State :=
  let np := m.np + k * s.fabPerBeat
  let nf := np + m.flashExtra
  let x := s.group g
  let s1 := s.setGroup g { x with
    np := np, nf0 := nf, padP := s.lm - np, padF := s.lm + s.flashCycle g - nf, lag := m.lag + k
    farSerial := m.farSerial, farUp := false, wnumRx := m.farWnum % 32 }
  let s2 := if chooses then renumberFrom m k s1 else s1
  linkUp g (if s.manager then s.linkByte g else m.farWnum) m.farSerial (showDark g (toUp g s2))

/-- The enabled lanes take up the sequence of the alignment (R205, R211). -/
def alignLanes (g seq : Nat) (s : State) : State :=
  (List.range 8).foldl (fun t l =>
    if t.laneEnabled g l then
      t.setLane (8 * g + l) { t.lane (8 * g + l) with lastSeq := seq % 256, seqKnown := true, sinceValid := 0, bad := 0 }
    else t) s

/-- LANE_DESKEW_DONE: deskew and alignment complete, or fail the skew or Merig checks (R209, R211, R212, R227, R233, R512). A
manager waits on for ALIGNED = 1. -/
def execLaneDeskewDone (g : Fin 32) (measured : Deskew) (s : State) : Host.Outcome State Fault Refusal :=
  let x := s.group g.val
  let en := s.laneObj g.val 6
  if x.rx ≠ .deskew then done s
  else if !skewOk (arrivalsOf en measured.arrival) then done (trainFail g.val s)
  else
    let mt := alignMargin s.fabPerBeat measured.margin
    let s1 := alignLanes g.val measured.seq
      (s.setGroup g.val { x with deskew := deskewOf en measured.arrival, marginTrained := mt, margin := mt })
    if !s.isMerig g.val then done (showDark g.val (toUp g.val (s1.setGroup g.val { s1.group g.val with trained := true })))
    else if !s.endsAgree g.val measured then done (trainFail g.val s)
    else if s.manager && !measured.farAligned then done s
    else match s.linkNumbering g.val measured with
      | (some k, chooses) => done (linkTrained g.val measured k chooses s1)
      | (none, _) => done (trainFail g.val s)

/-- MERIG_ALIGN_TIMEOUT: 1,024 beats in a manager's DESKEW without a frame with ALIGNED = 1 (R233). -/
def execMerigAlignTimeout (g : Fin 32) (s : State) : Host.Outcome State Fault Refusal :=
  if (s.group g.val).rx = .deskew ∧ s.isMerig g.val = true ∧ s.manager = true then done (trainFail g.val s) else done s

/-- Automatic training asks for adaptation (R209). -/
def State.adaptsItself (s : State) (g : Nat) : Bool := decide (s.laneObj g 0xC = 1)

/-- A group leaves DEEP: its claim is free, and training begins (R209, R218). -/
def wakeDeep (g : Nat) (s : State) : State :=
  let x := s.group g
  toClock g (s.adaptsItself g) (s.setGroup g { x with claim := if x.claim = .deepSleep then .none else x.claim })

/-- LANE_AUTO_RETRAIN: the beat after the entry to LOST, with auto-retrain 1 (R209). -/
def execLaneAutoRetrain (g : Fin 32) (s : State) : Host.Outcome State Fault Refusal :=
  if (s.group g.val).rx = .lost ∧ s.laneObj g.val 0xB = 1 then done (toClock g.val (s.adaptsItself g.val) s) else done s

/-- LANE_SHALLOW_TIMEOUT: 64 beats pass in SHALLOW without valid frames while Active is in force (R209, R219). DESIGN CHOICE (log 201):
this entry to LOST sets the cause LOST, as the 4 beats of R208 do; the spec names none. -/
def execLaneShallowTimeout (g : Fin 32) (s : State) : Host.Outcome State Fault Refusal :=
  if (s.group g.val).rx = .shallow ∧ s.lanePower g.val = 0 then done (toLost g.val laneLost s) else done s

/-- A training request at the dictionary: 1 without adaptation, 2 with it; every state but DEEP goes to CLOCK (R209). -/
def trainingWrite (g value : Nat) (s : State) : Nat × State :=
  if value ≠ 1 ∧ value ≠ 2 then (abortRange, s)
  else if (s.group g).rx = .deep then (0, s)
  else (0, toClock g (decide (value = 2)) s)

/-- LANE_TRAINING_REQUEST (R209, R218). -/
def execLaneTrainingRequest (path : Path) (g : Fin 32) (value : BitVec 8) (s : State) : Host.Outcome State Fault Refusal :=
  done (onPath path (0x3500 + g.val) 0xA s (trainingWrite g.val value.toNat s))

/-! Lane power states and settings at a datum beat (R209, R219, R220, R222). -/

/-- The lanes of a loop send nothing more until it has locked again (R222, R402). -/
def silenceLoop (loop : Nat) (s : State) : State :=
  (List.range 4).foldl (fun t l =>
    t.setLane (4 * loop + l) { t.lane (4 * loop + l) with txWait := [], txFrame := none }) s

/-- The loops of a group stop and have to lock again; its transmitter starts anew. -/
def dropLoops (g : Nat) (s : State) : State :=
  let s1 := { s with clk := { s.clk with loops := BitVec.ofNat 64 (withBits s.clk.loops.toNat (2 * g) 2 0) } }
  silenceLoop (2 * g) (silenceLoop (2 * g + 1) (s1.setGroup g { s1.group g with idleToDatum := true, txSeq := 0 }))

/-- A group's effective power state changes at a datum beat. DEEP sends 4 frames and stops after two beats more, when they have left; it
takes the maintenance claim, by the device's request as by the group's
own (R218, R220; DEDUCED, log 158); Active wakes a group in DEEP whose loops are locked (R209). -/
def applyLanePower (g old new : Nat) (s : State) : State :=
  let x := s.group g
  if old = new then s
  else if new = 2 then
    let s1 := toDeep g s
    s1.setGroup g { s1.group g with sleepFrames := 6, claim := .deepSleep, adaptAsked := false }
  else if new = 1 then
    let s1 := if x.rx = .up then clearLanes g (enterRx g .shallow s) else s
    let s2 := s1.setGroup g { s1.group g with sleepFrames := if old = 2 then 0 else 4, wake := 0 }
    if old = 2 then dropLoops g s2 else s2
  else if old = 2 then dropLoops g (s.setGroup g { x with sleepFrames := 0 })
  else
    let s1 := s.setGroup g { x with sleepFrames := 0, wake := 0 }
    if decide (x.rx = .deep) && s.loopsLocked g && !s.laneInReset g then wakeDeep g s1 else s1

/-- A change to or from MERIG, of N_UI or of the lane enable: DEEP, and for N_UI the loops relock and the capture ring starts at
word 0 (R155, R222). -/
def applyLaneSettings (g : Nat) (oldMode oldNui oldEnable : Nat) (s : State) : State :=
  let mode := s.laneObj g 1
  let nui := s.laneObj g 2
  let merig := decide (oldMode ≠ mode) && (decide (oldMode = 1) || decide (mode = 1))
  if !merig && decide (oldNui = nui) && decide (oldEnable = s.laneObj g 6) then s
  else
    let s1 := clearLanes g (toDeep g s)
    let x := s1.group g
    let s2 := s1.setGroup g { (if merig then { x.clearCarriage with linked := false } else x) with
      adaptAsked := false, claim := if x.claim = .adaptation then .none else x.claim }
    if oldNui = nui then s2
    else
      let mine := s2.lan.records.filter (fun r => decide (r.1 = g))
      let s3 := mine.foldl (fun t r => captureRecord g r.2 t)
        { s2 with lan := { s2.lan with records := s2.lan.records.filter (fun r => decide (r.1 ≠ g)) } }
      dropLoops g (s3.setUnit (4096 + g) (clearPointers (s3.unit (4096 + g))))

/-- A capture ring that the map has on opens the bookmark of a rotation: the word address of the record of its datum beat; EMPTY
in DEEP, where nothing is captured (R155, R164, R411). -/
def openCaptureMark (g : Nat) (s : State) : State :=
  let u := 4096 + g
  let x := s.unit u
  let words := (s.nui g - 32) / 4
  let cap := recordsPerRing (s.nui g - 32) * words
  let ahead := (s.lan.records.filter (fun r => decide (r.1 = g))).length * words
  if s.unitMapCode u ≠ 0 ∨ s.pwr.state = 3 then s
  else s.setUnit u { x with
    marks := (⟨!s.capturing g || decide (s.pwr.state = 2), (x.tail + ahead) % cap, s.time.rot % 2 ^ 32⟩ :: x.marks).take 16, markOpen := false }

/-! Lane loops (R222, R402). -/

/-- LANE_LOOP_LOCKED: a loop locks; once both of a group have, a receive side in DEEP enters CLOCK while Active is in force (R209,
R222). -/
def execLaneLoopLocked (loop : Fin 64) (s : State) : Host.Outcome State Fault Refusal :=
  let g := loop.val / 2
  if !s.beatsRun || !s.l0Runs || decide (s.lanePower g = 2) then done s
  else
    let s1 := { s with clk := { s.clk with loops := s.clk.loops ||| BitVec.ofNat 64 (2 ^ loop.val) } }
    let x := s1.group g
    if s1.loopsLocked g && decide (x.rx = .deep) && decide (s.lanePower g = 0) && !s1.laneInReset g then done (wakeDeep g s1)
    else done s1

/-- LANE_LOOP_UNLOCK: a loop loses lock: LANE_UNLOCK and event 71 (R402). -/
def execLaneLoopUnlock (loop : Fin 64) (s : State) : Host.Outcome State Fault Refusal :=
  if s.clk.loops.getLsbD loop.val then
    done (raise 71 (silenceLoop loop.val { s with clk := { s.clk with
      loops := BitVec.ofNat 64 (setBit s.clk.loops.toNat loop.val false), causes := s.clk.causes ||| 0x10 } }))
  else done s

/-! The eye scan (R215 to R217). -/

/-- Steps of a range of the scan. -/
def scanSteps (lo hi : Int) (step : Nat) : Nat := if step = 0 then 0 else ((hi - lo).toNat) / step + 1

/-- Records a scan produces. -/
def Scan.total (c : Scan) : Nat :=
  scanSteps c.phMin c.phMax c.phStep * scanSteps c.vMin c.vMax c.vStep * popCount 8 c.lanes

/-- A request as a scan that stands at its first point (Table 8-8). -/
def scanOf (v : Nat) : Scan :=
  { lanes := byteAt v 0, phMin := signedOf 8 (byteAt v 1), phMax := signedOf 8 (byteAt v 2), phStep := byteAt v 3,
    vMin := signedOf 8 (byteAt v 4), vMax := signedOf 8 (byteAt v 5), vStep := byteAt v 6, dwell := byteAt v 7,
    toHold := decide (byteAt v 8 = 1), bank := bitsAt v 72 12, ph := signedOf 8 (byteAt v 1), v := signedOf 8 (byteAt v 4) }

/-- The request is admitted: no reserved encoding, ranges in order, at most 16,384 records. -/
def scanOk (v : Nat) : Bool :=
  let c := scanOf v
  decide (c.lanes ≠ 0) && decide (-32 ≤ c.phMin) && decide (c.phMax ≤ 32) && decide (c.phMin ≤ c.phMax) &&
  decide (1 ≤ c.phStep ∧ c.phStep ≤ 64) && decide (-63 ≤ c.vMin) && decide (c.vMax ≤ 63) && decide (c.vMin ≤ c.vMax) &&
  decide (1 ≤ c.vStep ∧ c.vStep ≤ 126) && decide (16 ≤ c.dwell ∧ c.dwell ≤ 40) && decide (byteAt v 8 ≤ 1) &&
  (decide (byteAt v 8 = 0) || decide (c.bank % 2 = 0)) && decide (c.total ≤ 16384)

/-- A refused request shows state 5 where no scan stands. -/
def scanRefused (g : Nat) (s : State) : State :=
  let x := s.group g
  if x.scanning then s else s.setGroup g { x with scan := { x.scan with state := 5 } }

/-- An eye scan request at the dictionary (R215, R218). -/
def eyeScanWrite (g : Nat) (data : List Byte) (s : State) : Nat × State :=
  let v := ofBytes data
  let x := s.group g
  if data.length ≠ 16 then (abortLength, s)
  else if !scanOk v then (abortRange, scanRefused g s)
  else if x.claim ≠ .none then (abortBusy, scanRefused g (laneClaimRefuse g 0 s))
  else (0, s.setGroup g { x with
    claim := .eyeScan, scan := { scanOf v with state := if x.rx = .shallow then 2 else 1 } })

/-- EYE_SCAN_REQUEST (R215). -/
def execEyeScanRequest (path : Path) (g : Fin 32) (data : List Byte) (s : State) : Host.Outcome State Fault Refusal :=
  done (onPath path (0x3500 + g.val) 0x17 s (eyeScanWrite g.val data s))

/-- A record (Table 8-9). -/
def scanRecord (c : Scan) (lane count : Nat) : Nat :=
  1 + lane * 2 + intBits 7 c.ph * 2 ^ 4 + intBits 7 c.v * 2 ^ 11 + c.dwell % 64 * 2 ^ 18 + min count (2 ^ 40 - 1) * 2 ^ 24

/-- The records of the point at which a scan stands. -/
def scanRecords (c : Scan) (counts : List Nat) : List Byte :=
  let lanes := whichBelow 8 (bitOf c.lanes)
  (List.range lanes.length).flatMap (fun k => toBytes 8 (scanRecord c (lanes.getD k 0) (counts.getD k 0)))

/-- The next point: voltage in the inner loop, phase in the outer one. Past the last point the phase lies above PH_MAX. -/
def Scan.next (c : Scan) : Scan :=
  if c.v + c.vStep ≤ c.vMax then { c with v := c.v + c.vStep } else { c with v := c.vMin, ph := c.ph + c.phStep }

/-- Every point is measured. -/
def Scan.measured (c : Scan) : Bool := decide (c.phMax < c.ph)

/-- NoC address of row `r` of a scan's destination: bank h from word 0, then bank h + 1 (R216). -/
def scanRow (bank r : Nat) : Nat := unitBase (bank + r / 1024) + 64 * (r % 1024)

/-- Whole rows, and after the last point the rest padded with 0, are posted as 64-byte writes (R216). -/
def postRows : Nat → Fin 32 → State → State
  | 0, _, s => s
  | k + 1, g, s =>
    let x := s.group g.val
    let c := x.scan
    if 64 ≤ c.outBuf.length ∨ (c.measured = true ∧ c.outBuf ≠ []) then
      postRows k g (postTxn ⟨.eyeScan g, c.outRow % 32⟩ (scanRow c.bank c.outRow) true 64 (ofBytes (c.outBuf.take 64))
        (s.setGroup g.val { x with scan := { c with outBuf := c.outBuf.drop 64, outRow := c.outRow + 1 } }))
    else s

/-- EYE_SCAN_POINT_DONE: the dwell of a point ends; `counts` are the disagreements on the selected lanes in ascending order
(R215 to R217). -/
def execEyeScanPointDone (g : Fin 32) (counts : List Nat) (s : State) : Host.Outcome State Fault Refusal :=
  let x := s.group g.val
  let c := x.scan
  if c.state ≠ 1 ∨ c.measured = true ∨ (c.toHold = true ∧ s.fenced (33 + g.val) = true) then done s
  else
    let recs := scanRecords c counts
    if c.toHold then
      done (postRows 3 g (s.setGroup g.val { x with scan := { c.next with outBuf := c.outBuf ++ recs } }))
    else
      let s1 := s.setGroup g.val { x with
        scan := { c.next with results := c.results ++ recs, written := c.written + popCount 8 c.lanes } }
      done (if c.next.measured then endScan g.val 3 s1 else s1)

/-- A record write that the lane group has posted and that is not yet past its first router reaches its unit of hold memory, and its answer
is taken; `none` while it waits there (R146, R148, R216). -/
def sendRecord (t : Txn) (s : State) : Option Status × State :=
  let s1 := holdRequest t.req t.addr 1 t.data 15 true false [] s
  match s1.noc.answers.find? (fun a => decide (a.req = t.req)) with
  | some a => (some a.status, closeTxn t.req { s1 with noc := { s1.noc with answers := dropAnswer t.req s1.noc.answers } })
  | none => (none, s1)

/-- The next record write of a scan to end: one whose answer has come back, or the oldest one posted, which the hold banks answer, or which
the network ends with `status` when that is not OK. -/
def takeScanWrite (g : Fin 32) (status : Status) (s : State) : Option Status × State :=
  let x := s.group g.val
  match x.scan.answers with
  | st :: rest => (some st, s.setGroup g.val { x with scan := { x.scan with answers := rest } })
  | [] =>
    match s.noc.txns.find? (fun t => decide (t.req.src = .eyeScan g) && !t.entered) with
    | some t => if status = .ok then sendRecord t s else (some status, closeTxn t.req s)
    | none => (none, s)

/-- A record write of a scan has ended: anything but OK ends the scan with state 6, the last write with state 3 (R216, R217). -/
def scanWriteEnded (g : Fin 32) (status : Status) (s : State) : State :=
  let x := s.group g.val
  let c := x.scan
  if x.scanning && c.toHold && decide (c.written < min c.total (8 * c.outRow)) then
    if status ≠ .ok then endScan g.val 6 s
    else
      let w := min c.total (c.written + 8)
      let s2 := s.setGroup g.val { x with scan := { c with written := w } }
      if c.measured && decide (w = c.total) then endScan g.val 3 s2 else s2
  else s

/-- EYE_SCAN_RECORD_WRITE_DONE: a record write into the hold banks ends (R216, R217). -/
def execEyeScanRecordWriteDone (g : Fin 32) (status : Status) (s : State) : Host.Outcome State Fault Refusal :=
  let r := takeScanWrite g status s
  done (match r.1 with
    | some st => scanWriteEnded g st r.2
    | none => r.2)

end Sys2Proof.Machine
end

