-- ==== Sys2Proof/Machine/LaneTx.lean ====
section
/-! DEFINITION. Transmission on the lane groups: which frame each lane sends for a beat, readout from the output rings, and the
fields of a Merig link (R169, R198 to R204, R219 to R222, R228 to R231, R236, R238, R241, R242, R244). -/

namespace Sys2Proof.Machine

/-! Which frame a group sends (Table 8-3, R222, R230, R241). -/

/-- What a group's data lanes carry in a beat. -/
inductive Sends where
  | nothing
  | idle (code : Nat)
  | data
  | readout
  | merig (hold : Bool)
  deriving DecidableEq, Repr

/-- The staged global release has not reached its output step, or the device is adrift. -/
def State.outputsHeld (s : State) : Bool := decide (s.time.relStep = 0) || s.adrift

/-- The first row of Table 8-3 that holds, readout taken to have its record. -/
def State.sends (s : State) (g : Nat) : Sends :=
  let x := s.group g
  if s.lanePower g = 2 then (if x.sleepFrames ≤ 2 then .nothing else .idle 2)
  else if s.lanePower g = 1 then (if x.sleepFrames = 0 then .nothing else .idle 1)
  else if s.laneInReset g || x.idleToDatum then .idle 0
  else if s.isMerig g then .merig s.outputsHeld
  else if s.outputsHeld then .idle 0
  else if s.laneMode g = 2 then .readout
  else .data

/-! Readout (R221). -/

/-- Words of one beat's readout record: P/4. -/
def readoutWords (n : Nat) : Nat := (n - 32) / 4

/-- Lane `l`'s part of a readout record, 32 bits at a time. -/
def readoutPairs (n record l : Nat) : List (BitVec 32) :=
  let part := bitsAt record (l * (n - 32)) (n - 32)
  (List.range ((n - 1) / 32)).map (fun j => BitVec.ofNat 32 (bitsAt part (32 * j) 32))

/-- The check class of a word of group `g`'s readout record (R140). -/
def ringEcc (ecc : List RingEcc) (g i : Nat) : EccClass :=
  match ecc.find? (fun e => decide (e.group.val = g) && decide (e.word = i)) with
  | some e => e.err
  | none => .clean

/-- A beat in which too few words wait: counted, and EMPTY where the ring is (R156, R221). -/
def readoutUnderrun (g : Nat) (s : State) : State :=
  let x := s.group g
  let s1 := if (s.unit (4128 + g)).fill = 0 then unitCauses (4128 + g) causeEmpty s else s
  raiseOnce (129 + 4 * g) (s1.setGroup g { x with
    underruns := satInc 32 x.underruns, causes := x.causes ||| laneUnderrun })

/-- In FAB cycle 0 of a beat a readout group takes its record from its output ring, which is on and has CONS 1, or counts an
underrun. DESIGN CHOICE (log 191): where the record reaches the row under test of a march, which R159 makes the feeder wait for, the ring
lacks no words: the group sends idle frames for the beat and counts no underrun. -/
def readoutTake (ecc : List RingEcc) (g : Nat) (s : State) : State :=
  if s.sends g ≠ .readout then s
  else
    let n := s.nui g
    let u := 4128 + g
    let need := readoutWords n
    if s.unitActive u && decide (s.unitMode u = 1) && decide (cfgProd (s.unitCfg u) = 1) && decide (need ≤ (s.unit u).fill) then
      if s.underTest u (s.unit u).head need then s else
      let t := takeWords u need (ringEcc ecc g) s
      let record := packFields 32 t.1
      (List.range 8).foldl (fun t l =>
        t.setLane (8 * g + l) { t.lane (8 * g + l) with txPairs := readoutPairs n record l, txDark := false }) t.2
    else readoutUnderrun g s

/-- Readout at the start of a beat. -/
def readoutAll (ecc : List RingEcc) (s : State) : State := (List.range 32).foldl (fun t g => readoutTake ecc g t) s

/-! The link block of a Merig group (Tables 9-1, 9-2, R229, R238). -/

/-- A flit and its 80 check bits: 8 for each of its ten 64-bit words. -/
def carriageField (f : Flit) : Nat :=
  let v := f.header.toNat + f.payload.toNat * 2 ^ 128
  v + packFn 8 10 (fun i => Config.secded (fieldAt 64 v i)) * 2 ^ 640

/-- The flit that a group's frame carries: the next one to send again, or a new one while fewer than 8 wait for an
acknowledgement. -/
def carriagePick (g : Nat) (s : State) : Option (Nat × Flit) × State :=
  let x := s.group g
  match x.carOut[x.carNext]? with
  | some (seq, n, f) =>
    (some (seq, f), { s with mer := { s.mer with resends := satInc 32 s.mer.resends } }.setGroup g
      { x with carOut := x.carOut.set x.carNext (seq, n + 1, f), carNext := x.carNext + 1 })
  | none =>
    match x.carWait with
    | [] => (none, s)
    | f :: fs =>
      if 8 ≤ x.carOut.length then (none, s)
      else
        let seq := (x.carSeqTx + 1) % 16
        (some (seq, f), s.setGroup g { x with
          carOut := x.carOut ++ [(seq, 1, f)], carNext := x.carOut.length + 1, carWait := fs, carSeqTx := seq,
          carIdle := if x.carOut = [] then 0 else x.carIdle })

/-- The group that carries a worker's relay words: its lowest trained link. -/
def State.relayLink (s : State) (w g : Nat) : Bool := (s.trainedLinks w).head? == some g

/-- A training is in progress (Table 8-5). -/
def Rx.training (r : Rx) : Bool :=
  match r with
  | .clock => true
  | .adapt => true
  | .lock => true
  | .deskew => true
  | _ => false

/-- The relay word of a group's frame, and the words left: during training the serial number (R236, R243, Table 9-2). -/
def relayPick (g : Nat) (s : State) : Nat × State :=
  if (s.group g).rx.training then (s.part.serial.toNat, s)
  else if s.manager then
    let w := s.linkByte g
    let counter := 5 * 2 ^ 60 + s.time.rot / 2 ^ 32 % 2 ^ 32
    if w < 32 ∧ s.relayLink w g = true then
      match (s.worker w).relayOut with
      | [] => (counter, s)
      | v :: vs => (v, s.setWorker w { s.worker w with relayOut := vs })
    else (counter, s)
  else
    match s.mer.relayOut with
    | [] => (0, s)
    | v :: vs => if s.relayLink 0 g then (v, { s with mer := { s.mer with relayOut := vs } }) else (0, s)

/-- The flash word of the frame: the one a manager took in this beat; 0 from a worker. -/
def State.flashSent (s : State) (g : Nat) : Nat :=
  if s.manager && decide (s.nextBeat ≤ (s.group g).flashUntil) then (s.group g).flash % 65536 else 0

/-- The control field (Table 9-2). -/
def State.controlField (s : State) (g : Nat) (car : Option (Nat × Flit)) (relay : Nat) : Nat :=
  let x := s.group g
  let seq := match car with
    | some c => c.1
    | none => 0
  s.time.rot % 2 ^ 32 + s.time.beat % 4096 * 2 ^ 32 + x.keepTx % 256 * 2 ^ 44 + relay % 2 ^ 64 * 2 ^ 52 +
  b2n (decide (x.cmdFrames ≠ 0)) * 2 ^ 116 + (if s.manager then s.linkByte g else x.wnumRx) % 32 * 2 ^ 120 +
  b2n s.manager * 2 ^ 125 + devCode s.dev * 2 ^ 126 + b2n s.coasting * 2 ^ 128 + b2n s.released * 2 ^ 129 +
  b2n s.adrift * 2 ^ 130 + b2n car.isSome * 2 ^ 131 + seq % 16 * 2 ^ 132 + x.carSeqRx % 16 * 2 ^ 136 +
  b2n x.carNak * 2 ^ 140 + b2n (s.manager || decide (x.rx = .up)) * 2 ^ 141 + s.flashSent g * 2 ^ 160

/-- The link block of a frame, and the state after it is formed. -/
def linkBlockOf (g : Nat) (s : State) : Nat × State :=
  let c := carriagePick g s
  let r := relayPick g c.2
  let car := match c.1 with
    | some f => carriageField f.2
    | none => 0
  let s1 := r.2
  let x := s1.group g
  (car % 2 ^ 720 + s1.controlField g c.1 r.1 * 2 ^ 720,
   s1.setGroup g { x with keepTx := (x.keepTx + 1) % 256, cmdFrames := x.cmdFrames - 1 })

/-- Payloads of the eight lanes of a Merig group: primitive words from the transmit ports, link block in words 16 to 22. -/
def State.merigPayloads (s : State) (g : Nat) (hold : Bool) (block : Nat) : List Nat :=
  (List.range 8).map (fun l =>
    let prim := if hold then 0 else packFields 32 (((s.lane (8 * g + l)).txPairs.take 8).map BitVec.toNat)
    prim + fieldAt 112 block l * 2 ^ 256)

/-- The keyed mix runs on a group's transmission (R244). -/
def State.txKeyOf (s : State) (g : Nat) : Option (BitVec 128) :=
  if bitOf (s.obj 0x3600 5) g then (s.group g).txKey else none

/-- The payloads as they are sent. -/
def State.mixedPayloads (s : State) (g : Nat) (ps : List Nat) : List Nat :=
  mixHalf (s.txKeyOf g) (s.group g).txKeyBeats 0 (ps.take 4) ++ mixHalf (s.txKeyOf g) (s.group g).txKeyBeats 1 (ps.drop 4)

/-! One lane's frame. -/

/-- A frame of a lane, or nothing, from the FAB cycle in which its first UI leaves the balls (R169). -/
def Lane.queueFrame (x : Lane) (due : Nat) (f : Option (BitVec 400)) : Lane :=
  { x with txWait := x.txWait ++ [(due, f)], txPairs := [], txDark := false }

/-- What has come to the balls of a lane by the FAB cycle `now`. -/
def Lane.atBalls (now : Nat) (x : Lane) : Lane :=
  match (x.txWait.filter (fun f => decide (f.1 ≤ now))).getLast? with
  | some f => { x with txFrame := f.2, txWait := x.txWait.filter (fun f => decide (now < f.1)) }
  | none => x

/-- The frames whose first UI leaves in the FAB cycle that begins are on the balls (R169). -/
def framesLeave (s : State) : State := { s with lan := { s.lan with lanes := mapTbl {} (Lane.atBalls s.time.tick) s.lan.lanes } }

/-- The transmitted clock lane of group `g` runs: not in deep sleep once its ENTER_DEEP frames are sent, nor while the loop that drives
it, that of lanes 0 to 3, is not locked (Table 8-3, R220, R222, R387). -/
def State.clockLaneRuns (s : State) (g : Nat) : Bool :=
  s.l0Runs && s.loopLocked g 0 && !(decide (s.lanePower g = 2) && decide ((s.group g).sleepFrames = 0))

/-- A lane with its frame of the beat: only while it is enabled and its loop is locked. -/
def putFrame (g l sync control payload coded : Nat) (s : State) : State :=
  let i := 8 * g + l
  let n := s.nui g
  let frame := if s.laneEnabled g l && s.loopLocked g (l / 4) then
      some (BitVec.ofNat 400 (lineCode n l (decide (s.laneObj g 7 = 1)) (bitOf (s.laneObj g 8) (8 + l))
        (buildFrame n sync control payload coded)))
    else none
  s.setLane i ((s.lane i).queueFrame (s.beatStart + 20) frame)

/-- A lane that sends nothing. -/
def putNothing (i : Nat) (s : State) : State := s.setLane i ((s.lane i).queueFrame (s.beatStart + 20) none)

/-- Every lane of a group sends nothing. -/
def sendNothing (g : Nat) (s : State) : State := (groupLanes g).foldl (fun t i => putNothing i t) s

/-- Control bits of a group's frame. -/
def State.txControl (s : State) (g : Nat) (readout dark : Bool) : Nat :=
  frameControl readout (decide (s.time.beat = 0)) s.coasting dark (s.group g).txSeq

/-- Every lane of a group sends an idle frame with a code, its payload under the keyed mix on a Merig link (R202, R244). -/
def sendIdle (g code : Nat) (s : State) : State :=
  let coded := if s.isMerig g then s.mixedPayloads g (List.replicate 8 code) else List.replicate 8 code
  (List.range 8).foldl (fun t l => putFrame g l syncIdle (s.txControl g false false) code (coded.getD l code) t) s

/-- Data frames from the transmit port sinks: DARK where the home station was in reset or had no context (R199, R204). -/
def sendData (g : Nat) (s : State) : State :=
  (List.range 8).foldl (fun t l =>
    let ln := t.lane (8 * g + l)
    let p := packFields 32 (ln.txPairs.map BitVec.toNat) % 2 ^ (16 * wordsOf (s.nui g))
    putFrame g l syncData (s.txControl g false (ln.txDark || ln.txPairs.isEmpty)) p p t) s

/-- Readout frames from the record taken in FAB cycle 0, or idle frames (R221). -/
def sendReadout (g : Nat) (s : State) : State :=
  if (s.lane (8 * g)).txPairs = [] then sendIdle g 0 s
  else (List.range 8).foldl (fun t l =>
    let p := packFields 32 ((t.lane (8 * g + l)).txPairs.map BitVec.toNat) % 2 ^ (s.nui g - 32)
    putFrame g l syncData (s.txControl g true false) p p t) s

/-- Frames of a Merig link: hold frames carry a primitive field of 0 and DARK (R230). -/
def sendMerig (g : Nat) (hold : Bool) (s : State) : State :=
  let b := linkBlockOf g s
  let s1 := b.2
  let ps := s1.merigPayloads g hold b.1
  let coded := s1.mixedPayloads g ps
  (List.range 8).foldl (fun t l =>
    let ln := t.lane (8 * g + l)
    putFrame g l syncData (s1.txControl g false (hold || ln.txDark || ln.txPairs.isEmpty)) (ps.getD l 0) (coded.getD l 0) t) s1

/-- After a group's frames: SEQ and the key's beat counter advance; a sleep entry's frames run out, and the loops of a deep sleep stop
when the last of its 4 frames has left the balls, two beats after it was formed (R169, R204, R220, R244). -/
def afterSending (g : Nat) (sent : Bool) (s : State) : State :=
  let x := s.group g
  let left := x.sleepFrames - 1
  let s1 := s.setGroup g { x with
    txSeq := if sent && (s.loopLocked g 0 || s.loopLocked g 1) then (x.txSeq + 1) % 256 else x.txSeq
    txKeyBeats := if x.txKey.isSome then x.txKeyBeats + 1 else 0
    sleepFrames := left }
  if x.sleepFrames = 1 ∧ s.lanePower g = 2 then dropLoops g s1 else s1

/-- A group transmits the frames of the beat that ends (Table 8-3). -/
def groupTransmit (g : Nat) (s : State) : State :=
  match s.sends g with
  | .nothing => afterSending g false (sendNothing g s)
  | .idle c => afterSending g true (sendIdle g c s)
  | .data => afterSending g true (sendData g s)
  | .readout => afterSending g true (sendReadout g s)
  | .merig hold => afterSending g true (sendMerig g hold s)

/-- Transmission of the beat in progress: its frames are formed before the first of them leaves, 20 FAB cycles after its cycle 0, or at
its end where that comes first. -/
def lanesTransmit (s : State) : State := (List.range 32).foldl (fun t g => groupTransmit g t) s

/-- At a datum beat the groups whose loops have all locked send the frames of Table 8-3 again (R222). -/
def resumeSending (s : State) : State :=
  (List.range 32).foldl (fun t g =>
    let x := t.group g
    if x.idleToDatum && t.loopsLocked g then t.setGroup g { x with idleToDatum := false } else t) s

end Sys2Proof.Machine
end

