-- ==== Sys2Proof/Machine/Merig.lean ====
section
/-! DEFINITION. Merig commands: the carriage, remote reset, the dictionary relay as its manager sees it, and chain loads (R238,
R239, R242, R243, R246). -/

namespace Sys2Proof.Machine

/-! The carriage (R238, R239). -/

/-- Address in the worker's own map that an offset into one of its windows reaches (R239). -/
def workerAddress (a : Nat) : Nat :=
  if a < 0xC00000000000 then (a - 0x800000000000) % 0x020000000000
  else
    let o := (a - 0xC00000000000) % 0x010000000000
    0x040000000000 + o / 2 ^ 38 * 0x010000000000 + o % 2 ^ 38

/-- The lowest tag of a carriage's 64 that no transaction holds. -/
def State.carriageTag (s : State) (g : Fin 32) : Option Nat :=
  (List.range 64).find? (fun t => !s.isOpen ⟨.carriage g, t⟩)

/-- A request from the manager as it enters the worker's mesh: own SRC and TAG, worker address, DST decoded from it. -/
def State.carriageRequest (s : State) (g : Fin 32) (tag : Nat) (f : Flit) : Flit :=
  let a := workerAddress f.addr
  let src := lanePort g.val
  let dst := (s.placePort (s.place a)).getD src
  let h := withBits (withBits (withBits f.header.toNat 106 14 tag) 96 10 (src.1 * 16 + src.2)) 86 10 (dst.1 * 16 + dst.2)
  { f with header := BitVec.ofNat 128 (withBits h 38 48 a) }

/-- The transaction of a carriage keeps the request's header, for the response. -/
def keepHeader (r : ReqId) (header : Nat) (s : State) : State :=
  { s with noc := { s.noc with txns := s.noc.txns.map (fun t => if t.req = r then { t with data := header } else t) } }

/-- The transaction waits for an answer of the worker from the address. -/
def State.awaits (s : State) (q : ReqId) (a : Nat) : Bool :=
  s.noc.txns.any (fun t => decide (t.req = q) && decide (t.addr = a)) && !s.noc.answers.any (fun x => decide (x.req = q))

/-- A response of a worker: the answer to the transaction that waits for it; that of one which has ended will be discarded as late (R258),
that of an access of a move is absorbed (R269). -/
def workerAnswers (q : ReqId) (f : Flit) (s : State) : State :=
  if s.noc.absorb.contains (q, f.addr) then { s with noc := { s.noc with absorb := s.noc.absorb.erase (q, f.addr) } }
  else if s.noc.orphans.contains (q, f.addr) || !s.awaits q f.addr then
    answer q.stale (statusOf f.status) f.payload { s with noc := { s.noc with orphans := s.noc.orphans.erase (q, f.addr) } }
  else answer q (statusOf f.status) f.payload s

/-- A flit accepted in order: a response goes on to its requester, a request enters the worker's mesh. -/
def carriageAccept (g : Fin 32) (f : Flit) (s : State) : State :=
  if f.isResponse then
    match f.req with
    | some q => workerAnswers q f s
    | none => s
  else if f.isRequest && !s.manager then
    match s.carriageTag g with
    | some tag =>
      let p := lanePort g.val
      keepHeader ⟨.carriage g, tag⟩ f.header.toNat (acceptFlit p.1 p.2 0 (s.carriageRequest g tag f) .clean false s)
    | none => s
  else s

/-- Room for a flit of the carriage: a request needs a tag and a place in the buffer of the group's router input, and enters no mesh while
the group's domain is fenced (R256, R265). -/
def State.carriageRoom (s : State) (g : Fin 32) (f : Flit) : Bool :=
  !f.isRequest || ((s.carriageTag g).isSome && !s.fenced (33 + g.val) && !s.inputFull (lanePort g.val).1 (lanePort g.val).2 f)

/-- A corrected flit counts with the router corrections (R238). -/
def carriageCorrected (g : Nat) (s : State) : State :=
  let r := (lanePort g).1
  raiseOnce 1280 { s with noc := { s.noc with
    corrections := Tbl.upd 0 s.noc.corrections r (satInc 32 (Tbl.at 0 s.noc.corrections r)) } }

/-- CARRIAGE_FLIT_RECEIVED: the flit of the beat's good frame is corrected, accepted in order of CAR_SEQ, and acknowledged, or
CAR_NAK is set (R238). -/
def execCarriageFlitReceived (g : Fin 32) (err : FlitErr) (s : State) : Host.Outcome State Fault Refusal :=
  let x := s.group g.val
  match x.carBeatFlit with
  | none => done s
  | some (seq, f) =>
    let taken := s.setGroup g.val { x with carBeatFlit := none }
    if err = .header ∨ err = .payload then
      done (taken.setGroup g.val { taken.group g.val with carNak := true })
    else
      let s1 := if err = .single then carriageCorrected g.val taken else taken
      if (x.carKnown = false ∨ seq = (x.carSeqRx + 1) % 16) ∧ s1.carriageRoom g f = true then
        done (carriageAccept g f
          (s1.setGroup g.val { s1.group g.val with carSeqRx := seq, carNak := false, carKnown := true }))
      else done s1

/-- The transaction of a flit that is dropped ends with DATAERR; of one that has ended no answer will come. -/
def dropFlit (f : Flit) (s : State) : State :=
  match f.req with
  | some q =>
    if !f.isRequest then s
    else if s.noc.absorb.contains (q, f.addr) then { s with noc := { s.noc with absorb := s.noc.absorb.erase (q, f.addr) } }
    else if s.noc.orphans.contains (q, f.addr) then { s with noc := { s.noc with orphans := s.noc.orphans.erase (q, f.addr) } }
    else endTxn q .dataerr 0 s
  | none => s

/-- The flits after a dropped one take the sequence numbers from its own on. DESIGN CHOICE (log 193): R238 does not say how CAR_SEQ goes on
after a drop. -/
def renumberFlits (seq : Nat) : List (Nat × Nat × Flit) → List (Nat × Nat × Flit)
  | [] => []
  | (_, n, f) :: rest => (seq, n, f) :: renumberFlits ((seq + 1) % 16) rest

/-- CARRIAGE_RESEND_TIMEOUT: after CAR_NAK or 16 beats without an acknowledgement the sender starts again with the oldest flit;
one sent 4 times is dropped, event 1155 + 4w (R238). -/
def execCarriageResendTimeout (g : Fin 32) (s : State) : Host.Outcome State Fault Refusal :=
  let x := s.group g.val
  match x.carOut with
  | [] => done s
  | (seq, n, f) :: rest =>
    if x.carIdle < 16 then done s
    else if n < 4 then done (s.setGroup g.val { x with carNext := 0, carIdle := 0 })
    else
      let s1 := s.setGroup g.val { x with
        carOut := renumberFlits seq rest, carNext := 0, carIdle := 0, carSeqTx := (x.carSeqTx + 15) % 16 }
      done (raise (1155 + 4 * s.linkWorker g.val)
        (dropFlit f { s1 with mer := { s1.mer with dropped := satInc 32 s1.mer.dropped } }))

/-! Remote reset (R242). -/

/-- REMOTE_RESET_COMMAND: at the beat boundary after CMD = 1 came in a good frame, a worker performs a warm reset, or ignores it
with event 1155 + 4w. `multi` says that another source arose in the same AON cycle (R428). -/
def execRemoteResetCommand (multi : Bool) (s : State) : Host.Outcome State Fault Refusal :=
  if s.manager || !s.mer.cmdDue then done s
  else
    let s1 := { s with mer := { s.mer with cmdDue := false } }
    if s.obj 0x3600 6 = 1 then done (resetSource 6 true multi false 0 s1)
    else done (raise (1155 + 4 * (s.mer.wnum % 32)) s1)

/-- A worker is LIVE or DEGRADED. -/
def State.workerServes (s : State) (w : Nat) : Bool := decide ((s.worker w).state = 2) || decide ((s.worker w).state = 3)

/-- A remote reset order at the dictionary. A loss of every link is taken for that reset's within the 8 beats of its frames and 64 more, for
the way there and back and the loss (DESIGN CHOICE, log 181): after that the worker has ignored the order. -/
def remoteResetWrite (w value : Nat) (s : State) : Nat × State :=
  if !s.manager then (abortNoIndex, s)
  else if !s.workerServes w then (abortState, s)
  else if value ≠ 1 then (abortRange, s)
  else
    let s1 := s.setWorker w { s.worker w with resetSent := true, resetUntil := s.time.tick + 72 * s.fabPerBeat }
    (0, (s.groupsOfWorker w).foldl (fun t g => t.setGroup g { t.group g with cmdFrames := 8 }) s1)

/-- REMOTE_RESET_ORDER: CMD = 1 in 8 consecutive frames on every link of w, or a refusal (R242). -/
def execRemoteResetOrder (path : Path) (w : Fin 32) (value : BitVec 8) (s : State) : Host.Outcome State Fault Refusal :=
  done (onPath path (0x5000 + w.val) 7 s (remoteResetWrite w.val value.toNat s))

/-! The dictionary relay on the manager (R243, Table 9-5). -/

/-- The words of a request: header word, and the data of a write. -/
def relayWords (txn target : Nat) (write : Option (List Byte)) : List Nat :=
  let idx := bitsAt target 16 16
  let sub := bitsAt target 8 8
  let data := write.getD []
  (2 ^ 60 + txn * 2 ^ 56 + idx * 2 ^ 40 + sub * 2 ^ 32 + b2n write.isSome * 2 ^ 31 + data.length % 2 ^ 24)
    :: relayDataWords txn data

/-- A host access to relay data: the code it is answered at once with, `none` while the transfer runs. -/
def relayStart (p : Path) (w : Nat) (write : Option (List Byte)) (s : State) : Option Nat × State :=
  let x := s.worker w
  if !s.manager then (some abortNoIndex, s)
  else if !s.workerServes w then
    (some abortState, raise (1155 + 4 * w) (s.setWorker w { x with relayAbort := abortState }))
  else if x.relayOpen.isSome then (some abortBusy, s)
  else
    let txn := (x.relayTxn + 1) % 16
    (none, s.setWorker w { x with
      relayOpen := some (p, write.isSome), relayTxn := txn, relayOut := x.relayOut ++ relayWords txn x.target write })

/-- RELAY_TRANSFER: a read or write of relay data starts a transfer to worker w, or is aborted at once (R243). -/
def execRelayTransfer (path : Path) (w : Fin 32) (write : Option (List Byte)) (s : State) : Host.Outcome State Fault Refusal :=
  if !s.served then done s
  else match relayStart path w.val write s with
    | (some c, t) => done (answered path (0x5000 + w.val) 0x11 (c, t))
    | (none, t) => done t

/-- The response to worker `w`'s transfer, with abort code `c` or the bytes read (R243, R248). -/
def relayResponse (w c : Nat) (data : List Byte) (s : State) : State :=
  let x := s.worker w
  match x.relayOpen with
  | none => s
  | some (p, write) =>
    let got := if c = 0 && !write then data else x.relayData
    let s1 := s.setWorker w { x with relayOpen := none, relayData := got, relayAbort := if c = 0 then x.relayAbort else c }
    raiseIf (decide (c ≠ 0)) (1155 + 4 * w)
      (endRelayWait w c data (reply p.code (0x5000 + w) 0x11 c 0 (if c = 0 && !write then data else []) s1))

/-! Chain loads (R246, Table 9-6). -/

/-- Byte `o` of the image that a chain load broadcasts on every wide port at once: it is read from the manager's DRAM, and is 0 where
nothing is mapped or a read delivers no data (R246, R280). -/
def State.wideByte (s : State) (o : Nat) : Byte :=
  let a := s.mer.chainAddr + o
  match s.place a with
  | .dram c off => BitVec.ofNat 8 (byteAt (s.subOutcome c (off / 32 * 32) (a / 32 * 32) .clean).data.toNat (a % 32))
  | _ => 0

/-- The test-port master pins are driven: from SERVICE on a manager, never on a worker; else they are at high impedance (R31, Table
18-2). -/
def State.masterPortDriven (s : State) : Bool := s.manager && decide (s.rst.phase = .service)

/-- What a wide port c sends while a chain load runs: the image, to those of workers 8c to 8c + 7 that it selects (R245, R246). -/
def State.wideImage (s : State) (c : Nat) : List Byte :=
  if s.masterPortDriven && s.mer.chainRunning && decide (bitsAt s.mer.chainWorkers (8 * c) 8 ≠ 0)
  then (List.range s.mer.chainLength).map s.wideByte else []

/-- A chain load request at the dictionary; `answering` are the workers whose IDCODE answers. -/
def chainLoadWrite (data : List Byte) (answering : Nat) (s : State) : Nat × State :=
  let v := ofBytes data
  let workers := v % 2 ^ 32
  if data.length ≠ 16 then (abortLength, s)
  else if workers = 0 ∨ bitsAt v 64 64 % 64 ≠ 0 then (abortRange, s)
  else if s.mer.chainRunning then (abortBusy, s)
  else if workers &&& answering ≠ workers ∨ s.manager = false then (abortOther, s)
  else (0, { s with mer := { s.mer with
    chainRunning := true, chainWorkers := workers, chainLength := bitsAt v 32 32, chainAddr := bitsAt v 64 64
    chain := (List.range 32).map (fun w => if bitOf workers w then 1 else s.mer.chain.getD w 0) } })

/-- CHAIN_LOAD_REQUEST (R246). -/
def execChainLoadRequest (path : Path) (data : List Byte) (answering : BitVec 32) (s : State) :
    Host.Outcome State Fault Refusal :=
  done (onPath path 0x3600 0x11 s (chainLoadWrite data answering.toNat s))

/-- CHAIN_LOAD_DONE: the broadcast ends, and each selected worker's result is reported; one without a result did not respond
(R246). -/
def execChainLoadDone (results : List (Fin 32 × Fin 7)) (s : State) : Host.Outcome State Fault Refusal :=
  if s.mer.chainRunning then
    let res := fun (w : Nat) => ((results.find? (fun r => decide (r.1.val = w))).map (fun r => r.2.val)).getD 6
    done { s with mer := { s.mer with
      chainRunning := false, chainWorkers := 0
      chain := (List.range 32).map (fun w => if bitOf s.mer.chainWorkers w then res w else s.mer.chain.getD w 0) } }
  else done s

end Sys2Proof.Machine
end

