-- ==== Sys2Proof/Machine/Pins.lean ====
section
/-! DEFINITION. Pins, GPIO and pin watches: mux words and functions, what each ball carries, BUSY and BEACON, internal inputs,
consoles, watches and bank rails (R443 to R459). -/

namespace Sys2Proof.Machine

/-! Mux words (R444, R445, Tables 18-3 and 18-4). -/

/-- Fields of a mux word. -/
def muxFunc (w : Nat) : Nat := w % 16
def muxSel (w : Nat) : Nat := bitsAt w 5 5
def muxInvert (w : Nat) : Bool := bitOf w 10
def muxPull (w : Nat) : Nat := bitsAt w 11 2
def muxSleep (w : Nat) : Nat := bitsAt w 13 3

/-- Greatest SEL of a function (Table 18-4). -/
def selMax (f : Nat) : Nat :=
  if f = 4 ∨ f = 6 then 31 else if f = 5 ∨ f = 7 then 2 else if f = 8 then 7 else 0

/-- A mux word is valid: no reserved field or encoding (R445). -/
def muxOk (w : Nat) : Bool :=
  decide (muxFunc w ≤ 10) && !bitOf w 4 && decide (muxSel w ≤ selMax (muxFunc w)) && decide (muxPull w ≤ 2) &&
    decide (muxSleep w ≤ 5)

/-- Mux word in force of pin `p`. -/
def State.mux (s : State) (p : Nat) : Nat := fieldAt 16 (s.obj 0x2400 1) p

/-- Mux word that input users of pin `p` follow: the one of before a change, through the datum beat of the change (R448). -/
def State.muxIn (s : State) (p : Nat) : Nat := if s.pins.changing then fieldAt 16 s.pins.muxBefore p else s.mux p

/-- The bank of a pin is present (R443). -/
def State.bankPresentPin (s : State) (p : Nat) : Bool := decide (s.pins.classes.getD (p / 16) 0 ≠ 0)

/-- 96 bits, one per pin. -/
def pinBits (f : Nat → Bool) : BitVec 96 := BitVec.ofNat 96 (natOfFn 96 f)

/-- Pull that a pin applies: 0 none, 1 up, 2 down; asleep that of its SLEEP state (Table 18-3, R448, R456). -/
def State.pinPull (s : State) (p : Nat) : Nat :=
  let w := s.muxIn p
  if s.pins.sleeping = true ∧ muxFunc w ≠ 9 then (if muxSleep (s.mux p) = 4 then 1 else if muxSleep (s.mux p) = 5 then 2 else 0)
  else muxPull w

/-- Level of a ball that the device does not drive: what the outside leaves there, or the pull of a ball that nothing drives. -/
def State.restLevel (s : State) (p : Nat) : Bool :=
  if s.pins.floating.getLsbD p = true ∧ s.pinPull p ≠ 0 then decide (s.pinPull p = 1) else s.pins.ext.getLsbD p

/-- Level of a ball: what the device drives, or else its level at rest; 0 in an absent bank (R443, R446). -/
def State.ball (s : State) (p : Nat) : Bool :=
  s.bankPresentPin p && (if s.pins.driven.getLsbD p then s.pins.drive.getLsbD p else s.restLevel p)

/-- Level that an input user of a pin sees, after INVERT (Table 18-3). -/
def State.inputLevel (s : State) (p : Nat) : Bool := s.bankPresentPin p && (s.ball p != muxInvert (s.muxIn p))

/-! Internal inputs (R449, Table 18-5). -/

/-- The internal input that a mux word feeds: 0 datum marker, 1 to 4 console receive, 5 to 7 PMBus mirror. -/
def muxInput (w : Nat) : Option Nat :=
  if muxFunc w = 3 then some 0
  else if muxFunc w = 8 ∧ 4 ≤ muxSel w then some (1 + muxSel w % 4)
  else if muxFunc w = 7 then some (5 + muxSel w)
  else none

/-- Pins with present banks whose words, taken from `mux`, feed input `i`. -/
def State.feeders (s : State) (mux : Nat) (i : Nat) : List Nat :=
  whichBelow 96 (fun p => s.bankPresentPin p && (muxInput (fieldAt 16 mux p) == some i))

/-- An internal input has its pin; through the datum beat of a change, an input that another pin newly feeds reads its default
(R448, R449). -/
def State.inputMapped (s : State) (i : Nat) : Bool :=
  decide ((s.feeders (s.obj 0x2400 1) i).length = 1) && !bitOf s.pins.conflicts i &&
    (!s.pins.changing || decide (s.feeders s.pins.muxBefore i = s.feeders (s.obj 0x2400 1) i))

/-- Inputs that two or more pins feed under a set of mux words. -/
def State.conflictsOf (s : State) (mux : Nat) : Nat := natOfFn 8 (fun i => decide (2 ≤ (s.feeders mux i).length))

/-! BUSY and BEACON (R452, R453). -/

/-- A BUSY pin is asserted. -/
def State.busy (s : State) : Bool :=
  decide (s.rst.phase ≠ .service) || decide (s.time.relStep = 0) || s.pins.busyLatch ||
    (if s.manager then s.anyDark else s.adrift)

/-- Level of the BEACON ball, two FAB cycles behind its register (R447, R453). -/
def State.beaconBall (s : State) : Bool :=
  match s.pins.pipe with
  | [_, r] => r.2
  | _ => false

/-- BEACON at a datum beat. -/
def beaconDatum (s : State) : State :=
  { s with pins := { s.pins with
      beacon := if s.time.relStep = 0 ∨ s.pins.stopLatch = true ∨ s.rst.phase ≠ .service then false else !s.pins.beacon } }

/-! What the balls carry (R446 to R451, R456). -/

/-- Root periods per second: a beat is M of them (R35, R399). -/
def State.rootHz (s : State) : Nat := s.rootKhz * 1000

/-- Bauds of the console rate. -/
def State.baud (s : State) : Nat := [115200, 921600, 3000000].getD (s.obj 0x2400 0x20) 115200

/-- Levels of SCL and SDA that the PMBus master drives; a released line is high (R422). -/
def State.pmLevels (s : State) : Bool × Bool := s.pins.pmWave.headD (true, true)

/-- Level of core `k`'s transmit line: start bit, 8 data bits, stop bit of the byte in progress; idle 1 (R455). -/
def State.consoleLine (s : State) (k : Nat) : Bool :=
  match s.pins.conTx.getD k [] with
  | [] => true
  | b :: _ =>
    let i := s.pins.conAcc.getD k 0 / s.rootHz
    if i = 0 then false else if i ≤ 8 then b.getLsbD (i - 1) else true

/-- Value that an output function of 4, 5, 6 or 8 loads into its pin-side register in the FAB cycle in progress (R447, R451). -/
def State.pinValue (s : State) (w : Nat) : Bool :=
  let sel := muxSel w
  match muxFunc w with
  | 4 => let x := Tbl.at {} s.lan.groups sel
         decide (s.time.tick < x.flashUntil) && bitOf x.flash 0
  | 5 => if sel = 0 then decide (s.time.beat = 0)
         else if sel = 1 then decide (s.time.cyc < s.M / 16)
         else decide (s.time.rot % 2 = 1)
  | 6 => s.probeRegister sel && decide (probeRoute (s.probeSelection sel) % 2 = 1)
  | 8 => s.consoleLine (sel % 4)
  | _ => false

/-- The output registers of every pin in the FAB cycle in progress. -/
def State.pinRegisters (s : State) : BitVec 96 := pinBits (fun p => s.pinValue (s.mux p))

/-- An open-drain stage: drives low when its value is 0. -/
def openDrain (v : Bool) : Bool × Bool := (false, !v)

/-- Drive of a pin by its function: level, and whether the ball is driven. -/
def State.funcDrive (s : State) (p : Nat) : Bool × Bool :=
  let w := s.mux p
  let inv := muxInvert w
  let reg := (match s.pins.pipe with
    | [_, r] => r.1.getLsbD p
    | _ => false) != inv
  match muxFunc w with
  | 1 => (s.pins.outLevels.getLsbD p != inv, true)
  | 2 => openDrain (s.pins.outLevels.getLsbD p != inv)
  | 4 => (reg, true)
  | 5 => (reg, true)
  | 6 => (reg, true)
  | 7 => if decide (muxSel w < 2) && s.inputMapped (5 + muxSel w) then
      openDrain ((if muxSel w = 0 then s.pmLevels.1 else s.pmLevels.2) != inv) else (false, false)
  | 8 => (reg, decide (muxSel w < 4))
  | 9 => openDrain (s.pins.busyShown != inv)
  | _ => (false, false)

/-- Drive of a pin asleep (R456). -/
def State.sleepDrive (s : State) (p : Nat) : Bool × Bool :=
  if muxFunc (s.mux p) = 9 then (false, false)
  else match muxSleep (s.mux p) with
    | 0 => (s.pins.held.getLsbD p, s.pins.heldDriven.getLsbD p)
    | 1 => (false, true)
    | 2 => (true, true)
    | _ => (false, false)

/-- Drive of a pin under a boundary-scan instruction (R362): floated by HIGHZ, from the boundary-scan register by EXTEST and
CLAMP. -/
def State.scanDrive (s : State) (p : Nat) : Bool × Bool :=
  if s.cfg.tap = 4 then (false, false)
  else (bitOf (Config.boundaryScan s.cfg.boundary) p, bitOf (Config.boundaryScan s.cfg.boundary) (96 + p))

/-- Drive of a pin: absent bank, boundary scan, sleep, the level kept through a change, release (which a BUSY pin does not wait for, R452),
then its function. -/
def State.pinDrive (s : State) (p : Nat) : Bool × Bool :=
  if !s.bankPresentPin p then (false, false)
  else if s.cfg.tap = 0 ∨ s.cfg.tap = 3 ∨ s.cfg.tap = 4 then s.scanDrive p
  else if s.pins.sleeping then s.sleepDrive p
  else if s.pins.frozen.getLsbD p then (s.pins.lastDrive.getLsbD p, s.pins.lastDriven.getLsbD p)
  else if s.time.relStep = 0 ∧ muxFunc (s.mux p) ≠ 9 then (false, false)
  else s.funcDrive p

/-- Every ball takes what its pin drives. -/
def drivePins (s : State) : State :=
  { s with pins := { s.pins with
      drive := pinBits (fun p => (s.pinDrive p).1 && (s.pinDrive p).2), driven := pinBits (fun p => (s.pinDrive p).2) } }

/-- Every pin takes its SLEEP state: Hold keeps what it drove in the last FAB cycle before, or drives now while no FAB cycle runs
(R456). -/
def sleepPins (s : State) : State :=
  if s.pins.sleeping then s
  else
    let run := s.beatsRun
    drivePins { s with pins := { s.pins with
      sleeping := true, held := if run then s.pins.lastDrive else s.pins.drive
      heldDriven := if run then s.pins.lastDriven else s.pins.driven } }

/-- Every pin's function drives again after the datum beat in progress (R456). -/
def wakePins (s : State) : State :=
  if s.pins.sleeping then { s with pins := { s.pins with sleeping := false, frozen := BitVec.allOnes 96 } } else s

/-! Datum beats and beats (R448, R449, R458, R459). -/

/-- Pins whose output changes with a new set of mux words: every field but SLEEP and the reserved bit. -/
def muxChanged (old new : Nat) : BitVec 96 :=
  pinBits (fun p => decide (fieldAt 16 old p % 8192 ≠ fieldAt 16 new p % 8192))

/-- Mux words at a datum beat: levels are kept, inputs follow the old words, a new conflict is reported, and one that was over
at the datum beat before ends (R448, R449). -/
def muxDatum (old : Nat) (s : State) : State :=
  let new := s.obj 0x2400 1
  let kept := s.pins.conflicts &&& s.conflictsOf old
  let now := s.conflictsOf new
  raiseIf (decide (clearBits now kept ≠ 0)) 1416 { s with pins := { s.pins with
    muxBefore := old, changing := decide (old ≠ new), frozen := s.pins.frozen ||| muxChanged old new
    conflicts := kept ||| now } }

/-- From the beat after a datum beat, inputs and outputs follow the words in force; a new datum-marker pin's first sample is only
a previous one (R448, R451). -/
def muxSettled (s : State) : State :=
  { s with pins := { s.pins with
      changing := false, frozen := 0
      markerFresh := s.pins.changing && decide (s.feeders s.pins.muxBefore 0 ≠ s.feeders (s.obj 0x2400 1) 0) } }

/-- Level of the datum-marker input: that of its pin, 0 where no single pin feeds it (R449, R451, Table 18-5). -/
def State.markerLevel (s : State) : Bool :=
  s.inputMapped 0 && (s.feeders (s.obj 0x2400 1) 0).any (fun p => s.inputLevel p)

/-- The datum-marker pin is sampled at the edge that opens a beat, before a datum beat's mux words apply (R451). -/
def sampleMarker (s : State) : State :=
  { s with pins := { s.pins with markerPrev := s.pins.markerNow, markerNow := s.markerLevel } }

/-- The beat in progress carries a datum marker: its sample is 1, the one before was 0, and is no new pin's first (R451). -/
def State.markerAtPin (s : State) : Bool := s.pins.markerNow && !s.pins.markerPrev && !s.pins.markerFresh

/-- Pin watch `w`. -/
def State.watch (s : State) (w : Nat) : PinWatch := s.pins.watches.getD w {}

/-- Pin watch `w` replaced. -/
def State.setWatch (s : State) (w : Nat) (x : PinWatch) : State :=
  { s with pins := { s.pins with watches := s.pins.watches.set w x } }

/-- Configuration of watch `w` and its fields (Table 18-6). -/
def State.watchCfg (s : State) (w : Nat) : Nat := s.obj 0x2400 (0x10 + w)
def watchPin (c i : Nat) : Nat := byteAt c i % 128
def watchMask (c : Nat) : Nat := bitsAt c 128 16
def watchPat1 (c : Nat) : Nat := bitsAt c 144 16
def watchPat2 (c : Nat) : Nat := bitsAt c 160 16
def watchWindow (c : Nat) : Nat := bitsAt c 176 16
def watchMode (c : Nat) : Nat := bitsAt c 192 2

/-- A watch configuration is valid (Table 18-6): pins that exist or none, and a window. -/
def watchOk (c : Nat) : Bool :=
  (List.range 16).all (fun i => decide (watchPin c i < 96) || decide (watchPin c i = 127)) && decide (watchWindow c ≠ 0)

/-- What pin `p` presents to a watch in FAB cycle 0 of a beat (R457). -/
def State.watchLevel (s : State) (p : Nat) : Bool :=
  if p = 127 then false
  else if muxFunc (s.muxIn p) = 10 then s.bankPresentPin p && s.pins.pulsePrev.getLsbD p
  else s.inputLevel p

/-- The vector of watch `w` in this beat. -/
def State.watchVector (s : State) (w : Nat) : Nat := natOfFn 16 (fun i => s.watchLevel (watchPin (s.watchCfg w) i))

/-- A watch takes its vector; a configuration that applied at this datum beat takes it as the previous one too (R459). -/
def sampleWatch (w : Nat) (s : State) : State :=
  let x := s.watch w
  let v := s.watchVector w
  s.setWatch w { x with
    vec := v, prev := if x.fresh then v else x.vec, fresh := false, armed := x.armed && !x.fresh
    since := x.since + 1, judged := false }

/-- Every watch samples its pins in FAB cycle 0 of a beat. -/
def sampleWatches (s : State) : State := (List.range 8).foldl (fun t w => sampleWatch w t) s

/-- A new configuration of watch `w` applies at a datum beat. -/
def freshWatch (w : Nat) (s : State) : State := s.setWatch w { s.watch w with fresh := true, armed := false }

/-- Watches whose configurations apply at this datum beat. -/
def freshWatches (keys : List Nat) (s : State) : State :=
  (List.range 8).foldl (fun t w => if keys.contains (okey 0x2400 (0x10 + w)) then freshWatch w t else t) s

/-- A vector matches a pattern under the mask (R458). -/
def vecMatches (mask pat v : Nat) : Bool := decide (v &&& mask = pat &&& mask)

/-- A watch fires: event, count, rotation and beat (R458). -/
def fireWatch (w : Nat) (s : State) : State :=
  let x := s.watch w
  raise (1408 + w) (s.setWatch w { x with fires := satInc 32 x.fires, rot := s.time.rot, beat := s.time.beat })

/-- A beat enters a match of PAT1. -/
def PinWatch.enters (x : PinWatch) (c : Nat) : Bool :=
  vecMatches (watchMask c) (watchPat1 c) x.vec && !vecMatches (watchMask c) (watchPat1 c) x.prev

/-- A watch in sequence mode looks at its vector: PAT2 first, then the entry to PAT1. -/
def judgeSequence (w c : Nat) (s : State) : State :=
  let x := s.watch w
  let fires := x.armed && decide (1 ≤ x.since) && decide (x.since ≤ watchWindow c) &&
    vecMatches (watchMask c) (watchPat2 c) x.vec
  let s1 := if fires then fireWatch w s else s
  let y := s1.watch w
  if x.enters c then s1.setWatch w { y with armed := true, since := 0 }
  else if fires then s1.setWatch w { y with armed := false }
  else s1

/-- A watch looks at the vector of this beat once (R458). -/
def judgeWatch (w : Nat) (s : State) : State :=
  let x := s.watch w
  let c := s.watchCfg w
  let s1 := s.setWatch w { x with judged := true }
  match watchMode c with
  | 1 => if x.enters c then fireWatch w s1 else s1
  | 2 => if (x.vec ^^^ x.prev) &&& watchMask c ≠ 0 then fireWatch w s1 else s1
  | 3 => judgeSequence w c s1
  | _ => s1

/-- PIN_WATCH_MATCH: a watch's beat vector enters a match or a change; one whose new configuration has no vector yet does not fire (R458,
R459). -/
def execPinWatchMatch (w : Fin 8) (s : State) : Host.Outcome State Fault Refusal :=
  if s.beatsRun ∧ (s.watch w.val).judged = false ∧ (s.watch w.val).fresh = false then doneFab (judgeWatch w.val s) else done s

/-- PIN_WATCH_WINDOW_EXPIRED: an armed sequence watch has passed WINDOW beats without PAT2 and disarms (R458). -/
def execPinWatchWindowExpired (w : Fin 8) (s : State) : Host.Outcome State Fault Refusal :=
  let x := s.watch w.val
  let c := s.watchCfg w.val
  if x.armed = true ∧ watchWindow c ≤ x.since ∧
      (watchWindow c < x.since ∨ vecMatches (watchMask c) (watchPat2 c) x.vec = false) then
    done (s.setWatch w.val { x with armed := false })
  else done s

/-! The FAB cycle and the beat (R447, R451, R455, R457). -/

/-- The end of FAB cycle `cyc`: `ext` is what the outside left on the balls in it and `floating` the balls that nothing outside drove; watches
sample in cycle 0, pulses accumulate, and the output registers move on. -/
def pinsCycle (ext floating : BitVec 96) (s : State) : State :=
  let s1 := { s with pins := { s.pins with
    ext := ext, floating := floating, lastDrive := s.pins.drive, lastDriven := s.pins.driven } }
  let s2 := if s1.time.cyc = 0 then sampleWatches s1 else s1
  { s2 with pins := { s2.pins with
      pulse := s2.pins.pulse ||| pinBits (fun p => s2.inputLevel p)
      pipe := (s2.pinRegisters, s2.pins.beacon) :: s2.pins.pipe.take 1 } }

/-- The byte that console `k` transmits has been sent: ten bit times are over (R455). -/
def consoleSent (k : Nat) (s : State) : State :=
  let a := s.pins.conAcc.getD k 0
  match s.pins.conTx.getD k [] with
  | [] => { s with pins := { s.pins with conAcc := s.pins.conAcc.set k 0 } }
  | _ :: rest =>
    if 10 * s.rootHz ≤ a then
      { s with pins := { s.pins with conTx := s.pins.conTx.set k rest
                                     conAcc := s.pins.conAcc.set k (if rest = [] then 0 else a - 10 * s.rootHz) } }
    else s

/-- Console `k` goes on transmitting for a time in which `units` are due, `rootHz` of them a bit (R455). -/
def consoleRun (units k : Nat) (s : State) : State :=
  iterate (s.pins.conTx.getD k []).length (fun _ => consoleSent k)
    { s with pins := { s.pins with conAcc := s.pins.conAcc.set k (s.pins.conAcc.getD k 0 + units) } }

/-- Every console goes on for a time in which `units` per baud are due. -/
def consolesRun (units : Nat) (s : State) : State :=
  (List.range 4).foldl (fun t k => if t.pins.conTx.getD k [] = [] then t else consoleRun (units * s.baud) k t) s

/-- Steps of the PMBus per second: two to a bit (R422, Table 16-9). -/
def State.pmRate (s : State) : Nat := if bitOf (s.obj 0x2300 0x30) 0 then 800000 else 200000

/-- A step of the bus in progress ends where its time is over (log 169). -/
def pmStep (s : State) : State :=
  match s.pins.pmWave with
  | [] => s
  | _ :: rest =>
    if s.rootHz ≤ s.pins.pmAcc then
      { s with pins := { s.pins with pmWave := rest, pmAcc := if rest = [] then 0 else s.pins.pmAcc - s.rootHz } }
    else s

/-- The PMBus master goes on for a time in which `units` per step and second are due. -/
def pmRun (units : Nat) (s : State) : State :=
  if s.pins.pmWave = [] then s
  else iterate s.pins.pmWave.length (fun _ => pmStep) { s with pins := { s.pins with pmAcc := s.pins.pmAcc + units * s.pmRate } }

/-- Consoles and the PMBus master, which the CAN domain times, go on for a beat of M root periods (R422, R455). -/
def serialBeat (s : State) : State := pmRun s.M (consolesRun s.M s)

/-- While no beat runs, they go on by the windows of the XO judge, which stand back to back, 2.048 ms each (R396). DESIGN CHOICE (log 186):
the table has no command for a CAN cycle. -/
def serialWindow (s : State) : State :=
  if s.beatsRun then s
  else
    let units := s.rootKhz * 256 / 125
    drivePins (pmRun units (consolesRun units s))

/-- The beat edge: pulses of the beat that ends are shown, BUSY's assertion reaches its balls, consoles and the PMBus move on. -/
def pinsBeat (s : State) : State :=
  serialBeat { s with pins := { s.pins with pulsePrev := s.pins.pulse, pulse := 0, busyShown := s.busy } }

/-! The dedicated output balls (R442, R500, Table 18-2); `none` is high impedance. -/

/-- CAN_TXD: high in reset, the bit under way in SERVICE (high while nothing is sent), released in a thermal shutdown. -/
def State.canTxd (s : State) (bit : Option Bool) : Option Bool :=
  match s.rst.phase with
  | .shutdown => none
  | .service => some (if s.canTalks then bit.getD true else true)
  | _ => some true

/-- TDO: driven while the port shifts, by IEEE 1149.1; high impedance otherwise, in reset and in a thermal shutdown. -/
def State.tdo (s : State) (shifted : Option Bool) : Option Bool :=
  match s.rst.phase with
  | .powerOn => none
  | .held => none
  | .shutdown => none
  | _ => shifted

/-! Commands. -/

/-- A write of the GPIO output levels at the dictionary (R446). -/
def gpioWrite (data : List Byte) (s : State) : Nat × State :=
  if data.length ≠ 12 then (abortLength, s)
  else
    let v := ofBytes data
    (0, drivePins ({ s with pins := { s.pins with outLevels := BitVec.ofNat 96 v } }.setObj 0x2400 3 v))

/-- GPIO_OUTPUT_WRITE: output levels are stored and drive the balls of pins with FUNC 1 or 2 (R446). -/
def execGpioOutputWrite (path : Path) (data : List Byte) (s : State) : Host.Outcome State Fault Refusal :=
  done (onPath path 0x2400 3 s (gpioWrite data s))

/-- Class of a bank rail (R443): 0 absent, 1 1.8 V, 2 3.3 V. -/
def bankClass (mv : Nat) : Nat := if 1620 ≤ mv ∧ mv ≤ 1980 then 1 else if 3000 ≤ mv ∧ mv ≤ 3600 then 2 else 0

/-- BANK_RAIL_MEASURE: a bank rail is measured and classed; event 1419 on a change (R443). -/
def execBankRailMeasure (bank : Fin 6) (millivolts : Nat) (s : State) : Host.Outcome State Fault Refusal :=
  let c := bankClass millivolts
  if s.rst.phase = .powerOn ∨ s.rst.phase = .held ∨ s.pins.classes.getD bank.val 0 = c then done s
  else done (drivePins (raise 1419 { s with pins := { s.pins with classes := s.pins.classes.set bank.val c } }))

/-- A console transmit write at the dictionary (R455). -/
def consoleWrite (k : Nat) (data : List Byte) (s : State) : Nat × State :=
  let q := s.pins.conTx.getD k []
  if data.length = 0 ∨ 48 < data.length then (abortLength, s)
  else if 256 < q.length + data.length then (abortBusy, s)
  else (0, { s with pins := { s.pins with conTx := s.pins.conTx.set k (q ++ data) } })

/-- CONSOLE_TRANSMIT: the bytes are queued whole, or refused (R455). -/
def execConsoleTransmit (path : Path) (core : Fin 4) (data : List Byte) (s : State) : Host.Outcome State Fault Refusal :=
  done (onPath path 0x2400 (0x21 + core.val) s (consoleWrite core.val data s))

/-- A console receive read: the bytes received, removed from the queue (R455). -/
def consoleTake (k : Nat) (s : State) : List Byte × State :=
  (s.pins.conRx.getD k [], { s with pins := { s.pins with conRx := s.pins.conRx.set k [] } })

/-- CONSOLE_RECEIVE: a read returns and removes the bytes received (R455). -/
def execConsoleReceive (path : Path) (core : Fin 4) (s : State) : Host.Outcome State Fault Refusal :=
  if s.served then
    let r := consoleTake core.val s
    done (reply path.code 0x2400 (0x25 + core.val) 0 0 r.1 r.2)
  else done s

/-- CONSOLE_BYTE_RECEIVED: a byte arrives at a console whose receive input has its pin; a full queue drops it (R455). -/
def execConsoleByteReceived (core : Fin 4) (byte : Byte) (s : State) : Host.Outcome State Fault Refusal :=
  let q := s.pins.conRx.getD core.val []
  if s.rst.phase ≠ .service ∨ s.inputMapped (1 + core.val) = false then done s
  else if q.length < 256 then done { s with pins := { s.pins with conRx := s.pins.conRx.set core.val (q ++ [byte]) } }
  else done (raiseOnce 1418 { s with pins := { s.pins with
    conDrops := s.pins.conDrops.set core.val (satInc 32 (s.pins.conDrops.getD core.val 0)) } })

end Sys2Proof.Machine
end

