-- ==== Sys2Proof/Machine/Fabric.lean ====
section
/-! DEFINITION. One FAB cycle of the fabric: the crossbar sources, traverse crossbar, Sum-and-Sort unit, pattern searches, hold
ports, lane ports, flashes, probes and snapshots, and what every register loads at the end of the cycle (R36, R65 to R106, R114,
R141 to R146, R231, R237). -/

namespace Sys2Proof.Machine

/-! What the sources carry (Table 4-2). -/

/-- FAB cycles from a traverse line to a traverse input: 3, or 7 or 8 over an asynchronous TRAVERSE crossing (R88, R177). -/
def State.traverseDelay (s : State) (st t : Nat) : Nat :=
  if bitOf (s.obj 0x2100 4) 0 then (if Config.asyncLate 0 s.time.tick (64 * st + t) then 8 else 7) else 3

/-- A traverse input: the line that the receiving context names, unless the value was discarded (R97, R99, R395). -/
def State.traverseInput (s : State) (st t : Nat) : Bool :=
  let line := bitsAt (s.stationFrame (s.ctxOf (sectorOf st)) st 0 3 0) (14 * t) 14
  let d := s.traverseDelay st t
  decide ((s.station st).travFrom + d ≤ s.time.tick) &&
    (((s.station (line / 64)).lines.getD (d - 1) 0).getLsbD (line % 64))

/-- The last of a pipeline's values that has come by the FAB cycle `now`, over what was held before. -/
def lastValue (now held : Nat) (l : List Flight) : Nat :=
  (l.filter (fun f => decide (f.due ≤ now))).foldl (fun _ f => f.value) held

/-- Read data of the 16 hold ports by the FAB cycle `now` (R141). -/
def holdValue (now held : Nat) (l : List Flight) : Nat :=
  (l.filter (fun f => decide (f.due ≤ now))).foldl (fun v f => withBits v (32 * f.port) 32 f.value) held

/-- The SSU's result in the FAB cycle `now`; 0 where none is due (R105, R107). -/
def ssuValue (now : Nat) (l : List Flight) : Nat := (l.filter (fun f => decide (f.due = now))).foldl (fun _ f => f.value) 0

/-- What has come to a lane receive port in the FAB cycle in progress. -/
def State.portWords (s : State) (p : Nat) : Nat :=
  (s.lan.rxq.filter (fun f => decide (f.due = s.time.tick) && decide (f.port = p))).foldl (fun v f => v ||| f.value) 0

/-- The primitive pair that is due in the FAB cycle in progress: the cycle lies L_M cycles after cycle j of a beat (R232). -/
def State.pairDue (s : State) : Option Nat :=
  let n := s.fabPerBeat
  let j := (s.time.cyc + n - s.lm % n) % n
  if n ≠ 0 ∧ j < 8 then some j else none

/-- Beats from the one in progress to the one in which the frame completes whose pair `j` is due now. -/
def State.beatsAhead (s : State) (g j : Nat) : Nat :=
  ((s.group g).lag * s.fabPerBeat + s.time.cyc - (s.lm + j)) / s.fabPerBeat

/-- A pair of a frame that has not completed, as presented: the rows of Table 8-4 that its head shows replace it, its CRC cannot
(R230). -/
def State.earlyPair (s : State) (g l j : Nat) (e : EarlyPair) : Nat :=
  let ln := s.lane (8 * g + l)
  let f : RxFrame := ⟨frameSync e.head.toNat, frameCtl e.head.toNat, true, 0⟩
  let c := rxCase { ln with sinceValid := ln.sinceValid + s.beatsAhead g j } (some f)
  if c.asReceived then e.pair.toNat else bitsAt (s.darkOf g) (32 * j) 32

/-- Word pair of a Merig lane in the FAB cycle in progress: from its frame, complete or not; dark where no frame gives it (R232). -/
def State.merigPair (s : State) (i : Nat) : Nat :=
  let g := i / 8
  match s.pairDue with
  | none => 0
  | some j =>
    match s.lan.rxq.find? (fun f => decide (f.due = s.time.tick) && decide (f.port = i)) with
    | some f => f.value
    | none =>
      s.primitive g (i % 8) j (match s.lan.early.find? (fun e => decide (e.lane.val = i)) with
        | some e => if (s.group g).rx = .up then s.earlyPair g (i % 8) j e else bitsAt (s.darkOf g) (32 * j) 32
        | none => bitsAt (s.darkOf g) (32 * j) 32)

/-- Lane receive port of a station: the lane's word pair, and on a lane 0 the group's flash word (R168, R232). -/
def State.lanePortIn (s : State) (st : Nat) : Nat :=
  (if s.isMerig (st / 8) then s.merigPair st else s.portWords st) |||
    (if st % 8 = 0 then s.portWords (flashPort (st / 8)) % 65536 else 0)

/-- The crossbar sources of a station in the FAB cycle in progress (R91); under station reset the SSU's and the pattern bank's results
read 0 (R107, R118). -/
def State.sourcesOf (s : State) (st : Nat) : Sources :=
  let x := s.station st
  let rst := s.stationReset st
  { q := x.q.toNat
    lane := s.lanePortIn st
    trav := natOfFn 64 (fun t => s.traverseInput st t)
    ssu := if rst then 0 else ssuValue s.time.tick x.ssu
    pat := if rst then 0 else lastValue s.time.tick x.patHeld.toNat x.pat
    hold := holdValue s.time.tick x.holdHeld.toNat x.hold
    cyc := s.time.cyc
    beat := s.time.beat
    parity := s.time.rot % 2
    strobe := b2n (decide (s.time.beat = 0) && decide (s.time.cyc = 0))
    mailbox := Tbl.at 0 s.fab.mailShown st }

/-! Hold ports and the Sum-and-Sort unit. -/

/-- The check class of a port's read in this cycle (R140). -/
def portEcc (ecc : List PortEcc) (st h : Nat) : EccClass :=
  match ecc.find? (fun e => decide (e.station = st) && decide (e.port = h)) with
  | some e => e.err
  | none => .clean

/-- One hold port's access: a read is presented 2 FAB cycles later (R141). -/
def holdPort (ecc : List PortEcc) (sinks st h : Nat) (s : State) : State :=
  let p := portOf sinks h
  if !p.write && !p.read then s
  else
    let r := stationAccess (16 * st + h) p (portEcc ecc st h) s
    match r.1 with
    | some v =>
      let x := r.2.station st
      r.2.setStation st { x with hold := x.hold ++ [⟨s.time.tick + 2, h, v⟩] }
    | none => r.2

/-- The 16 hold ports of a station. -/
def holdPorts (ecc : List PortEcc) (sinks st : Nat) (s : State) : State :=
  (List.range 16).foldl (fun t h => holdPort ecc sinks st h t) s

/-- An opcode that the unit does not execute: counted unless it is NOP, event 27 once in each beat (R106). -/
def ssuDropped (st op : Nat) (s : State) : State :=
  let x := s.station st
  if op % 8 = 0 then s.setStation st { x with ssuBusy := x.ssuBusy - 1 }
  else
    let s1 := s.setStation st { x with ssuBusy := x.ssuBusy - 1, ssuDrops := satInc 32 x.ssuDrops }
    raiseOnce 27 { s1 with fab := { s1.fab with ssuDropped := satInc 32 s.fab.ssuDropped } }

/-- The Sum-and-Sort unit takes an opcode: its result comes 4 FAB cycles later, a PREFIX in four cycles (R105, R106). -/
def ssuStep (sinks st : Nat) (s : State) : State :=
  let x := s.station st
  let op := bitsAt sinks 5472 4
  let now := s.time.tick
  if x.ssuBusy ≠ 0 then ssuDropped st op s
  else if op % 8 = 7 then
    let ops := ssuOperands sinks
    s.setStation st { x with
      ssu := x.ssu ++ (List.range 4).map (fun q => ⟨now + 4 + q, 0, ssuPrefix ops q⟩), ssuBusy := 3 }
  else if op % 8 = 0 then s
  else s.setStation st { x with ssu := x.ssu ++ [⟨now + 4, 0, ssuResult op (s.obj (0x4000 + st) 0x10) sinks⟩] }

/-- A station's search strobe, or none (R113, R120). -/
def searchStep (sinks st : Nat) (s : State) : State :=
  if bitOf sinks 5620 then strobe st (BitVec.ofNat 144 (bitsAt sinks 5476 144)) s else noStrobe st s

/-! Lane transmit ports and flashes. -/

/-- A lane takes its home station's word pair in the cycles that its frame has pairs for (R169). -/
def laneTake (sinks st : Nat) (dark : Bool) (s : State) : State :=
  let g := st / 8
  if s.laneMode g = 2 ∨ pairsOf (s.nui g) ≤ s.time.cyc then s
  else
    let x := s.lane st
    s.setLane st { x with txPairs := x.txPairs ++ [BitVec.ofNat 32 (bitsAt sinks 5184 32)], txDark := x.txDark || dark }

/-- Flashes of the classes in a mask, each counted once in a beat (R237, R297). -/
def countFlashes (mask : Nat) (s : State) : State :=
  let fresh := clearBits (mask % 256) s.mer.flashClasses
  if fresh = 0 then s
  else
    let n := (List.range 8).map (fun c => s.mer.flashes.getD c 0)
    pinFlashes fresh { s with mer := { s.mer with
      flashes := (List.range 8).map (fun c => if bitOf fresh c then wrapInc 64 (n.getD c 0) else n.getD c 0)
      flashClasses := s.mer.flashClasses ||| fresh } }

/-- Class mask of a flash word: none without FLASH (Table 9-3). -/
def flashMask (w : Nat) : Nat := if bitOf w 0 then 2 ^ bitsAt w 1 3 else 0

/-- Some group is in MERIG mode. -/
def State.anyMerig (s : State) : Bool := (List.range 32).any s.isMerig

/-- A manager counts the flash words of its MERIG groups, or of group 0 when there is none (R231). -/
def State.flashCounts (s : State) (g : Nat) : Bool := s.isMerig g || (decide (g = 0) && !s.anyMerig)

/-- In a group's flash cycle a manager takes the flash word, forced to 0 while it coasts or has not released (R231, R451). -/
def flashTake (g : Nat) (s : State) : State :=
  if !s.manager || decide (s.flashCycle g ≠ s.time.cyc) then s
  else
    let w := bitsAt (s.sinksOf (8 * g)) 5184 16
    let forced := s.coasting || decide (s.time.relStep = 0)
    let x := s.group g
    let s1 := s.setGroup g { x with flash := if forced then 0 else w, flashUntil := s.time.tick + s.fabPerBeat }
    if !s.flashCounts g then s1
    else if forced then
      (if bitOf w 0 then { s1 with mer := { s1.mer with suppressed := satInc 32 s.mer.suppressed } } else s1)
    else countFlashes (flashMask w) s1

/-- A flash word that a worker presents in this cycle: counted, and shown to the flash-out pins (R237, R451). -/
def flashShow (g : Nat) (s : State) : State :=
  let l := s.lan.rxq.filter (fun f => decide (f.due = s.time.tick) && decide (f.port = flashPort g))
  if l.isEmpty then s
  else
    let w := s.portWords (flashPort g)
    countFlashes (flashMask w) (s.setGroup g { s.group g with flash := w, flashUntil := s.time.tick + s.fabPerBeat })

/-- The flashes of a cycle. -/
def flashStep (s : State) : State := (List.range 32).foldl (fun t g => flashShow g (flashTake g t)) s

/-! Probes and the log. -/

/-- Channel `c` takes its source, or holds its value outside its sample cycle (R76, R77, R81). DESIGN CHOICE (log 155): a channel newly
set to SAMPLED repeats the last value taken from its previous source until its first sample; R78 does not say what it carries. -/
def State.probeTake (s : State) (c : Nat) : Bool :=
  let w := s.probeSelection c
  if probeSampled w && decide (min (probeCycle w) (s.fabPerBeat - 1) ≠ s.time.cyc) then (s.fab.probeTaken.getD 0 0).getLsbD c
  else s.probeSource w != probeInvert w

/-- The word of the probe log in this cycle (R82). -/
def State.probeWord (s : State) : BitVec 32 :=
  BitVec.ofNat 32 (natOfFn 32 (fun c => s.probeRegister c && decide (2 ≤ probeRoute (s.probeSelection c))))

/-- The probe log while it is enabled and its writes are released; a word still due from an earlier cycle is dropped (R82, R83,
R377). -/
def probeLog (s : State) : State :=
  if s.obj 0x3000 5 % 2 = 1 ∧ 2 ≤ s.time.relStep then logWord s.probeWord (dropLogWord s) else s

/-- What the 32 probe channels take in the cycle in progress. -/
def probeStep (s : State) : State :=
  { s with fab := { s.fab with probeNext := BitVec.ofNat 32 (natOfFn 32 s.probeTake) } }

/-- The 32 probe channels move on at the end of a cycle, when the pins have loaded the pin-side registers of it (R76, R447). -/
def probeShift (s : State) : State :=
  { s with fab := { s.fab with probeTaken := s.fab.probeNext :: s.fab.probeTaken.take 4 } }

/-! Snapshots (R86, R108). -/

/-- A station's snapshot is captured in its snapshot FAB cycle of a datum beat. -/
def snapshot (st : Nat) (s : State) : State :=
  if s.time.beat ≠ 0 ∨ min (s.obj (0x4000 + st) 2) (s.fabPerBeat - 1) ≠ s.time.cyc then s
  else
    let x := s.station st
    let src := s.sourcesOf st
    let live := s.sectorHasContext (sectorOf st)
    let s1 := s.setStation st { x with
      snapQ := x.q
      snapTrav := if live then BitVec.ofNat 64 src.trav else 0
      snapSsu := if live then BitVec.ofNat 64 src.ssu else 0
      snapPat := if live then BitVec.ofNat 32 src.pat else 0 }
    { s1 with fab := { s1.fab with snapRot := Tbl.upd 0 s1.fab.snapRot st s.time.rot } }

/-- The snapshots of a cycle. -/
def snapshots (s : State) : State := (List.range 256).foldl (fun t st => snapshot st t) s

/-! The cycle. -/

/-- The next registers of a station, from what its sources and sinks carry in the cycle that ends (R65, R94). -/
def State.nextRegisters (s : State) (st : Nat) : BitVec 2048 × BitVec 6389 :=
  let x := s.station st
  let v := s.ctxOf (sectorOf st)
  let rst := s.stationReset st
  let mframe := fun p => s.stationFrame v st p 1 0
  let q := packFn 64 32 (fun p =>
    plotNext (fun j => s.stationFrame v st p 0 j) (mframe p) (plotInputs (mframe p) x.q.toNat x.sinks.toNat p)
      (fieldAt 64 x.q.toNat p) rst)
  (BitVec.ofNat 2048 q, BitVec.ofNat 6389 (sinksNext (fun j => s.stationFrame v st 0 2 j) (s.sourcesOf st).vector))

/-- A station's registers, lines and pipelines at the end of the cycle, from the state `s0` in which the cycle ran. -/
def stationEnd (s0 : State) (st : Nat) (s : State) : State :=
  let x := s.station st
  let r := s0.nextRegisters st
  let now := s0.time.tick
  let rst := s0.stationReset st
  s.setStation st { x with
    q := r.1, sinks := r.2
    lines := BitVec.ofNat 64 (s0.linesOf st) :: x.lines.take 7
    ssu := if rst then [] else x.ssu.filter (fun f => decide (now < f.due))
    ssuBusy := if rst then 0 else x.ssuBusy
    pat := if rst then [] else x.pat.filter (fun f => decide (now < f.due))
    patHeld := if rst then 0 else BitVec.ofNat 32 (lastValue now x.patHeld.toNat x.pat)
    hold := x.hold.filter (fun f => decide (now < f.due))
    holdHeld := BitVec.ofNat 512 (holdValue now x.holdHeld.toNat x.hold) }

/-- What a station's sinks ask for in the cycle. -/
def stationAsks (ecc : List PortEcc) (st : Nat) (s : State) : State :=
  let sinks := s.sinksOf st
  laneTake sinks st (s.stationReset st) (searchStep sinks st (ssuStep sinks st (holdPorts ecc sinks st s)))

/-- The stations that are evaluated: those whose sector has a context in force. -/
def State.liveStations (s : State) : List Nat := whichBelow 256 (fun st => s.sectorHasContext (sectorOf st))

/-- Every unit that something waits at arbitrates its array (R146); `s0` is the state in which the cycle runs. -/
def unitCycles (s0 s : State) : State :=
  (s.hold.units.map Prod.fst).foldl
    (fun t u => unitCycle ((s0.portAsk u).write || (s0.portAsk u).read) (s0.stationTarget u) u t) s

/-- One FAB cycle of the fabric. DESIGN CHOICE (log 156): the log word of a cycle enters the log bank's feeder after the units have
arbitrated in that cycle, so that it is written in the next cycle at the earliest; R82 does not name the cycle of the write. -/
def fabricCycle (ecc : List PortEcc) (s : State) : State :=
  let s1 := s.liveStations.foldl (fun t st => stationAsks ecc st t) (flashStep (snapshots s))
  let s2 := probeStep (probeLog (unitCycles s s1))
  s.liveStations.foldl (fun t st => stationEnd s st t) s2

/-- The NoC's two cycles of a FAB cycle move the flits on their way and grant the links to what waits (R185, R186, R256); requests that
wait at shaft guards enter as places come free (R267). -/
def nocCycles (s : State) : State :=
  guardStep s.hold.guard.length (nocGrants (s.nocCycle (2 * s.time.cyc + 1)) (nocGrants (s.nocCycle (2 * s.time.cyc)) s))

/-- What has been presented at the lane receive ports is gone. -/
def dropShown (s : State) : State :=
  { s with lan := { s.lan with rxq := s.lan.rxq.filter (fun f => decide (s.time.tick < f.due)), early := [] } }

/-- The lanes as a FAB cycle begins: where the beat is longer than 20 cycles its frames are formed in cycle 20 (R169). -/
def lanesStep (s : State) : State := framesLeave (if s.time.cyc = 20 then lanesTransmit s else s)

/-- A FAB cycle may run: beats run, the first datum beat has come, and the beat has a cycle left. -/
def State.cycleRuns (s : State) : Bool := s.beatsRun && !s.time.freshLock && decide (s.time.cyc < s.fabPerBeat)

/-- FAB_CYCLE: the end of a FAB cycle (R36, R65). The FAB domain stands still outside RUN; the NoC and the pins do not.
What the cycle raised is sampled together as it ends, after what the NoC raised in its own cycles (R484). -/
def execFabCycle (ecc : List PortEcc) (early : List EarlyPair) (pins floating : BitVec 96) (s : State) :
    Host.Outcome State Fault Refusal :=
  if s.cycleRuns then
    let s0 := { s with lan := { s.lan with early := early } }
    let s1 := dropShown (if s.fabricRuns then fabricCycle ecc s0 else s0)
    let s2 := pinsCycle pins floating (settle (nocCycles (deferRaises s1)))
    let s3 := if s.fabricRuns then probeShift s2 else s2
    done (drivePins (lanesStep (takeRaises { s3 with time := { s3.time with tick := s3.time.tick + 1, cyc := s3.time.cyc + 1 } })))
  else done s

/-- PROBE_LOG_DROP: a log word that found no room, or a refusing bank, is dropped (R83). -/
def execProbeLogDrop (s : State) : Host.Outcome State Fault Refusal := doneFab (dropLogWord s)

end Sys2Proof.Machine
end

