-- ==== Sys2Proof/Machine/Fences.lean ====
section
/-! DEFINITION. Fences: the host's requests and lifts, the acknowledgement of a drain, a forced drain, and what waits for an
acknowledgement (R134, R264 to R266, R329, R408, R410). -/

namespace Sys2Proof.Machine

/-- The target has answered the request. -/
def State.answered (s : State) (r : ReqId) : Bool := s.noc.answers.any (fun a => decide (a.req = r))

/-- A transaction to the domain that is past its first router and whose target has not answered (R265). -/
def State.inbound (s : State) (n : Nat) (t : Txn) : Bool :=
  (s.domainsOf (s.place t.addr)).contains n && t.entered && !s.answered t.req

/-- A transaction issued from the domain that has not ended, also one that has been posted and not yet sent; one posted while the domain is
fenced is not issued (R265, R329). -/
def outbound (n : Nat) (t : Txn) : Bool := requesterDomain t.req.src == some n && !t.held

/-- Nothing to or from the domain is outstanding. -/
def State.drained (s : State) (n : Nat) : Bool := s.noc.txns.all (fun t => !s.inbound n t && !outbound n t)

/-- The sector's VL3 domain is to be off: gated, or the power state is DEEP or UPPER-OFF (R408, Table 16-3). -/
def State.sectorOffWanted (s : State) (k : Nat) : Bool := bitOf (s.obj 0x2300 3) k || decide (2 ≤ s.pwr.state)

/-- A sector's VL3 domain switches off, with event 91 (R408). -/
def switchOff (k : Nat) (s : State) : State :=
  if s.pwr.vl3Off.contains k then s else raise 91 { s with pwr := { s.pwr with vl3Off := insertNat k s.pwr.vl3Off } }

/-- VL4 switches off: every entry is lost, and event 29 is raised (R132, R134). DESIGN CHOICE (log 148): also where the layer goes off with
the entry to DEEP or UPPER-OFF, while Table 5-10 names only a write of 0. -/
def patternOff (s : State) : State :=
  if s.pat.offAtAck then
    raise 29 { s with
      pat := { s.pat with layer := .off, offAtAck := false, entries := [] }
      pwr := { s.pwr with regOn := setBit s.pwr.regOn 3 false } }
  else s

/-- The fences of a power state's entry are all acknowledged: the entry ends (Table 16-3). A -N part never fences its layer
(Table 5-4). -/
def State.entered (s : State) : Bool :=
  (List.range 17).all (fun n =>
    decide (s.fenceState n = 2) || decide (s.fenceState n = 3) || (decide (n = 16) && decide (s.pat.layer = .notFitted)))

/-- The entry to a power state ends with the last acknowledgement (DEDUCED, log 114). -/
def closeEntry (s : State) : State :=
  if s.pwr.transition = 4 ∧ s.entered = true then { s with pwr := { s.pwr with transition := 0 } } else s

/-- What waits for the acknowledgement of domain `n`. -/
def fenceAcked (n : Nat) (s : State) : State :=
  withPowerEvent closeEntry (
    if n < 16 then (if s.sectorOffWanted n then switchOff n s else s)
    else if n = 16 then patternOff s
    else if 65 ≤ n ∧ n < 69 then keeperAck (n - 65) s
    else s)

/-- FENCE_ACK: the drain of a fenced domain is complete: state 2, event 1285 (R265). -/
def execFenceAck (n : Fin 101) (s : State) : Host.Outcome State Fault Refusal :=
  if s.fenceState n.val = 1 ∧ s.drained n.val = true then done (fenceAcked n.val (raise 1285 (setFenceState n.val 2 s)))
  else done s

/-- A flit that is no request of `r`. -/
def notRequestOf (r : ReqId) (f : Flit) : Bool := decide (f.req ≠ some r) || !f.isRequest

/-- A hold unit without a waiting request. -/
def HoldUnit.without (r : ReqId) (x : HoldUnit) : HoldUnit :=
  { x with waiting := x.waiting.filter (fun q => decide (q.req ≠ r) || q.sched) }

/-- A lane group without a request that waits for its carriage, or has been sent there and not been acknowledged: the flits behind that one
take the sequence numbers from its own on, as those behind a dropped flit do (DESIGN CHOICE, log 193), and are sent again. -/
def Group.without (r : ReqId) (x : Group) : Group :=
  let y := { x with carWait := x.carWait.filter (notRequestOf r) }
  let kept := x.carOut.filter (fun f => notRequestOf r f.2.2)
  match x.carOut with
  | [] => y
  | f :: _ =>
    if kept.length = x.carOut.length then y
    else { y with
      carOut := renumberFlits f.1 kept, carNext := 0, carIdle := 0
      carSeqTx := (x.carSeqTx + 16 - (x.carOut.length - kept.length)) % 16 }

/-- A flit in the mesh that is no request of `r`. -/
def RouterFlit.notOf (r : ReqId) (x : RouterFlit) : Bool := x.stale || notRequestOf r x.flit

/-- A request is withdrawn from wherever it waits: routers, the edge of its target, shaft guards, hold units, DRAM controllers, the carriage
(R266). -/
def withdraw (r : ReqId) (s : State) : State :=
  { s with
    noc := { s.noc with
      waiting := s.noc.waiting.filter (RouterFlit.notOf r)
      flying := s.noc.flying.filter (RouterFlit.notOf r)
      atTarget := s.noc.atTarget.filter (fun x => decide (x.req ≠ some r)) }
    hold := { s.hold with
      units := mapTbl {} (HoldUnit.without r) s.hold.units
      guard := s.hold.guard.filter (fun g => decide (g.2.req ≠ r)) }
    dram := { s.dram with channels := mapTbl {} (Channel.without r) s.dram.channels }
    lan := { s.lan with groups := mapTbl {} (Group.without r) s.lan.groups } }

/-- FENCE_DRAIN_FORCED: a drain that is not complete is forced: inbound requests answered FENCED and withdrawn, outbound tags
ended with ABORT_RESET, state 3, event 1286 (R266). -/
def execFenceDrainForced (n : Fin 101) (s : State) : Host.Outcome State Fault Refusal :=
  if s.fenceState n.val = 1 ∧ s.drained n.val = false then
    let ins := (s.noc.txns.filter (fun t => s.inbound n.val t)).map Txn.req
    let outs := (s.noc.txns.filter (fun t => outbound n.val t)).map Txn.req
    let s1 := ins.foldl (fun t r => answerStatus r .fenced (withdraw r t)) s
    let s2 := outs.foldl (fun t r => endEarly r .abortReset t) s1
    done (fenceAcked n.val (raise 1286 (setFenceState n.val 3 s2)))
  else done s

/-- What the requesters of a domain posted while it was fenced is issued (R265). -/
def issueHeld (n : Nat) (s : State) : State :=
  { s with noc := { s.noc with txns := s.noc.txns.map (fun t =>
    if requesterDomain t.req.src = some n then { t with held := false } else t) } }

/-- FENCE_LIFT_DONE: the last router has cleared the bit; the state returns to open, and requests are admitted (R266). -/
def execFenceLiftDone (n : Fin 101) (s : State) : Host.Outcome State Fault Refusal :=
  if s.fenceState n.val = 4 then done (issueHeld n.val (setFenceState n.val 0 s)) else done s

/-- The host may fence the domain (Table 10-7). -/
def hostMayFence (n : Nat) : Bool := decide (n < 16) || (decide (17 ≤ n) && decide (n < 69))

/-- A write of the host fence object (R264, Table 10-10). -/
def fenceWrite (word : Nat) (s : State) : Nat × State :=
  let n := bitsAt word 8 7
  if !hostMayFence n then (abortRange, s)
  else if bitOf word 0 then
    (0, fenceBegin n { s with noc := { s.noc with hostFence := setFenceBit s.noc.hostFence n true } })
  else if s.noc.deviceFence.getLsbD n then (abortBusy, raise 1287 s)
  else (0, fenceEnd n { s with noc := { s.noc with hostFence := setFenceBit s.noc.hostFence n false } })

/-- FENCE_REQUEST: the host fences a domain (R264, R265). -/
def execFenceRequest (path : Path) (word : BitVec 16) (s : State) : Host.Outcome State Fault Refusal :=
  done (onPath path 0x3700 0x10 s (fenceWrite word.toNat s))

/-- FENCE_LIFT: the host lifts its fence, refused while the device holds the domain's (R264, R266). -/
def execFenceLift (path : Path) (word : BitVec 16) (s : State) : Host.Outcome State Fault Refusal :=
  done (onPath path 0x3700 0x10 s (fenceWrite word.toNat s))

end Sys2Proof.Machine
end

