-- ==== Sys2Proof/Machine/Security.lean ====
section
/-! DEFINITION. Security and life cycle: the secure SRAM's wipe, the security response, life-cycle requests, attestation, tamper
and glitch detection and link keys (R462 to R471, R475 to R478). -/

namespace Sys2Proof.Machine

/-! The secure SRAM (R468). -/

/-- First address of the secure SRAM, and its size. -/
def secureBase : Nat := 0x078000000000
def secureSize : Nat := 0x100000

/-- A wipe starts: the SRAM reads 0 once it is served again. -/
def startWipe (s : State) : State :=
  { s with
    mem := s.mem.filter (fun c => !(decide (secureBase ≤ c.1) && decide (c.1 < secureBase + secureSize)))
    sec := { s.sec with sramWiping := true } }

/-- SECURE_SRAM_WIPE_DONE: the wipe completes, and event 1516 is raised (R468). -/
def execSecureSramWipeDone (s : State) : Host.Outcome State Fault Refusal :=
  if s.sec.sramWiping ∧ s.rst.phase ≠ .powerOn ∧ s.rst.phase ≠ .held then
    done (raise 1516 { s with sec := { s.sec with sramWiping := false } })
  else done s

/-! Keys (R244, R471, R475, R476). -/

/-- Every link key zeroed and every pending load discarded. -/
def zeroLinkKeys (s : State) : State :=
  (List.range 32).foldl (fun t g =>
    let x := t.group g
    t.setGroup g { x with txKey := x.txKey.map (fun _ => 0), rxKey := x.rxKey.map (fun _ => 0),
                          rxOld := x.rxOld.map (fun _ => 0), txPending := none,
                          rxPending := none }) s

/-- Production of a report is abandoned (R467, R478). -/
def abandonReport (s : State) : State :=
  if s.sec.attState = 1 then { s with sec := { s.sec with attState := 3 } } else s

/-- Wipe, keys and report of the security response (R471, R478). -/
def respondAll (s : State) : State :=
  (List.range 16).foldl (fun t c => respondChannel c t) (abandonReport (zeroLinkKeys (startWipe s)))

/-- The security response to a cause of Table 19-7 bits [3:0]. -/
def securityResponse (bits : Nat) (s : State) : State := respondAll (alarm bits s)

/-- TAMPER_LATCH: an enabled TAMPER pin has held its active level for 2 BAK cycles: its latch sets and the response follows, or
waits for the entry to SERVICE while the part is unpowered, or held in reset by RESET_N (R469, R471; DESIGN CHOICE, log 184). -/
def execTamperLatch (pin : Fin 2) (s : State) : Host.Outcome State Fault Refusal :=
  let b := 2 ^ pin.val
  if !bitOf s.backup.tamperConfig (2 * pin.val) || bitOf s.backup.tamperLatches pin.val then done s
  else if s.rst.phase = .powerOn ∨ s.rst.phase = .held then
    done { s with backup := { s.backup with tamperLatches := s.backup.tamperLatches ||| b, tamperUnpowered := true } }
  else done (securityResponse b s)

/-- GLITCH_DETECTED: while GLITCH_EN is 1, a clock or voltage glitch sets its cause and starts the response (R470, R471). -/
def execGlitchDetected (voltage : Bool) (s : State) : Host.Outcome State Fault Refusal :=
  if bitOf s.backup.tamperConfig 4 && decide (s.rst.phase ≠ .powerOn) && decide (s.rst.phase ≠ .held) then
    done (securityResponse (if voltage then 8 else 4) s)
  else done s

/-! Life-cycle requests (R465, R466, Tables 19-2 and 19-3). -/

/-- All 16 L0 sensors read from 0 °C to 85 °C (R421). -/
def State.burnWindow (s : State) : Bool :=
  (List.range 16).all (fun n => decide (0 ≤ s.reading n) && decide (s.reading n ≤ 16 * 85))

/-- What a transition of Table 19-2 needs. -/
inductive LcAuth where
  | none | signature | ownerSignature | refused
  deriving DecidableEq, Repr

/-- Authorisation of a transition by request (Table 19-2). -/
def lcAuth (life target : Nat) : LcAuth :=
  if life = 1 ∧ target = 2 then .signature
  else if life = 2 ∧ (target = 3 ∨ target = 4) then .ownerSignature
  else if (life = 1 ∨ life = 3) ∧ target = 4 then .none
  else .refused

/-- Fields of a request (Table 19-3). -/
def lcPubKey (data : List Byte) : List Byte := (data.drop 8).take 1793
def lcSignature (data : List Byte) : List Byte := (data.drop 1801).take 1280

/-- The digest that a request's signature covers: serial number, nonce, TARGET. -/
def State.lcDigest (s : State) (target : Nat) : List Byte :=
  Config.shake256 (toBytes 8 s.part.serial.toNat ++ s.sec.nonce ++ toBytes 1 target)

/-- The signature verifies under PUBKEY. -/
def State.lcVerifies (s : State) (data : List Byte) : Bool :=
  Config.falconVerify (lcPubKey data) (s.lcDigest (ofBytes (data.take 1))) (lcSignature data)

/-- Checks 1 to 4, and an attestation in production: 0 to accept, or the code; and whether LC_AUTH is set. -/
def State.lcCheck (s : State) (data : List Byte) : Nat × Bool :=
  let target := ofBytes (data.take 1)
  let auth := lcAuth s.sec.life target
  if auth = .refused then (abortState, false)
  else if !s.burnWindow then (abortState, false)
  else if auth = .ownerSignature ∧ Config.shake256 (lcPubKey data) ≠ s.nvm.ownerDigest then (abortRange, true)
  else if auth ≠ .none ∧ s.lcVerifies data = false then (abortRange, true)
  else if s.sec.attState = 1 then (abortBusy, false)
  else (0, false)

/-- Every DRAM key slot zeroed: no channel holds a key (R466). -/
def zeroDramKeys (s : State) : State :=
  (List.range 16).foldl (fun t c =>
    let x := t.channel c
    t.setChannel c { x with keys := [], noKey := true, opening := false, waitsEntropy := false }) s

/-- An accepted request: burn, backup copy, owner digest, wipe, keys zeroed, and the reset to follow (R466). -/
def lcAccept (data : List Byte) (s : State) : State :=
  let target := ofBytes (data.take 1)
  let s1 := { s with
    nvm := { s.nvm with
      otpState := target
      ownerDigest := if target = 2 then Config.shake256 (lcPubKey data) else s.nvm.ownerDigest }
    backup := { s.backup with lifeCopy := target }
    sec := { s.sec with life := target, lcPending := true } }
  zeroDramKeys (zeroLinkKeys (startWipe s1))

/-- A life-cycle request at the dictionary: Service-class, 3,081 bytes (R465). -/
def lcWrite (data : List Byte) (s : State) : Nat × State :=
  if s.dev ≠ .service then (abortState, s)
  else
    let r := s.lcCheck data
    if data.length ≠ 3081 ∧ r.1 ≠ abortState then (abortLength, s)
    else if r.1 = 0 then (0, freshNonce (lcAccept data s))
    else (r.1, freshNonce (raise 1513 (if r.2 then alarm 0x40 s else s)))

/-- LC_REQUEST_DEPLOYED: a request with TARGET 2 (R465). -/
def execLcRequestDeployed (path : Path) (data : List Byte) (s : State) : Host.Outcome State Fault Refusal :=
  done (onPath path 0x2600 2 s (lcWrite data s))

/-- LC_REQUEST_RETURNED: a request with TARGET 3 (R465). -/
def execLcRequestReturned (path : Path) (data : List Byte) (s : State) : Host.Outcome State Fault Refusal :=
  done (onPath path 0x2600 2 s (lcWrite data s))

/-- LC_REQUEST_SCRAPPED: a request with TARGET 4 (R465). -/
def execLcRequestScrapped (path : Path) (data : List Byte) (s : State) : Host.Outcome State Fault Refusal :=
  done (onPath path 0x2600 2 s (lcWrite data s))

/-- LIFE_CYCLE_RESET: 1 ms after an accepted request, the LIFE_CYCLE cold reset (R466). -/
def execLifeCycleReset (multi role : Bool) (s : State) : Host.Outcome State Fault Refusal :=
  if s.sec.lcPending then done (resetSource 14 false multi role 0 s) else done s

/-! Attestation (R467, Table 19-5). -/

/-- Attestation and link key loads are served in PROVISIONED and DEPLOYED (Table 19-1). -/
def State.lifeServes (s : State) : Bool := decide (s.sec.life = 1) || decide (s.sec.life = 2)

/-- An attestation request at the dictionary. -/
def attestWrite (nonce : List Byte) (s : State) : Nat × State :=
  if !s.lifeServes then (abortState, s)
  else if nonce.length ≠ 32 then (abortLength, s)
  else if s.sec.attState = 1 then (abortBusy, s)
  else (0, { s with sec := { s.sec with attState := 1, attNonce := nonce, attRot := s.time.rot } })

/-- ATTESTATION_REQUEST: a report begins, or the request is refused (R467). -/
def execAttestationRequest (path : Path) (nonce : List Byte) (s : State) : Host.Outcome State Fault Refusal :=
  done (onPath path 0x2600 0x10 s (attestWrite nonce s))

/-- A byte string of `n` bytes: cut, or filled with 0. -/
def fixLen (n : Nat) (l : List Byte) : List Byte := (l ++ List.replicate n 0).take n

/-- Digest stored with the region in force in sector `k`; 0 for none. -/
def State.imageDigest (s : State) (k : Nat) : Nat :=
  if s.ctxOf k < 8 then Tbl.at 0 s.cfg.digests (16 * s.ctxOf k + k) else 0

/-- Bytes 0 to 775 of the report. -/
def State.reportBody (s : State) : List Byte :=
  [0x4B, 0x58, 0x33, 0x41] ++ toBytes 2 1 ++ toBytes 1 s.sec.life ++
  toBytes 1 (b2n (decide (s.sec.life = 2)) + 2 * b2n (decide (s.backup.tamperLatches % 16 ≠ 0))) ++
  toBytes 8 s.part.serial.toNat ++ toBytes 8 s.sec.attRot ++ fixLen 32 s.sec.attNonce ++
  fixLen 32 (Config.shake256 s.rst.options) ++
  (List.range 4).flatMap (fun k => fixLen 32 (Config.shake256 (s.readBytes (codeBase k) 0x40000))) ++
  (List.range 16).flatMap (fun k => toBytes 1 (s.ctxOf k)) ++
  (List.range 16).flatMap (fun k => toBytes 32 (s.imageDigest k)) ++ fixLen 32 s.nvm.ownerDigest

/-- The report: the body and the device key's signature over its digest. -/
def State.reportNow (s : State) : List Byte :=
  s.reportBody ++ fixLen 1280 (Config.falconSign (Config.shake256 s.reportBody))

/-- ATTESTATION_DONE: the report is presented whole, state 2, event 1514 (R467). -/
def execAttestationDone (s : State) : Host.Outcome State Fault Refusal :=
  if s.sec.attState = 1 then done (raise 1514 { s with sec := { s.sec with attState := 2, report := s.reportNow } })
  else done s

/-! Link keys (R475, R476, Table 19-9). -/

/-- A link key load at the dictionary. -/
def linkKeyWrite (data : List Byte) (s : State) : Nat × State :=
  let v := ofBytes data
  let g := v % 32
  let dirs := bitsAt v 8 2
  let rot := bitsAt v 64 64
  let x := s.group g
  if !s.lifeServes then (abortState, s)
  else if data.length ≠ 48 then (abortLength, s)
  else if dirs = 0 ∨ rot < s.time.rot + 2 then (abortRange, s)
  else (0, s.setGroup g { x with
    txPending := if bitOf dirs 0 then some (rot, BitVec.ofNat 128 (bitsAt v 128 128)) else x.txPending
    rxPending := if bitOf dirs 1 then some (rot, BitVec.ofNat 128 (bitsAt v 256 128)) else x.rxPending })

/-- LINK_KEY_LOAD: keys for one group are held for the datum beat that opens APPLY_ROT, or refused (R475). -/
def execLinkKeyLoad (path : Path) (data : List Byte) (s : State) : Host.Outcome State Fault Refusal :=
  done (onPath path 0x2600 0x30 s (linkKeyWrite data s))

/-- A pending load is due in rotation `rot`. -/
def keyDue (rot : Nat) (p : Option (Nat × BitVec 128)) : Bool :=
  match p with
  | some (r, _) => decide (r ≤ rot)
  | none => false

/-- Due loads of group `g` apply at a datum beat: the key is taken and the beat counter restarts, with event 1515 (R475). -/
def applyLinkKey (g : Nat) (s : State) : State :=
  let x := s.group g
  let tx := keyDue s.time.rot x.txPending
  let rx := keyDue s.time.rot x.rxPending
  if tx || rx then
    let y := if tx then { x with txKey := x.txPending.map Prod.snd, txKeyBeats := 0, txPending := none } else x
    let z := if rx then { y with rxKey := y.rxPending.map Prod.snd, rxKeyBeats := 0, rxPending := none, rxOld := y.rxKey
                                 rxOldBeats := y.rxKeyBeats } else y
    raise 1515 (s.setGroup g z)
  else s

/-- Due link keys of every group apply at a datum beat. -/
def applyLinkKeys (s : State) : State := (List.range 32).foldl (fun t g => applyLinkKey g t) s

end Sys2Proof.Machine
end

