-- ==== Sys2Proof/Machine/Reset.lean ====
section
/-! DEFINITION. Reset and start-up: the reset sources, the entry to SERVICE, the per-block resets, the option write and the
NVM records (R163, R421, R426 to R438, R494, R499). -/

namespace Sys2Proof.Machine

/-! NVM records (R421, R494, Table 20-9). -/

/-- Writes of an NVM record performed so far. -/
def State.nvmWrites (s : State) (r : Nat) : Nat := Tbl.at 0 s.nvm.writes r

/-- A record that has taken its 100,000 writes is worn. -/
def State.nvmWornOut (s : State) (r : Nat) : Bool := decide (100000 ≤ s.nvmWrites r)

/-- A write of a worn record is not performed: its bit is set, with event 102. -/
def wornOut (r : Nat) (s : State) : State := raise 102 { s with nvm := { s.nvm with worn := setBit s.nvm.worn r true } }

/-- A performed write of a record is counted. -/
def countNvm (r : Nat) (s : State) : State :=
  { s with nvm := { s.nvm with writes := Tbl.upd 0 s.nvm.writes r (s.nvmWrites r + 1) } }

/-- What a record holds after a write whose read-back failed: a free value. -/
def badCopy (s : State) : List Byte := toBytes 512 (Config.undefinedBits s.freeCtr)

/-- Copy A is written after copy B has verified (R433, R494). -/
def writeCopyA (img : List Byte) (s : State) : Nat × State :=
  if s.nvmWornOut 0 then (abortOther, wornOut 0 s)
  else
    let s1 := countNvm 0 s
    (0, { s1 with nvm := { s1.nvm with copyA := img } })

/-- An option image is written: copy B, its read-back, which ends as `verifyB` says, then copy A; where the verification fails, copy A
is left untouched (R433, R494). -/
def writeOptions (img : List Byte) (verifyB : Bool) (s : State) : Nat × State :=
  if s.nvmWornOut 1 then (abortOther, wornOut 1 s)
  else
    let s1 := countNvm 1 s
    if verifyB then writeCopyA img { s1 with nvm := { s1.nvm with copyB := img } }
    else (abortOther, { s1 with nvm := { s1.nvm with copyB := badCopy s1 } }.draw)

/-- The 512-byte image of bytes 0 to 507: the device computes the CRC (R433). -/
def optionImage (data : List Byte) : List Byte := data.take 508 ++ toBytes 4 (crc32c (data.take 508))

/-- NVM writes wait for the temperature window: pending bits set, event 90 (R421). -/
def pendNvm (mask : Nat) (s : State) : State :=
  raise 90 { s with pwr := { s.pwr with nvmPending := s.pwr.nvmPending ||| mask } }

/-- No option write is pending: a later write of the record has replaced it (R421). -/
def dropOptions (s : State) : State :=
  { s with pwr := { s.pwr with nvmPending := clearBits s.pwr.nvmPending 3, nvmImage := [] } }

/-- An option write at the dictionary; the codes stand in the order of Table 13-2 (R337, R421, R433). -/
def optionWrite (data : List Byte) (verifyB : Bool) (s : State) : Nat × State :=
  if s.dev ≠ .service then (abortState, s)
  else if data.length ≠ 508 then (if s.burnWindow then abortLength else abortState, s)
  else if s.burnWindow then writeOptions (optionImage data) verifyB (dropOptions s)
  else (abortState, pendNvm 3 { s with pwr := { s.pwr with nvmImage := optionImage data } })

/-- OPTION_WRITE: the option image is written to copy B, verified, then written to copy A (R433). -/
def execOptionWrite (path : Path) (data : List Byte) (verifyB : Bool) (s : State) : Host.Outcome State Fault Refusal :=
  done (onPath path 0x2200 0x12 s (optionWrite data verifyB s))

/-- The shutdown record as the device reports it: from the backup domain, which holds the last one whether it has been copied or not, else
from NVM (R421, R494). -/
def State.lastShutdown (s : State) : List Byte :=
  if s.backup.shutdownRecord = List.replicate 32 0 then s.nvm.shutdownRecord else s.backup.shutdownRecord

/-- The latched shutdown record is copied to NVM (R421). -/
def copyShutdown (s : State) : State :=
  if s.nvmWornOut 2 then wornOut 2 s
  else
    let s1 := countNvm 2 s
    { s1 with nvm := { s1.nvm with shutdownRecord := s1.backup.shutdownRecord } }

/-- NVM writes that were pending are performed at a sample at which the window holds; how the read-back of an option image ends is a
free value (R421, R433). -/
def performNvm (s : State) : State :=
  if s.pwr.nvmPending = 0 ∨ s.burnWindow = false then s
  else
    let s1 := { s with pwr := { s.pwr with nvmPending := 0, nvmImage := [] } }
    let s2 := if bitOf s.pwr.nvmPending 1 then (writeOptions s.pwr.nvmImage (Config.nvmVerifies s1.freeCtr) s1.draw).2 else s1
    if bitOf s.pwr.nvmPending 2 then copyShutdown s2 else s2

/-! Sources (Table 17-1). -/

/-- POWER_ON_RELEASE: every package rail has been inside its window for 1 ms: the POWER_ON reset is logged, the option bytes are
loaded, the ROLE ball is sampled and the cold start-up begins (R29, R432, R435, R436). `options` are the copies that NVM holds
where they are not those the device last wrote. With RESET_N low the device stays in reset (R426). -/
def execPowerOnRelease (resetLow multi roleHigh backupLost : Bool) (options : Option (List Byte × List Byte)) (s : State) :
    Host.Outcome State Fault Refusal :=
  if s.rst.phase = .powerOn then
    let s1 := match options with
      | some (a, b) => { s with nvm := { s.nvm with copyA := a, copyB := b } }
      | none => s
    let s2 := if backupLost then loseBackup s1 else s1
    let s3 := logReset 1 false multi 0 s2
    done (if resetLow then holdReset backupLost s3 else coldLoad roleHigh backupLost (coldBase s3))
  else done s

/-- RESET_PIN: RESET_N low for 32 AON cycles resets the device, which stays in reset while the pin is held low; RESET_N high again,
the options are loaded, the ROLE ball is sampled and the cold start-up begins (R426, R429). -/
def execResetPin (low multi role : Bool) (s : State) : Host.Outcome State Fault Refusal :=
  if low then
    if s.rst.phase = .powerOn ∨ s.rst.phase = .held then done s
    else done (holdReset false (logReset 2 false multi 0 s))
  else if s.rst.phase = .held then done (coldLoad role s.backup.lost s)
  else done s

/-- WRESET_PIN: WRESET_N low for 32 AON cycles (R426). -/
def execWresetPin (multi : Bool) (s : State) : Host.Outcome State Fault Refusal := done (resetSource 3 true multi false 0 s)

/-- A dictionary reset request is accepted: the reset waits 1 ms (R427). A request while one waits adds nothing. -/
def requestReset (warm : Bool) (path : Nat) (s : State) : State :=
  match s.rst.pendingReset with
  | none => { s with rst := { s.rst with pendingReset := some (warm, path) } }
  | some _ => s

/-- A write of 0x2200 sub 1 at the dictionary (R427). -/
def resetRequestWrite (value path : Nat) (s : State) : Nat × State :=
  if value = 1 then (0, requestReset true path s)
  else if value = 2 then (0, requestReset false path s)
  else (abortRange, s)

/-- RESET_REQUEST_WARM: a write of 1 to the reset request (R427). -/
def execResetRequestWarm (path : Path) (s : State) : Host.Outcome State Fault Refusal :=
  done (onPath path 0x2200 1 s (resetRequestWrite 1 path.code s))

/-- RESET_REQUEST_COLD: a write of 2 to the reset request (R427). -/
def execResetRequestCold (path : Path) (s : State) : Host.Outcome State Fault Refusal :=
  done (onPath path 0x2200 1 s (resetRequestWrite 2 path.code s))

/-- DICT_RESET_TAKES_EFFECT: 1 ms after a dictionary reset request, the reset is performed (R427). -/
def execDictResetTakesEffect (multi role : Bool) (s : State) : Host.Outcome State Fault Refusal :=
  match s.rst.pendingReset with
  | none => done s
  | some (warm, path) =>
    done (resetSource (if warm then 5 else 4) warm multi role path { s with rst := { s.rst with pendingReset := none } })

/-- RAIL_OUT_OF_WINDOW: a package rail has been outside its monitor window for 1 µs: the VOLTAGE cold reset, and power-on reset
is held until every rail has been inside its window again for 1 ms (R499, R500). -/
def execRailOutOfWindow (multi : Bool) (s : State) : Host.Outcome State Fault Refusal :=
  if s.rst.phase = .powerOn then done s
  else
    let t := coldBase (logReset 8 false multi 0 s)
    done { t with rst := { t.rst with phase := .powerOn } }

/-- OPTION_SHADOW_PARITY: a parity error in the option-byte shadow (R22, R426). -/
def execOptionShadowParity (multi role : Bool) (s : State) : Host.Outcome State Fault Refusal :=
  done (resetSource 9 false multi role 0 s)

/-- CLOCK_STATE_PARITY: a parity error in the state of the loop controllers (R426). -/
def execClockStateParity (multi role : Bool) (s : State) : Host.Outcome State Fault Refusal :=
  done (resetSource 10 false multi role 0 s)

/-- DICT_ENGINE_STATE_ERROR: a double-bit error in the dictionary engine's state (R426). -/
def execDictEngineStateError (multi : Bool) (s : State) : Host.Outcome State Fault Refusal :=
  done (resetSource 12 true multi false 0 s)

/-- NOC_TABLE_PARITY: a parity error in a slot table or fence map (R263). -/
def execNocTableParity (multi : Bool) (s : State) : Host.Outcome State Fault Refusal :=
  done (resetSource 13 true multi false 0 s)

/-! The entry to SERVICE (R291, R436 to R438). -/

/-- Some march still holds a claim. -/
def State.marching (s : State) : Bool :=
  s.hold.units.any (fun u => match u.2.claim with
    | .march _ => true
    | _ => false)

/-- Every fitted channel's training has completed or failed (R291). -/
def State.channelsTrained (s : State) : Bool :=
  (List.range 16).all (fun c => decide (s.chState c ≠ .off) && decide (s.chState c ≠ .training))

/-- The pattern banks are cleared: no ramp and no clear of the layer runs (R132). -/
def State.layerSettled (s : State) : Bool := decide (s.pat.layer ≠ .ramping) && decide (s.pat.layer ≠ .clearing)

/-- Regulators that are on in service: VL4 not on a -N part (R407). -/
def State.regulators (s : State) : Nat := if s.part.grade = .n then 7 else 15

/-- The milestones that end at the entry to SERVICE. -/
def serviceMilestones (s : State) : State :=
  if s.rst.warmStart then milestone 5 s else milestone 5 (milestone 4 (milestone 3 s))

/-- The Lantern loop leaves OFF where the reference is already judged good (R398). -/
def lanternStart (s : State) : State :=
  if s.clk.lantern = .off ∧ s.clk.refGood = true ∧ s.clk.daymark = true
  then { s with clk := { s.clk with lantern := .locking } } else s

/-- A latched shutdown record is copied, reported, counted, with event 86 (R421). -/
def reportShutdown (s : State) : State :=
  if s.backup.shutdownLatched then
    let s1 := raise 86 { s with backup := { s.backup with
      shutdownLatched := false, shutdowns := satInc 32 s.backup.shutdowns } }
    if s1.burnWindow then copyShutdown s1 else pendNvm 4 s1
  else s

/-- A tamper latched while the part was unpowered is answered (R471). -/
def answerTamper (s : State) : State :=
  if s.backup.tamperUnpowered then
    securityResponse (s.backup.tamperLatches % 4) { s with backup := { s.backup with tamperUnpowered := false } }
  else s

/-- SERVICE: event 96, the boot-up message, and NMT pre-operational (R343, R344, R436). -/
def toService (s : State) : State :=
  let s1 := { s with rst := { s.rst with phase := .service }, clk := { s.clk with enteredService := true } }
  bootUp (setNmt .preOperational (freshTx <| raise 96 (lanternStart (serviceMilestones s1))))

/-- ENTER_SERVICE: start-up's clears and training are complete, and the device enters SERVICE (R436). -/
def execEnterService (s : State) : Host.Outcome State Fault Refusal :=
  if s.rst.phase = .starting ∧ s.marching = false ∧ s.channelsTrained = true ∧ s.layerSettled = true ∧ s.pwr.state = 0 then
    done (answerTamper (reportShutdown (toService s)))
  else done s

/-! Per-block resets (R430, Table 17-3). -/

/-- Block number of the dictionary engine in `Reset.leaving` and BLOCK_RESET_DONE. -/
def blockEngine : Nat := 824

/-- Effects on the blocks of one object: `held` for a block whose bit has risen, `left` for one whose bit has fallen. -/
def blockWrite (sub n base : Nat) (held : Nat → State → State) (value : Nat) (s : State) : State :=
  let old := s.obj 0x2200 sub
  let s1 := s.setObj 0x2200 sub (value % 2 ^ n)
  (List.range n).foldl (fun t i =>
    if bitOf value i && !bitOf old i then
      held i { t with rst := { t.rst with leaving := t.rst.leaving.filter (fun x => decide (x ≠ base + i)) } }
    else if bitOf old i && !bitOf value i then { t with rst := { t.rst with leaving := (base + i) :: t.rst.leaving } }
    else t) s1

/-- A write of `len` bytes to one of the per-block objects. -/
def blockObject (sub n base len : Nat) (held : Nat → State → State) (data : List Byte) (s : State) : Nat × State :=
  if data.length ≠ len then (abortLength, s) else (0, blockWrite sub n base held (ofBytes data) s)

/-- A lane group is put in reset: DEEP without an event, its scan aborted, its Merig link lost (R209, R431). -/
def holdLane (g : Nat) (s : State) : State :=
  let s1 := abortScan g s
  let x := s1.group g
  clearLanes g (linkLost g (s1.setGroup g { x.clearCarriage with
    rx := .deep, claim := .none, adaptAsked := false, trained := false, wake := 0 }))

/-- A DRAM channel is put in reset: fenced, its held requests answered ABORT_RESET, its contents open (R430). -/
def holdDram (c : Nat) (s : State) : State :=
  let x := s.channel c
  let s1 := s.setChannel c { x with
    state := .off, claim := .none, initialising := false, rfmOwed := [], openRows := [], retry := []
    base := .lost (2 ^ 64 + s.freeCtr) }
  let s2 := { s1 with dram := { s1.dram with cells := s1.dram.cells.filter (fun e => decide (e.1 / 2 ^ 33 ≠ c)) } }
  endHeld c .abortReset (deviceFenceOn (17 + c) s2.draw)

/-- A Keeper core is held in STOPPED (R330). -/
def holdKeeper (k : Nat) (s : State) : State :=
  let c := s.keeper k
  s.setKeeper k { c with state := .stopped, wait := .none, pcOver := false }

/-- A pattern bank is put in reset, and its clear begins (R131). -/
def holdBank (st : Nat) (s : State) : State := s.setBank st { s.bank st with clearing := true }

/-- Contents left by a maintenance activity that a reset ended: open words hold a free value, or one of two. -/
def abortClaim (u : Nat) (s : State) : State :=
  let x := s.unit u
  let s1 := match x.claim with
    | .march false =>
      (s.fillRange (unitBase u) (4 * unitWords u) (fun a =>
        match Config.marchByte s.freeCtr ((a - unitBase u) / 4) % 3 with
        | 0 => s.readByte a
        | 1 => 0
        | _ => 255)).draw
    | .fill p =>
      (s.fillRange (unitBase u) (4 * unitWords u) (fun a =>
        if Config.marchByte s.freeCtr ((a - unitBase u) / 4) % 2 = 1 then s.readByte a
        else BitVec.ofNat 8 (byteAt p ((a - unitBase u) % 4)))).draw
    | _ => s
  if x.claim = .none then s
  else s1.setUnit u { x with
    claim := .none, touched := [], disturbed := false, marchWaited := 0, marchStarved := false }

/-- A queue controller group is put in reset (R163). -/
def holdQueue (n : Nat) (s : State) : State :=
  let s1 := resetGroupUnits n ((groupUnits n).foldl (fun t u => abortClaim u t) s)
  { s1 with hold := { s1.hold with resetting := n :: s1.hold.resetting.filter (fun m => decide (m ≠ n)) } }

/-- STATION_RESET_WRITE: the station reset bits (R68, R430). -/
def stationResetWrite (data : List Byte) (s : State) : Nat × State := blockObject 2 256 0 32 (fun _ t => t) data s

/-- STATION_RESET_WRITE: a write of the station per-block reset bits (R430). -/
def execStationResetWrite (path : Path) (data : List Byte) (s : State) : Host.Outcome State Fault Refusal :=
  done (onPath path 0x2200 2 s (stationResetWrite data s))

/-- A write of the lane group reset bits at the dictionary. -/
def laneGroupResetWrite (value : Nat) (s : State) : Nat × State := (0, blockWrite 3 32 (blockLane 0) holdLane value s)

/-- LANE_GROUP_RESET_WRITE: a write of the lane group per-block reset bits (R209, R430). -/
def execLaneGroupResetWrite (path : Path) (value : BitVec 32) (s : State) : Host.Outcome State Fault Refusal :=
  done (onPath path 0x2200 3 s (laneGroupResetWrite value.toNat s))

/-- A write of the DRAM channel reset bits at the dictionary. -/
def dramChannelResetWrite (value : Nat) (s : State) : Nat × State := (0, blockWrite 4 16 (blockDram 0) holdDram value s)

/-- DRAM_CHANNEL_RESET_WRITE: a write of the DRAM channel per-block reset bits (R430). -/
def execDramChannelResetWrite (path : Path) (value : BitVec 16) (s : State) : Host.Outcome State Fault Refusal :=
  done (onPath path 0x2200 4 s (dramChannelResetWrite value.toNat s))

/-- A write of the Keeper reset bits at the dictionary; bits [7:4] are reserved (R11). -/
def keeperResetWrite (value : Nat) (s : State) : Nat × State := (0, blockWrite 5 4 (blockKeeper 0) holdKeeper value s)

/-- KEEPER_RESET_WRITE: a write of the Keeper per-block reset bits (R330, R430). -/
def execKeeperResetWrite (path : Path) (value : BitVec 8) (s : State) : Host.Outcome State Fault Refusal :=
  done (onPath path 0x2200 5 s (keeperResetWrite value.toNat s))

/-- A write of the pattern bank reset bits at the dictionary. -/
def patternBankResetWrite (data : List Byte) (s : State) : Nat × State := blockObject 6 256 (blockBank 0) 32 holdBank data s

/-- PATTERN_BANK_RESET_WRITE: a write of the pattern bank per-block reset bits (R131). -/
def execPatternBankResetWrite (path : Path) (data : List Byte) (s : State) : Host.Outcome State Fault Refusal :=
  done (onPath path 0x2200 6 s (patternBankResetWrite data s))

/-- A write of the queue controller group reset bits at the dictionary. -/
def queueGroupResetWrite (data : List Byte) (s : State) : Nat × State := blockObject 7 260 (blockQueue 0) 33 holdQueue data s

/-- QUEUE_GROUP_RESET_WRITE: a write of the queue controller group per-block reset bits (R163). -/
def execQueueGroupResetWrite (path : Path) (data : List Byte) (s : State) : Host.Outcome State Fault Refusal :=
  done (onPath path 0x2200 7 s (queueGroupResetWrite data s))

/-- Every session, transfer and request of the engine ends without a response; accesses to its window end with ABORT_RESET (R334). -/
def closeSessions (s : State) : State :=
  s.windowRequests.foldl (fun t r => answerStatus r .abortReset t)
    { s with eng := { s.eng with
        jobs := [], current := none, passed := [0, 0, 0, 0], sessions := [], survey := { done := false }
        windows := [{}, {}, {}, {}] } }

/-- A write of 0x2200 sub 8 at the dictionary: 1 resets the engine (R334). -/
def engineResetWrite (value : Nat) (s : State) : Nat × State :=
  if value = 1 then
    (0, closeSessions { s with rst := { s.rst with engineReset := true, leaving := blockEngine :: s.rst.leaving } })
  else if value = 0 then (0, s)
  else (abortRange, s)

/-- DICT_ENGINE_RESET: the dictionary engine is reset and every open session ends (R334, Table 17-3). -/
def execDictEngineReset (path : Path) (value : BitVec 8) (s : State) : Host.Outcome State Fault Refusal :=
  done (onPath path 0x2200 8 s (engineResetWrite value.toNat s))

/-- The reset bit of a block. -/
def State.blockBit (s : State) (b : Nat) : Bool :=
  if b < 256 then bitOf (s.obj 0x2200 2) b
  else if b < 288 then bitOf (s.obj 0x2200 3) (b - 256)
  else if b < 304 then bitOf (s.obj 0x2200 4) (b - 288)
  else if b < 308 then bitOf (s.obj 0x2200 5) (b - 304)
  else if b < 564 then bitOf (s.obj 0x2200 6) (b - 308)
  else if b < 824 then bitOf (s.obj 0x2200 7) (b - 564)
  else false

/-- A clear that the block's reset started is still running. -/
def State.blockClears (s : State) (b : Nat) : Bool :=
  (decide (308 ≤ b) && decide (b < 564) && (s.bank (b - 308)).clearing) ||
  (decide (564 ≤ b) && decide (b < 824) && s.hold.resetting.contains (b - 564))

/-- What a block does on its release (Table 17-3). -/
def releaseBlock (b : Nat) (s : State) : State :=
  if b < 256 then s
  else if b < 288 then toClock (b - 256) false s
  else if b < 304 then startTraining (b - 288) s
  else if b < 308 then coreReset (b - 304) s
  else if b < 824 then s
  else { s with rst := { s.rst with engineReset := false } }

/-- BLOCK_RESET_DONE: a block whose bit is 0 and whose clear is complete leaves its per-block reset, with event 101 (R430). -/
def execBlockResetDone (block : Nat) (s : State) : Host.Outcome State Fault Refusal :=
  if s.rst.leaving.contains block && !s.blockBit block && !s.blockClears block then
    done (raise 101 (releaseBlock block { s with rst := { s.rst with
      leaving := s.rst.leaving.filter (fun x => decide (x ≠ block)) } }))
  else done s

end Sys2Proof.Machine
end

