-- ==== Sys2Proof/Machine/Clocks.lean ====
section
/-! DEFINITION. Clocks: the judges of the crystal and of the reference, the Lantern, Daymark and Memory loops, and the writes of M
and of the reference frequency (R171, R197, R226, R388, R391, R396 to R401, R436, R437). -/

namespace Sys2Proof.Machine

/-- Nominal reference frequency f_ref, kHz. -/
def State.fRef (s : State) : Nat := s.obj 0x2100 1

/-- AON runs. -/
def State.aonRuns (s : State) : Bool :=
  decide (s.rst.phase ≠ .powerOn) && decide (s.rst.phase ≠ .held) && decide (s.rst.phase ≠ .shutdown)

/-- Set cause bits of Table 15-10. -/
def clockCause (bits : Nat) (s : State) : State := { s with clk := { s.clk with causes := s.clk.causes ||| bits } }

/-! The Lantern loop (R398). -/

/-- COAST is entered: counted, with event 66, and archive retention follows (R399). -/
def enterCoast (s : State) : State :=
  updateFrozen (raise 66 (clockCause 4 { s with clk := { s.clk with lantern := .coast, coasts := satInc 32 s.clk.coasts } }))

/-- The reference is judged failed: a loop that is locked or relocking coasts (Table 15-6). -/
def referenceFailed (s : State) : State :=
  let s1 := { s with clk := { s.clk with refGood := false, refPasses := 0 } }
  match s.clk.lantern with
  | .locked => enterCoast s1
  | .relock => enterCoast s1
  | .align => enterCoast s1
  | _ => s1

/-- A good verdict: OFF starts to lock where the part may, and COAST starts to relock (Table 15-6). -/
def goodVerdict (s : State) : State :=
  match s.clk.lantern with
  | .off => if s.clk.daymark && s.clk.enteredService then { s with clk := { s.clk with lantern := .locking } } else s
  | .coast => { s with clk := { s.clk with lantern := .relock } }
  | _ => s

/-- The count of a reference window lies within ±W_ppm of f_ref × 1 ms (R397). -/
def State.refPasses (s : State) (count : Nat) : Bool :=
  decide (((count : Int) - s.fRef).natAbs * 1000000 ≤ s.obj 0x2100 5 * s.fRef)

/-- Deviation of a window in ppm, rounded towards 0. -/
def State.refDeviation (s : State) (count : Nat) : Int := (((count : Int) - s.fRef) * 1000000).tdiv s.fRef

/-- A reference window passes. -/
def refPass (s : State) : State :=
  if s.clk.refGood then goodVerdict s
  else
    let n := s.clk.refPasses + 1
    if 3 ≤ n then goodVerdict (raise 67 { s with clk := { s.clk with refPasses := n, refGood := true } })
    else { s with clk := { s.clk with refPasses := n } }

/-- A reference window fails. -/
def refFail (s : State) : State :=
  let s1 := clockCause 2 { s with clk := { s.clk with refPasses := 0 } }
  if s.clk.refGood then referenceFailed s1 else s1

/-- The lane group whose received clock lane is the reference of a worker's Lantern loop: ride-along is enabled at 0x3600 sub 0x02 and
names it; `none` where the reference is REFCLK (R235). The clock lane is divided by N_UI/4. -/
def State.rideAlong (s : State) : Option Nat :=
  if !s.manager && bitOf (s.obj 0x3600 2) 7 then some (s.obj 0x3600 2 % 32) else none

/-- The reference can show edges: the manager's clock lane comes in every state but deep sleep, also before the worker's own lane loops
run; a group that is told to sleep deep, or held in per-block reset, does not receive it (R203, R235). -/
def State.referenceComes (s : State) : Bool :=
  match s.rideAlong with
  | some g => decide (s.lanePower g ≠ 2) && !s.laneInReset g
  | none => true

/-- REF_WINDOW_END: a reference judge window ends; one that holds a missing edge counts as failing (R397). Where ride-along names a group
that receives no clock, the window counts none (R235). -/
def execRefWindowEnd (edges : Nat) (s : State) : Host.Outcome State Fault Refusal :=
  let count := if s.referenceComes then edges else 0
  if s.aonRuns && s.clk.xoGood then
    let s1 := { s with clk := { s.clk with refCount := count % 2 ^ 32, refDev := s.refDeviation count, refTainted := false } }
    done (if s.refPasses count && !s.clk.refTainted then refPass s1 else refFail s1)
  else done s

/-- MISSING_EDGE: 4 expected reference periods pass without an edge: the reference is judged failed and the loop coasts; the window in
progress, which there is while the XO is good, counts as failing (R397, R398). -/
def execMissingEdge (s : State) : Host.Outcome State Fault Refusal :=
  if s.aonRuns then done (referenceFailed { s with clk := { s.clk with refTainted := s.clk.xoGood } }) else done s

/-- A hold unit as the tick count begins anew: no time that it keeps lies ahead. -/
def HoldUnit.atStart (x : HoldUnit) : HoldUnit :=
  { x with grantedTo := 0, servesFrom := 0, waiting := x.waiting.map (fun r => { r with fromTick := 0 }) }

/-- The root dividers start: the tick count begins anew, nothing is in flight, and the first beat is a datum beat (R40, R391). -/
def startRoot (s : State) : State :=
  { s with
    time := { s.time with tick := 0, cyc := 0, beat := 0, datum := 0, freshLock := true }
    keep := mapTbl {} (fun c => { c with cycle := 0 }) s.keep
    fab := { s.fab with stations := [] }
    lan := { s.lan with rxq := [] }
    noc := { s.noc with
      granted := [], crossing := [], flying := s.noc.flying.map (fun x => { x with due := 0 })
      txns := s.noc.txns.map (fun t => { t with fromCycle := 0 }) }
    hold := { s.hold with units := mapTbl {} HoldUnit.atStart s.hold.units, servesFrom := 0 }
    dram := { s.dram with channels := mapTbl {} (fun x => { x with rowUsed := [] }) s.dram.channels } }

/-- Step 11 of the start-up ends at the first lock after the reset: a milestone that reads 0 is not reached yet (Tables 17-6, 17-7). -/
def firstLock (s : State) : State := if s.rst.milestones.getD 6 0 = 0 then milestone 6 s else s

/-- LANTERN_LOCK: LOCKING reaches LOCKED with event 68, RELOCK reaches ALIGN (R398). -/
def execLanternLock (s : State) : Host.Outcome State Fault Refusal :=
  match s.clk.lantern with
  | .locking => done (firstLock (raise 68 (startRoot { s with clk := { s.clk with lantern := .locked } })))
  | .relock => done { s with clk := { s.clk with lantern := .align } }
  | _ => done s

/-- LANTERN_LOCK_TIMEOUT: lock is not reached within 40,000 CAN cycles: OFF with event 70, or COAST (R398). -/
def execLanternLockTimeout (s : State) : Host.Outcome State Fault Refusal :=
  match s.clk.lantern with
  | .locking => done (raise 70 (clockCause 8 { s with clk := { s.clk with lantern := .off } }))
  | .relock => done (enterCoast (clockCause 8 s))
  | _ => done s

/-- ALIGN ends: LOCKED, event 69 (R400). -/
def endAlign (s : State) : State :=
  if s.clk.lantern = .align then updateFrozen (raise 69 { s with clk := { s.clk with lantern := .locked } }) else s

/-! The crystal, Daymark and the start-up (R396, R401, R436, R437). -/

/-- The upper layers' regulators ramp in the order VL2, VL1, VL3, then VL4 with the pattern layer (step 7 of Table 17-6). -/
def rampRegulators (s : State) : State :=
  rampLayer { s with pwr := { s.pwr with regOn := [1, 0, 2].foldl (fun v i => setBit v i true) s.pwr.regOn } }

/-- L0 is released: training of every fitted channel begins, the regulators ramp, and the march of every group runs where the
option bytes ask for it (Table 17-6). -/
def releaseL0 (march : Bool) (s : State) : State :=
  let s1 := rampRegulators { s with rst := { s.rst with phase := .starting } }
  let s2 := (List.range 16).foldl (fun t c => startTraining c t) s1
  if march then (List.range 260).foldl (fun t n => claimMarch n false t) s2 else s2

/-- DAYMARK_LOCK: the Daymark loop locks: L0 is released, or the Daymark users return from AON (R401, R436). -/
def execDaymarkLock (s : State) : Host.Outcome State Fault Refusal :=
  if s.clk.daymark = false ∧ s.clk.xoGood = true ∧ s.aonRuns = true then
    let s1 := { s with clk := { s.clk with daymark := true, aonFallback := false } }
    if s.rst.phase = .daymark then done (releaseL0 s.marchOption (milestone 2 s1))
    else done (if s.clk.refGood then (if s.clk.lantern = .off then goodVerdict s1 else s1) else s1)
  else done s

/-- The CAN controller goes off the bus (R341). -/
def canOff (s : State) : State :=
  if s.can.bus = 3 then s else raise 1506 { s with can := { s.can with bus := 3 } }

/-- A chain load in progress ends with result 6 (R401). -/
def chainFailed (s : State) : State :=
  if s.mer.chainRunning then
    { s with mer := { s.mer with
      chainRunning := false, chainWorkers := 0
      chain := (List.range 32).map (fun w => if bitOf s.mer.chainWorkers w then 6 else s.mer.chain.getD w 0) } }
  else s

/-- The Memory loop enters holdover (R401). -/
def memoryHoldover (s : State) : State :=
  if s.clk.memLock && !s.clk.memHoldover then
    raise 72 (clockCause 32 { s with clk := { s.clk with memHoldover := true } })
  else s

/-- The Daymark users run from AON. -/
def aonFallback (s : State) : State := canOff { s with clk := { s.clk with aonFallback := true, daymark := false } }

/-- The XO is judged failed (R401). -/
def xoFailed (s : State) : State :=
  memoryHoldover (chainFailed (aonFallback (raise 64 (clockCause 1 { s with clk := { s.clk with
    xoGood := false, refTainted := false } }))))

/-- The XO is judged good (R396): at start-up, Daymark is awaited next. -/
def xoJudgedGood (s : State) : State :=
  let s1 := raise 65 { s with clk := { s.clk with xoGood := true } }
  if s.rst.phase = .xoJudging then milestone 1 { s1 with rst := { s1.rst with phase := .daymark } } else s1

/-- An XO window passes. -/
def xoPass (s : State) : State :=
  if s.clk.xoGood then s
  else
    let n := s.clk.xoPasses + 1
    let s1 := { s with clk := { s.clk with xoPasses := n } }
    if 3 ≤ n then xoJudgedGood s1 else s1

/-- An XO window fails. -/
def xoFail (s : State) : State :=
  let s1 := { s with clk := { s.clk with xoPasses := 0 } }
  if s.clk.xoGood then xoFailed s1 else s1

/-- Sixteen windows have passed without a good verdict: the start-up carries on from AON (R437). -/
def xoGivenUp (s : State) : State :=
  if s.rst.phase = .xoJudging ∧ 16 ≤ s.clk.xoWindows then releaseL0 false (aonFallback s) else s

/-- XO_WINDOW_END: an XO judge window ends (R396). -/
def execXoWindowEnd (count : Nat) (s : State) : Host.Outcome State Fault Refusal :=
  if s.aonRuns then
    let s1 := { s with clk := { s.clk with xoCount := count % 2 ^ 32, xoWindows := s.clk.xoWindows + 1 } }
    done (serialWindow (xoGivenUp (if 47104 ≤ count ∧ count ≤ 55296 then xoPass s1 else xoFail s1)))
  else done s

/-- MEMORY_LOOP_LOCK: the Memory loop locks at start-up, or has left holdover, once Daymark is locked again (R387, R401). -/
def execMemoryLoopLock (s : State) : Host.Outcome State Fault Refusal :=
  if s.aonRuns && s.clk.xoGood && (s.clk.daymark || !s.clk.memHoldover) then
    done { s with clk := { s.clk with memLock := true, memHoldover := false } }
  else done s

/-! M and f_ref (R388). -/

/-- The word pairs of a frame fit in a beat, and the lane rate is at most 32 Gb/s (R171, R197). -/
def rateOk (m f n : Nat) : Bool := decide (pairsOf n ≤ m / 8) && decide (f * n ≤ 32000000)

/-- A lane group may run at M and f_ref (R388). -/
def State.groupRateOk (s : State) (m f g : Nat) : Bool :=
  (decide (s.laneObj g 6 = 0) || decide (s.laneObj g 3 = 2) || rateOk m f (s.nui g)) &&
    (!s.isMerig g || (decide (96 ≤ m) && decide (f ≤ 80000)))

/-- M and f_ref are legal together (R388). -/
def State.clockOk (s : State) (m f : Nat) : Bool :=
  decide (m % 8 = 0) && decide (6000000 ≤ m * f) && decide (m * f ≤ 8000000) &&
    (List.range 32).all (fun g => s.groupRateOk m f g)

/-- Every lane loop relocks. -/
def relockLanes (s : State) : State :=
  (List.range 32).foldl (fun t g => dropLoops g t) s

/-- A write of M at the dictionary (R388). -/
def multiplierWrite (m : Nat) (s : State) : Nat × State :=
  if s.dev ≠ .service then (abortState, s)
  else if !s.clockOk m s.fRef then (abortRange, raise 21 s)
  else
    let s1 := relockLanes (s.setObj 0x2100 2 m)
    (0, if s.clk.lantern = .locked then { s1 with clk := { s1.clk with lantern := .locking } } else s1)

/-- MULTIPLIER_WRITE: a write of M makes the Lantern loop relock (R388). -/
def execMultiplierWrite (path : Path) (value : BitVec 8) (s : State) : Host.Outcome State Fault Refusal :=
  done (onPath path 0x2100 2 s (multiplierWrite value.toNat s))

/-- A write of f_ref at the dictionary: the judge restarts and the loop goes OFF (R388). -/
def referenceWrite (f : Nat) (s : State) : Nat × State :=
  if s.dev ≠ .service then (abortState, s)
  else if f < 40000 ∨ 100000 < f ∨ s.clockOk s.M f = false then (abortRange, raise 21 s)
  else
    let s1 := relockLanes (s.setObj 0x2100 1 f)
    (0, updateFrozen { s1 with clk := { s1.clk with
      refGood := false, refPasses := 0, refTainted := false, lantern := .off } })

/-- REFERENCE_FREQUENCY_WRITE: a write of f_ref restarts the judge and sends the loop to OFF (R388). -/
def execReferenceFrequencyWrite (path : Path) (value : BitVec 32) (s : State) : Host.Outcome State Fault Refusal :=
  done (onPath path 0x2100 1 s (referenceWrite value.toNat s))

end Sys2Proof.Machine
end

