-- ==== Sys2Proof/Machine/Contract.lean ====
section
/-! DEFINITION. The schedule contract: the contract block, the comparison with settings in force, the outlook on the next datum
beat, and the device's own selections (R179 to R184, R511). -/

namespace Sys2Proof.Machine

/-! The contract block (Table 7-5). -/

/-- Fields of a 32-byte contract block. -/
def blockMajor (b : Nat) : Nat := bitsAt b 8 8
def blockMinor (b : Nat) : Nat := b % 256
def blockM (b : Nat) : Nat := bitsAt b 16 8
def blockLm (b : Nat) : Nat := bitsAt b 24 8
def blockBMin (b : Nat) : Nat := bitsAt b 32 16
def blockBMax (b : Nat) : Nat := bitsAt b 48 16
def blockSectors (b : Nat) : Nat := bitsAt b 64 16
def blockAsync (b : Nat) : Nat := bitsAt b 80 4
def blockGroups (b : Nat) : Nat := bitsAt b 96 32
def blockNui (b g : Nat) : Nat := bitsAt b (128 + 2 * g) 2
def blockPlan (b : Nat) : Nat := bitsAt b 192 32

/-- A Lantern multiplier: a multiple of 8 from 64 to 200. -/
def legalM (m : Nat) : Bool := decide (m % 8 = 0) && decide (64 ≤ m) && decide (m ≤ 200)

/-- The block is malformed (R180). -/
def blockMalformed (b : Nat) : Bool :=
  decide (blockMajor b = 0) || !legalM (blockM b) || (decide (1 ≤ blockLm b) && decide (blockLm b ≤ 47)) ||
  decide (blockBMin b < 64) || decide (4096 < blockBMin b) || decide (blockBMax b < 64) || decide (4096 < blockBMax b) ||
  decide (blockBMax b < blockBMin b) || decide (blockSectors b = 0) || decide (bitsAt b 84 12 ≠ 0)

/-- The stored block of a slot and sector. -/
def State.contract (s : State) (slot k : Nat) : Nat := Tbl.at 0 s.cfg.contracts (16 * slot + k)

/-- State of the region of slot `v` and sector `k`. -/
def State.region (s : State) (v k : Nat) : Region := Tbl.at .empty s.cfg.regions (16 * v + k)

/-- The block in force in a sector; 0 with no context (0x3300 sub 0x02). -/
def State.contractInForce (s : State) (k : Nat) : Nat := if s.ctxOf k < 8 then s.contract (s.ctxOf k) k else 0

/-! The comparison (R181, Table 7-6). -/

/-- Settings that a block is compared with: M, crossing modes, B, and N_UI by group. -/
structure Settings where
  m : Nat
  cross : Nat
  b : Nat
  nui : Nat → Nat

/-- Settings in force. -/
def State.settings (s : State) : Settings := ⟨s.M, s.obj 0x2100 4, s.B, fun g => s.obj (0x3500 + g) 2⟩

/-- The crossing modes to which the next datum beat's writes apply: a warm reset's return to 0 that is due comes first (R398). -/
def State.crossingNext (s : State) : Nat :=
  (if s.clk.crossClear then s.setObj 0x2100 4 0 else s).projected false 0x2100 4

/-- Settings after the next datum beat, by the writes accepted so far. -/
def State.settingsNext (s : State) : Settings :=
  ⟨s.M, s.crossingNext, s.projected false 0x2000 0x10, fun g => s.projected false (0x3500 + g) 2⟩

/-- The first group whose N_UI differs from the one the block assumes. -/
def Settings.nuiMismatch (x : Settings) (b : Nat) : Option Nat :=
  (List.range 32).find? (fun g => bitOf (blockGroups b) g && decide (x.nui g ≠ blockNui b g))

/-- The first field of Table 7-6 that does not match in sector `k`, and the lane group when it is NUI. -/
def Settings.mismatch (x : Settings) (b k : Nat) : Option (Nat × Nat) :=
  if blockMajor b ≠ 1 ∨ 0 < blockMinor b then some (1, 0)
  else if blockM b ≠ x.m then some (2, 0)
  else if blockAsync b ≠ x.cross % 16 then some (3, 0)
  else if x.b < blockBMin b ∨ blockBMax b < x.b then some (4, 0)
  else if bitOf (blockSectors b) k = false then some (5, 0)
  else (x.nuiMismatch b).map (fun g => (6, g))

/-- Last refusal or void (0x3300 sub 0x05). -/
def refusalWord (k : Nat) (f : Nat × Nat) (void : Bool) : Nat := k + f.1 * 16 + f.2 * 256 + b2n void * 65536

/-! The outlook (R184). -/

/-- Sector selections that will be in force after the next datum beat. -/
def State.selectionNext (s : State) (k : Nat) : Nat := byteAt (s.projected false 0x2000 0x16) k

/-- The next datum beat finds the sector gated or fenced, or slot `v` not valid in it: a swap is refused with code 4 or 2 (R53). -/
def State.swapBarred (s : State) (v k : Nat) : Bool :=
  bitOf (s.projected false 0x2300 3) k ||
    (if s.pwr.state = 0 then s.pwr.vl3Off.contains k || s.pwr.ramping.contains k || s.fenced k
     else s.noc.hostFence.getLsbD k) ||
    decide (s.region v k ≠ .valid)

/-- The next datum beat would refuse the sector's selection under R181, or void under R182 the context that stays in force: the one
selected, or the old one where the swap is refused. -/
def State.wouldRefuse (s : State) (x : Settings) (k : Nat) : Bool :=
  let v := s.selectionNext k
  let c := s.ctxOf k
  let refused := decide (v ≠ c) && decide (v < 8) && (x.mismatch (s.contract v k) k).isSome
  let stays := decide (v = c) || (decide (v < 8) && (refused || s.swapBarred v k))
  refused || (decide (c < 8) && stays && (x.mismatch (s.contract c k) k).isSome)

/-- 0x3300 sub 0x04 is evaluated again. -/
def lookAhead (s : State) : State :=
  let x := s.settingsNext
  { s with con := { s.con with ahead := natOfFn 16 (fun k => s.wouldRefuse x k) } }

/-- A staged write is accepted, and the outlook is evaluated (R44, R184). -/
def acceptStaged (path : Nat) (parts : List StagePart) (s : State) : State :=
  lookAhead (stageAccept path false false false parts s)

/-- The device selects context `v` for sector `k` itself: it withdraws byte `k` of every waiting write and stages a write of
that byte alone, PATH 3, DEVICE 1, unvalidated (R511). -/
def deviceSelect (k v : Nat) (safe cool : Bool) (s : State) : State :=
  let ws := s.stg.pend.map (Staged.withdraw k)
  let s1 := { s with stg := { s.stg with
      pend := ws.filter (fun w => !w.dead)
      recs := (ws.filter Staged.dead).foldl (fun r w => setRecState w.seq 4 r) s.stg.recs } }
  lookAhead (stageAccept 3 true safe cool [⟨okey 0x2000 0x16, 0xFF * 256 ^ k, v * 256 ^ k, 0xFF * 256 ^ k⟩] s1)

/-! LM and PLAN_ID (R183). -/

/-- Some lane group in Merig mode runs an L_M other than the block's. -/
def State.lmMismatch (s : State) (k : Nat) : Bool :=
  let l := blockLm (s.contractInForce k)
  decide (l ≠ 0) && decide (l ≠ s.obj 0x3600 1) && (List.range 32).any (fun g => decide (s.obj (0x3500 + g) 1 = 1))

/-- Identifier of the NoC plan in force. -/
def State.planId (s : State) : Nat := s.obj 0x3700 1 % 2 ^ 32

/-- The block names another NoC plan than the one in force. -/
def State.planMismatch (s : State) (k : Nat) : Bool :=
  let p := blockPlan (s.contractInForce k)
  decide (p ≠ 0) && decide (p ≠ s.planId)

/-- Some bit of `new` is not set in `old`. -/
def newBit (old new : Nat) : Bool := (List.range 16).any (fun k => bitOf new k && !bitOf old k)

/-- At a datum beat the mismatch bits follow, with event 22 or 23 where one begins. -/
def compareLinks (s : State) : State :=
  let l := natOfFn 16 s.lmMismatch
  let p := natOfFn 16 s.planMismatch
  raiseIf (newBit s.con.planMismatch p) 23 (raiseIf (newBit s.con.lmMismatch l) 22
    { s with con := { s.con with lmMismatch := l, planMismatch := p } })

end Sys2Proof.Machine
end

