-- ==== Sys2Proof/Machine/Power.lean ====
section
/-! DEFINITION. Power and thermal management: regulators, power states, gating and the unit power map at a datum beat, sensors and
the thermal states, NVM writes that wait, and PMBus supervision (R134, R164, R406 to R423). -/

namespace Sys2Proof.Machine

/-! The pattern layer's switch (R134). -/

/-- The layer is to be on: asked for, and the power state keeps VL4 on. -/
def State.patternWanted (s : State) : Bool := decide (s.obj 0x3100 1 = 1) && decide (s.pwr.state < 2)

/-- The regulators on in RUN: VL4 only where the layer is asked for (R134, R406, R411). -/
def State.regulatorsAsked (s : State) : Nat := setBit s.regulators 3 (bitOf s.regulators 3 && decide (s.obj 0x3100 1 = 1))

/-- The layer is switched off: its banks are dark at once, its domain is fenced, and VL4 follows the acknowledgement. -/
def patternDown (s : State) : State :=
  let s1 := deviceFenceOn 16 { s with pat := { s.pat with dark := true, offAtAck := true } }
  if s1.fenceState 16 = 2 ∨ s1.fenceState 16 = 3 then patternOff s1 else s1

/-- The layer is switched on: it ramps, and its banks are cleared (R132). -/
def patternUp (s : State) : State := rampLayer s

/-- The layer follows what is asked for. DESIGN CHOICE (log 200): a write of 1 that applies before the fence of an earlier write of 0 is
acknowledged cancels the switch-off: VL4 never goes off, and the layer ramps at once. -/
def patternSwitch (s : State) : State :=
  if s.pat.layer = .notFitted then s
  else if s.patternWanted then (if s.pat.layer = .off ∨ s.pat.offAtAck = true then patternUp s else s)
  else if s.pat.layer = .off ∨ s.pat.offAtAck = true then s
  else patternDown s

/-! Power states and gating at a datum beat (R408 to R413, Table 16-3). -/

/-- A sector's domain is to be fenced by the device. -/
def State.sectorFenceWanted (s : State) (k : Nat) : Bool := s.sectorOffWanted k || decide (1 ≤ s.pwr.state)

/-- A sector's VL3 and fence follow the gate mask and the power state in force; `was` says that it was to be off before. -/
def sectorPower (k : Nat) (was : Bool) (s : State) : State :=
  if s.sectorOffWanted k then
    let s1 := deviceFenceOn k { s with pwr := { s.pwr with
      ramping := s.pwr.ramping.filter (fun j => decide (j ≠ k)), restart := s.pwr.restart.filter (fun j => decide (j ≠ k)) } }
    if s1.fenceState k = 2 ∨ s1.fenceState k = 3 then switchOff k s1 else s1
  else if was then { s with pwr := { s.pwr with ramping := insertNat k (s.pwr.ramping.filter (fun j => decide (j ≠ k))) } }
  else if s.sectorFenceWanted k then deviceFenceOn k s
  else if s.pwr.ramping.contains k || !s.noc.deviceFence.getLsbD k then s
  else deviceFenceOff k s

/-- The fence of the pattern layer in a power state: held while the state is not RUN, lifted when the layer is on. -/
def patternFence (s : State) : State :=
  if s.pat.layer = .notFitted then s
  else if 1 ≤ s.pwr.state then deviceFenceOn 16 s
  else if s.pat.layer = .on ∧ s.pat.offAtAck = false then deviceFenceOff 16 s
  else s

/-- Every DRAM channel that is READY enters self-refresh (QUIET, DEEP). -/
def dramSleep (s : State) : State :=
  (List.range 16).foldl (fun t c =>
    if t.chState c = .ready then t.setChannel c { t.channel c with state := .selfRefresh, openRows := [] } else t) s

/-- Every DRAM channel in self-refresh is READY again on the exit to RUN. -/
def dramWake (s : State) : State :=
  (List.range 16).foldl (fun t c =>
    if t.chState c = .selfRefresh then serveHeld c (t.setChannel c { t.channel c with state := .ready }) else t) s

/-- A station of a sector whose context UPPER-OFF has taken: nothing but its snapshots is left. -/
def Station.emptied (now : Nat) (x : Station) : Station :=
  { travFrom := now, ssuDrops := x.ssuDrops, snapQ := x.snapQ, snapTrav := x.snapTrav, snapSsu := x.snapSsu, snapPat := x.snapPat }

/-- UPPER-OFF is entered: VL1 to VL4 go off, every region is EMPTY and every sector has no context (R385, R412): no station counts
reserved indices (R108), and no context owns an output ring (R157). -/
def upperOff (s : State) : State :=
  { s with
    fab := { s.fab with stations := mapTbl {} (Station.emptied s.time.tick) s.fab.stations, reservedMap := 0 }
    hold := { s.hold with owners := s.hold.owners.map (fun o => if o = 1 then 0 else o) }
    cfg := { s.cfg with regions := [], frames := [], upsets := [], checks := [], contracts := [], digests := [] }
    stg := { s.stg with ctx := List.replicate 16 8 }
    pwr := { s.pwr with regOn := 0, vl3Off := List.range 16, ramping := [] } }

/-- The FAB cycle, at a datum beat or later, before which units that left retention or off do not serve: they wait for a datum
beat at least 64 HOLD cycles on (R409). -/
def State.unitWait (s : State) : Nat := 2 ^ 64 + s.time.tick + 64

/-- A wait of `unitWait` ends at the first datum beat that is late enough. -/
def waitEnds (now w : Nat) : Nat := if 2 ^ 64 ≤ w ∧ w - 2 ^ 64 ≤ now then 0 else w

/-- Units whose wait is over serve from this datum beat. -/
def unitsServe (s : State) : State :=
  { s with hold := { s.hold with
      units := mapTbl {} (fun x => { x with servesFrom := waitEnds s.time.tick x.servesFrom }) s.hold.units
      servesFrom := waitEnds s.time.tick s.hold.servesFrom } }

/-- A unit's code in the map changes: one that leaves on has its waiting requests answered FENCED, and one that leaves retention or off
waits to serve, cleared where it was off (R164, R409). -/
def unitPower (old u : Nat) (s : State) : State :=
  let a := bitsAt old (2 * u) 2
  let b := s.unitMapCode u
  if a = b then s
  else
    let s1 := if a = 2 then
      (s.fillRange (unitBase u) (4 * unitWords u) (fun _ => 0)).setUnit u (clearPointers (s.unit u)) else s
    if b ≠ 0 then fenceWaiting u s1
    else s1.setUnit u { s1.unit u with servesFrom := s.unitWait }

/-- The unit power map applies at a datum beat. -/
def unitMapDatum (old : Nat) (s : State) : State :=
  if old = s.obj 0x2300 4 then s else (List.range 4160).foldl (fun t u => unitPower old u t) s

/-- The power state takes `new`, and what Table 16-3 does to DRAM, the pins and the upper layers. -/
def changeState (old new : Nat) (s : State) : State :=
  let s1 := { s with pwr := { s.pwr with
    state := new, transition := if new = 0 then (if 2 ≤ old then 5 else 0) else 4 } }
  let s2 := if new = 1 ∨ new = 2 then sleepPins (dramSleep s1) else s1
  let s3 := if 2 ≤ new then (s2.hold.units.map Prod.fst).foldl (fun t u => fenceWaiting u t) (if new = 3 then upperOff s2 else s2)
    else s2
  if new = 0 then
    wakePins (dramWake (if 2 ≤ old then { s3 with hold := { s3.hold with servesFrom := s.unitWait } } else s3))
  else s3

/-- Sectors with a context that are not dark restart after QUIET as after a context change (R411). -/
def restartAll (s : State) : State :=
  let ks := whichBelow 16 (fun k => decide (s.ctxOf k < 8) && !s.sectorDark k)
  { s with fab := { s.fab with holdBeat := s.fab.holdBeat ++ ks } }

/-- The power state request, gate mask and layer request in force after the near values applied act (R134, R408, R410). `gates`
is the mask before. An exit from UPPER-OFF waits for UPPER_LAYERS_READY. -/
def powerFollows (gates : Nat) (s : State) : State :=
  let old := s.pwr.state
  let new := s.obj 0x2300 1
  let was := fun (k : Nat) => bitOf gates k || decide (2 ≤ old)
  if old = 3 ∧ new ≠ 3 then
    { s with pwr := { s.pwr with transition := 5, regOn := s.regulatorsAsked } }
  else
    let s1 := if old = new then s else changeState old new s
    let s2 := (List.range 16).foldl (fun t k => sectorPower k (was k) t) s1
    let s3 := patternFence (patternSwitch s2)
    closeExit (closeEntry (if old = 1 ∧ new = 0 then restartAll s3 else s3))

/-- Power at a datum beat, with event 80 where the power state in force changes (R410, R425). -/
def powerDatum (gates : Nat) (s : State) : State := withPowerEvent (powerFollows gates) s

/-- Sectors that wait for a datum beat restart at this one (R408, R411). -/
def sectorsRestart (s : State) : State :=
  { s with
    fab := { s.fab with holdBeat := s.fab.holdBeat ++ s.pwr.restart }
    pwr := { s.pwr with restart := [] } }

/-- SECTOR_RAMP_DONE: a sector's VL3 has ramped: its fence is lifted, and it runs from the next datum beat (R408). -/
def execSectorRampDone (k : Fin 16) (s : State) : Host.Outcome State Fault Refusal :=
  if s.pwr.ramping.contains k.val then
    let s1 := { s with pwr := { s.pwr with
      ramping := s.pwr.ramping.filter (fun j => decide (j ≠ k.val))
      vl3Off := s.pwr.vl3Off.filter (fun j => decide (j ≠ k.val))
      restart := insertNat k.val (s.pwr.restart.filter (fun j => decide (j ≠ k.val))) } }
    done (withPowerEvent closeExit (if s1.sectorFenceWanted k.val then s1 else deviceFenceOff k.val s1))
  else done s

/-- Every unit cleared, with its pointers (R163). -/
def clearHold (s : State) : State :=
  { s with
    mem := s.mem.filter (fun c => decide (c.1 < holdBase) || decide (holdEnd ≤ c.1))
    memGen := 0
    hold := { s.hold with
      units := mapTbl {} (fun x => { clearPointers x with servesFrom := 0 }) s.hold.units, servesFrom := s.unitWait } }

/-- The gate mask in force gates sector `k` (R408). -/
def State.gated (s : State) (k : Nat) : Bool := bitOf (s.obj 0x2300 3) k

/-- The context slots lose their contents: every region is EMPTY (R385). -/
def emptyRegions (s : State) : State :=
  { s with cfg := { s.cfg with regions := [], frames := [], upsets := [], checks := [], contracts := [], digests := [] } }

/-- The layers are up after UPPER-OFF: the power-up of VL2 leaves every region EMPTY, those of a load in progress too (R385); DRAM leaves
self-refresh, and gated sectors stay off and fenced (R408, R411); event 28 is raised for the pattern layer as well (log 148). -/
def upperReady (s : State) : State :=
  let s1 := raise 80 (emptyRegions { s with pwr := { s.pwr with
    state := 0, transition := 0, regOn := s.regulatorsAsked
    vl3Off := whichBelow 16 (fun k => s.gated k), restart := whichBelow 16 (fun k => !s.gated k) } })
  let s2 := clearHold (wakePins (dramWake s1))
  let s3 := if s.pat.layer = .notFitted then s2
    else if s2.patternWanted then
      raise 28 (deviceFenceOff 16 { s2 with pat := { s2.pat with entries := [], layer := .on, dark := true, offAtAck := false } })
    else s2
  (List.range 16).foldl (fun t k => if t.sectorFenceWanted k then t else deviceFenceOff k t) s3

/-- UPPER_LAYERS_READY: after UPPER-OFF, every upper layer has ramped and is cleared: RUN is in force (R163, R410). -/
def execUpperLayersReady (s : State) : Host.Outcome State Fault Refusal :=
  if s.pwr.state = 3 ∧ s.pwr.transition = 5 then done (upperReady s) else done s

/-- REGULATOR_FAULT: a regulator has been out of its window for 16 AON cycles: counted, event 87; VL4 switches the layer off, VL1 to
VL3 cause the VOLTAGE cold reset (R407). -/
def execRegulatorFault (regulator : Fin 4) (multi role : Bool) (s : State) : Host.Outcome State Fault Refusal :=
  if s.aonRuns = false ∨ (regulator.val = 3 ∧ s.part.grade = .n) then done s
  else
    let s1 := raise 87 { s with pwr := { s.pwr with
      regFault := setBit s.pwr.regFault regulator.val true, regFaults := satInc 32 s.pwr.regFaults } }
    if regulator.val = 3 then
      let s2 := s1.setObj 0x3100 1 0
      done (if s.pat.layer = .off ∨ s.pat.offAtAck = true then s2 else patternDown s2)
    else done (resetSource 8 false multi role 0 s1)

/-! Sensors (R414 to R419). -/

/-- A sensor becomes broken, with event 84 (R415). -/
def breakSensor (n : Nat) (s : State) : State :=
  if s.pwr.broken.getLsbD n then s
  else raise 84 { s with pwr := { s.pwr with broken := s.pwr.broken ||| BitVec.ofNat 128 (2 ^ n) } }

/-- A sensor's reading as sampled. -/
def State.rawReading (s : State) (n : Nat) : Int := Tbl.at 0 s.pwr.readings n

/-- The other sensors of a sensor's layer. -/
def layerMates (n : Nat) : List Nat := (List.range 128).filter (fun m => sensorLayer m == sensorLayer n && m != n)

/-- Samples of a layer kept: 4,096 of each of its sensors at the lowest rate of sampling, while the others are sampled at the highest
(R414, R415). -/
def samplesKept : Nat := 4096 * 32 * 64

/-- A sample of sensor `n` is stored. -/
def storeReading (n : Nat) (r : Int) (s : State) : State :=
  let l := sensorLayer n
  { s with pwr := { s.pwr with
      readings := Tbl.upd 0 s.pwr.readings n r
      samples := Tbl.upd [] s.pwr.samples l (((n, r) :: Tbl.at [] s.pwr.samples l).take samplesKept) } }

/-- The newest samples of a layer, back to the `k`-th newest one of sensor `n`. -/
def sampleWindow (n : Nat) : Nat → List (Nat × Int) → List (Nat × Int)
  | _, [] => []
  | k, x :: l => if x.1 = n then (if k ≤ 1 then [x] else x :: sampleWindow n (k - 1) l) else x :: sampleWindow n k l

/-- Readings of sensor `n` among samples, newest first. -/
def readingsOf (n : Nat) (l : List (Nat × Int)) : List Int := (l.filter (fun x => x.1 == n)).map Prod.snd

/-- How much a list of readings changes: the highest less the lowest. -/
def spread : List Int → Int
  | [] => 0
  | x :: l => l.foldl max x - l.foldl min x

/-- A sensor has not changed over 4,096 consecutive samples, while another of its layer changed by more than 2 °C (R415). -/
def State.stuckSensor (s : State) (n : Nat) : Bool :=
  let w := sampleWindow n 4096 (Tbl.at [] s.pwr.samples (sensorLayer n))
  let own := readingsOf n w
  decide (own.length = 4096) && decide (spread own = 0) && (layerMates n).any (fun m => decide (32 < spread (readingsOf m w)))

/-- A sensor is found broken by its reading: out of range, or unchanged while its layer changes (R415). -/
def State.looksBroken (s : State) (n : Nat) : Bool :=
  decide (s.rawReading n < -640) || decide (2400 < s.rawReading n) || s.stuckSensor n

/-- Sensor `n` is found broken by its reading, or not. -/
def judgeReading (n : Nat) (s : State) : State := if s.looksBroken n then breakSensor n s else s

/-- The L2 estimate of sector `k` in 1/16 °C, times 100,000; `p` is P_L2 in mW (R418). -/
def State.estimateExact (s : State) (k p : Nat) : Int :=
  (4 * s.reading (16 + k) + s.reading (48 + 4 * k) + s.reading (49 + 4 * k) + s.reading (50 + 4 * k) +
    s.reading (51 + 4 * k)) * 12500 + 16 * (s.obj 0x2300 0x19 * p : Nat)

/-- A sample of an L2 sensor: the estimate, and the run of samples that read more than 8 °C below it (R418). -/
def estimate (k p : Nat) (s : State) : State :=
  let e := s.estimateExact k p
  let low := decide (s.reading (32 + k) * 100000 + 12800000 < e)
  let run := if low then Tbl.at 0 s.pwr.lowRuns k + 1 else 0
  let s1 := { s with pwr := { s.pwr with
    estimates := Tbl.upd 0 s.pwr.estimates k (e / 100000), lowRuns := Tbl.upd 0 s.pwr.lowRuns k run } }
  if run = 16 then raise 85 ((List.range 16).foldl (fun t j => breakSensor (32 + j) t) s1) else s1

/-- Shutdown record (Table 16-6) as its 32 bytes. -/
def shutdownBytes (rot bak sensor : Nat) (temp : Int) (cause : Nat) : List Byte :=
  toBytes 8 rot ++ toBytes 6 bak ++ toBytes 1 sensor ++ toBytes 1 (sensorLayer sensor) ++ toBytes 2 (intBits 16 temp) ++
    toBytes 1 cause ++ List.replicate 13 0

/-- Thermal shutdown: the record is latched, the clocks stop, the pins sleep and VL1 to VL4 go off (R419). -/
def shutdown (sensor : Nat) (temp : Int) (cause : Nat) (s : State) : State :=
  let rec0 := shutdownBytes s.time.rot (Config.bakTime s.freeCtr % 2 ^ 48) sensor temp cause
  let s1 := { s with backup := { s.backup with shutdownRecord := rec0, shutdownLatched := true }, freeCtr := s.freeCtr + 1 }
  let s2 := logEvent (s.stampOf 86) (descSev (s.desc 86)) true s1
  sleepPins { s2 with
    rst := { s2.rst with phase := .shutdown }
    clk := { s2.clk with lantern := .off, memLock := false, memHoldover := false, loops := 0 }
    pwr := { s2.pwr with regOn := 0 }
    pins := { s2.pins with beacon := false, pipe := [], pmWave := [], pmAcc := 0 } }

/-- On the entry to THROTTLE, every designated sector is selected its cool-down slot (R417, R511). -/
def coolDown (s : State) : State :=
  (List.range 16).foldl (fun t k =>
    let v := byteAt (s.obj 0x2300 0x13) k
    if v ≤ 7 then deviceSelect k v false true t else t) s

/-- Thresholds in 1/16 °C. -/
def State.warnAt (s : State) : Int := 16 * (s.obj 0x2300 0x10 : Int)
def State.throttleAt (s : State) : Int := 16 * (s.obj 0x2300 0x11 : Int)

/-- THROTTLE is left 5 °C below its threshold, for WARN, and WARN 5 °C below its own (Table 16-5). -/
def thermalDown (t : Int) (s : State) : State :=
  let s1 := if s.pwr.thermal = 2 ∧ t ≤ s.throttleAt - 80 then raise 81 { s with pwr := { s.pwr with thermal := 1 } } else s
  if s1.pwr.thermal = 1 ∧ t ≤ s1.warnAt - 80 then { s1 with pwr := { s1.pwr with thermal := 0 } } else s1

/-- WARN and THROTTLE are entered at their thresholds (Table 16-5). -/
def thermalUp (t : Int) (s : State) : State :=
  let s1 := if s.pwr.thermal = 0 ∧ s.warnAt ≤ t then raise 81 { s with pwr := { s.pwr with thermal := 1 } } else s
  if s1.pwr.thermal = 1 ∧ s1.throttleAt ≤ t then coolDown (raise 82 { s1 with pwr := { s1.pwr with thermal := 2 } }) else s1

/-- What the comparison after a sample does: shutdown at 115 °C, else the thermal states and waiting NVM writes. -/
def thermal (n : Nat) (s : State) : State :=
  let est := Tbl.at 0 s.pwr.estimates (n - 32)
  if 1840 ≤ s.reading n then shutdown n (s.reading n) (if s.pwr.broken.getLsbD n then 3 else 1) s
  else if 32 ≤ n ∧ n < 48 ∧ 1840 ≤ est then shutdown n est 2 s
  else performNvm (thermalUp s.temperature (thermalDown s.temperature s))

/-- SENSOR_SAMPLE: a junction sensor is sampled, in a thermal shutdown those of L0 alone (R420); `pL2` is the VL2 output power over the last millisecond, in mW (R414 to R421). -/
def execSensorSample (n : Fin 128) (reading : Int) (pL2 : Nat) (s : State) : Host.Outcome State Fault Refusal :=
  match s.rst.phase with
  | .powerOn => done s
  | .held => done s
  | .shutdown => if n.val < 16 then done (judgeReading n.val (storeReading n.val reading s)) else done s
  | _ =>
    let s2 := judgeReading n.val (storeReading n.val reading s)
    let s3 := if 32 ≤ n.val ∧ n.val < 48 then estimate (n.val - 32) pL2 s2 else s2
    done (thermal n.val s3)

/-- Sensors that work: all of them, those of L0 in a thermal shutdown, none while the device is held in reset (R415, R420). -/
def State.sensorsRun (s : State) : Nat := if s.aonRuns then 128 else if s.rst.phase = .shutdown then 16 else 0

/-- SENSOR_SELF_CHECK: the self-check of each second marks the failing sensors broken (R415). -/
def execSensorSelfCheck (failing : BitVec 128) (s : State) : Host.Outcome State Fault Refusal :=
  done ((List.range s.sensorsRun).foldl (fun t n => if failing.getLsbD n then breakSensor n t else t) s)

/-- A sensor's broken bit is cleared by the host: its counts begin anew (R415). -/
def clearBroken (mask : Nat) (s : State) : State :=
  let p := s.pwr
  { s with pwr := { p with
      broken := p.broken &&& ~~~ (BitVec.ofNat 128 mask)
      samples := mapTbl [] (fun l => l.filter (fun x => !bitOf mask x.1)) p.samples
      lowRuns := p.lowRuns.filter (fun e => !bitOf mask (32 + e.1)) } }

/-- THERMAL_SHUTDOWN_EXIT: every L0 sensor has read at most 85 °C for 1 s: the THERMAL_EXIT cold reset (R420). -/
def execThermalShutdownExit (multi role : Bool) (s : State) : Host.Outcome State Fault Refusal :=
  if s.rst.phase = .shutdown ∧ (List.range 16).all (fun n => decide (s.reading n ≤ 1360)) = true then
    done (resetSource 7 false multi role 0 s)
  else done s

/-! PMBus supervision (R422, R423, Table 16-8). -/

/-- Supervisor entry `e` and its fields. -/
def State.supervisor (s : State) (e : Nat) : Nat := fieldAt 64 (s.obj 0x2300 0x31) e
def supEnabled (c : Nat) : Bool := bitOf c 0
def supAddr (c : Nat) : Nat := bitsAt c 1 7
def supAction (c : Nat) : Bool := bitOf c 16
def supPin (c : Nat) : Nat := bitsAt c 24 8

/-- The PMBus master runs: in SERVICE, on a manager or with any entry enabled (R422, Table 18-2). -/
def State.pmbusRuns (s : State) : Bool :=
  decide (s.rst.phase = .service) && (s.manager || (List.range 32).any (fun e => supEnabled (s.supervisor e)))

/-- An entry is faulted: counted, its event raised, and its regulator switched off with ACTION 1 (R423). -/
def supplyFault (e event : Nat) (s : State) : State :=
  let p := s.pwr
  raise event { s with pwr := { p with
    pmbusFaults := Tbl.upd 0 p.pmbusFaults e (satInc 32 (Tbl.at 0 p.pmbusFaults e))
    operationOff := if supAction (s.supervisor e) then insertNat e (p.operationOff.filter (fun j => decide (j ≠ e)))
                    else p.operationOff } }

/-- Bits of STATUS_WORD that fault an entry: [15:11] and [6:2]. -/
def statusFaults : Nat := 0xF87C

/-! What the master drives on the bus (R422, R454, Table 16-7): SMBus framing, PRESUMED (log 169). -/

/-- One bit: the data line changes while the clock is low. -/
def pmBit (b : Bool) : List (Bool × Bool) := [(false, b), (true, b)]

/-- Start, repeated start and stop. -/
def pmStart : List (Bool × Bool) := [(true, true), (true, false)]
def pmRestart : List (Bool × Bool) := (false, true) :: pmStart
def pmStop : List (Bool × Bool) := [(false, false), (true, false), (true, true)]

/-- A byte sent, the acknowledge bit left to the target. -/
def pmSend (v : Nat) : List (Bool × Bool) := (List.range 8).flatMap (fun i => pmBit (bitOf v (7 - i))) ++ pmBit true

/-- A byte received, which the master acknowledges but for the last. -/
def pmReceive (last : Bool) : List (Bool × Bool) := (List.range 8).flatMap (fun _ => pmBit true) ++ pmBit last

/-- One step of the PEC: CRC-8 with polynomial x⁸ + x² + x + 1. -/
def pecStep (c : Nat) : Nat := (if bitOf c 7 then (2 * c) ^^^ 0x107 else 2 * c) % 256

/-- Packet error check of a message. -/
def pec (l : List Nat) : Nat := l.foldl (fun c b => iterate 8 (fun _ => pecStep) ((c ^^^ b) % 256)) 0

/-- A message sent, with its PEC. -/
def pmWrite (addr : Nat) (l : List Nat) : List (Bool × Bool) :=
  pmStart ++ (2 * addr :: l ++ [pec (2 * addr :: l)]).flatMap pmSend ++ pmStop

/-- A read of `n` bytes under a command, with the PEC after them. -/
def pmRead (addr cmd n : Nat) : List (Bool × Bool) :=
  pmStart ++ pmSend (2 * addr) ++ pmSend cmd ++ pmRestart ++ pmSend (2 * addr + 1) ++
    (List.range n).flatMap (fun _ => pmReceive false) ++ pmReceive true ++ pmStop

/-- The read of the alert response address (Table 16-7). -/
def pmAlertRead : List (Bool × Bool) := pmStart ++ pmSend (2 * 0x0C + 1) ++ pmReceive false ++ pmReceive true ++ pmStop

/-- An address that nothing acknowledges. -/
def pmUnanswered (addr : Nat) : List (Bool × Bool) := pmStart ++ pmSend (2 * addr) ++ pmStop

/-- The commands of a poll's four transactions: STATUS_WORD, READ_VOUT, READ_IOUT, READ_TEMPERATURE_1 (R423, Table 16-7). -/
def pollCommands : List Nat := [0x79, 0x8B, 0x8C, 0x8D]

/-- Transactions of a poll that are not acknowledged or fail PEC: that of STATUS_WORD without an answer, the others as `fails` says. -/
def pollFails (answer : Option (BitVec 16)) (fails : BitVec 3) (i : Nat) : Bool :=
  if i = 0 then answer.isNone else fails.getLsbD (i - 1)

/-- Some transaction of the poll of entry `e` fails for the second time in a row (R423). -/
def State.failsAgain (s : State) (e : Nat) (answer : Option (BitVec 16)) (fails : BitVec 3) : Bool :=
  (List.range 4).any (fun i => pollFails answer fails i && decide (Tbl.at 0 s.pwr.busFails (4 * e + i) = 1))

/-- What the master does on the bus in a poll of entry `e` with its answers (R423, Table 16-7). -/
def State.pollWave (s : State) (e : Nat) (answer : Option (BitVec 16)) (fails : BitVec 3) : List (Bool × Bool) :=
  let a := supAddr (s.supervisor e)
  let faulty := match answer with
    | some w => decide (w.toNat &&& statusFaults ≠ 0)
    | none => false
  let off := supAction (s.supervisor e) && (faulty || s.failsAgain e answer fails)
  (if bitOf s.pwr.voutRead e || answer.isNone then [] else pmRead a 0x20 1) ++
    (List.range 4).flatMap (fun i =>
      if pollFails answer fails i then pmUnanswered a else pmRead a (pollCommands.getD i 0x79) 2) ++
    (if faulty then pmWrite a [0x03] else []) ++ (if off then pmWrite a [0x01, 0x00] else [])

/-- The master goes on to drive `l` after what it has yet to drive. -/
def pmDrive (l : List (Bool × Bool)) (s : State) : State :=
  { s with pins := { s.pins with pmWave := s.pins.pmWave ++ l } }

/-- Level that the master reads of a mirror input, released where no pin feeds it (R449, R454): a pin that it does not pull low itself. -/
def State.mirrorHigh (s : State) (i : Nat) : Bool :=
  if s.inputMapped i then
    (s.feeders (if s.pins.changing then s.pins.muxBefore else s.obj 0x2400 1) i).all (fun p =>
      s.pins.driven.getLsbD p || s.inputLevel p)
  else true

/-- What the bus delivers of a STATUS_WORD read, both segments together: either acknowledges, a bit reads low when either segment is low,
and the PEC is checked over what is read; a mirror held low, or with one line alone, spoils the transfer or answers nothing (R454). -/
def State.busAnswer (s : State) (addr : Nat) (own mirror : Option (BitVec 16)) : Option (BitVec 16) :=
  let far := if s.inputMapped 5 && s.inputMapped 6 then mirror else none
  let code := fun (w : BitVec 16) => pec [2 * addr, 0x79, 2 * addr + 1, w.toNat % 256, w.toNat / 256]
  if !s.mirrorHigh 5 || !s.mirrorHigh 6 then none
  else match own, far with
    | some a, some b => if code a &&& code b = code (a &&& b) then some (a &&& b) else none
    | some a, none => some a
    | none, b => b

/-- The failures in a row of a poll's transactions; a second one clears the count. -/
def countFails (e : Nat) (answer : Option (BitVec 16)) (fails : BitVec 3) (s : State) : State :=
  { s with pwr := { s.pwr with busFails := (List.range 4).foldl (fun t i =>
      let n := Tbl.at 0 t (4 * e + i)
      Tbl.upd 0 t (4 * e + i) (if pollFails answer fails i && decide (n = 0) then 1 else 0)) s.pwr.busFails } }

/-- A STATUS_WORD that is read is recorded, and faults the entry by its bits. -/
def statusRead (e : Nat) (answer : Option (BitVec 16)) (s : State) : State :=
  match answer with
  | some w =>
    let s1 := { s with pwr := { s.pwr with pmbusStatus := Tbl.upd 0 s.pwr.pmbusStatus e w.toNat } }
    if w.toNat &&& statusFaults ≠ 0 then supplyFault e 88 s1 else s1
  | none => s

/-- A poll's answers: a STATUS_WORD that may fault the entry, and transactions that fail, twice in a row a bus fault (R423; DEDUCED, log 187:
in a row means in two polls of the entry, and one poll faults it at most once so). -/
def pollAnswer (e : Nat) (answer : Option (BitVec 16)) (fails : BitVec 3) (s : State) : State :=
  let s1 := statusRead e answer (countFails e answer fails s)
  if s.failsAgain e answer fails then supplyFault e 89 s1 else s1

/-- Entries whose VOUT_MODE has been read, entry `e` among them where it answers; one that is not enabled is read anew (Table 16-7). -/
def State.voutKnown (s : State) (e : Nat) (answers : Bool) : Nat :=
  natOfFn 32 (fun j => supEnabled (s.supervisor j) && (bitOf s.pwr.voutRead j || (decide (j = e) && answers)))

/-- A poll of entry `e`, which drives the bus and takes its answers (R423). -/
def pollEntry (e : Nat) (answer : Option (BitVec 16)) (fails : BitVec 3) (s : State) : State :=
  let s1 := pmDrive (s.pollWave e answer fails) s
  drivePins (pollAnswer e answer fails { s1 with pwr := { s1.pwr with
    pollPos := if s.pwr.nextPoll.isSome then s.pwr.pollPos else e, nextPoll := none, voutRead := s.voutKnown e answer.isSome } })

/-- The entry that is polled next: that of an alert, else the next enabled one in ascending order, entry 0 after entry 31 (R422, R423). -/
def State.pollNext (s : State) : Option Nat :=
  (s.pwr.nextPoll.toList ++ (List.range 32).filter (fun e => decide (s.pwr.pollPos < e)) ++ List.range 32).find?
    (fun e => supEnabled (s.supervisor e))

/-- PMBUS_POLL: the next enabled supervisor entry is polled. `answer` and `mirror` are what the targets of the dedicated pins and of the
mirror answer to READ of STATUS_WORD, `fails` says which of the other three reads fail; a mirror line held low spoils them all (R422, R423,
R454). -/
def execPmbusPoll (entry : Fin 32) (answer mirror : Option (BitVec 16)) (fails : BitVec 3) (s : State) :
    Host.Outcome State Fault Refusal :=
  let c := s.supervisor entry.val
  if s.pmbusRuns && supEnabled c && (s.pollNext == some entry.val) then
    done (pollEntry entry.val (s.busAnswer (supAddr c) answer mirror)
      (if !s.mirrorHigh 5 || !s.mirrorHigh 6 then 7 else fails) s)
  else done s

/-- ALERT_N reads low: the dedicated input, at `level`, or the mirror's is low (R454). -/
def State.alertLow (s : State) (level : Bool) : Bool := !level || !s.mirrorHigh 7

/-- PMBUS_ALERT: ALERT_N goes low, PMBUS_ALERT_N at `level`; the address is read, and its entry is polled next (R422, R454). -/
def execPmbusAlert (address : BitVec 7) (level : Bool) (s : State) : Host.Outcome State Fault Refusal :=
  if s.pmbusRuns && s.alertLow level then
    let s1 := drivePins (pmDrive pmAlertRead s)
    match (List.range 32).find? (fun e => supEnabled (s.supervisor e) && decide (supAddr (s.supervisor e) = address.toNat)) with
    | some e => done { s1 with pwr := { s1.pwr with nextPoll := some e } }
    | none => done s1
  else done s

/-- Level that a power-good sample reads: a pin that is no GPIO input reads high (R423). -/
def State.powerGood (s : State) (p : Nat) (ball : Bool) : Bool :=
  if p < 96 ∧ muxFunc (s.muxIn p) = 0 then s.bankPresentPin p && (ball != muxInvert (s.muxIn p)) else true

/-- POWER_GOOD_SAMPLE: an entry's power-good pin is sampled, its ball at level `ball`; the third low sample in a row faults the
entry (R423). -/
def execPowerGoodSample (entry : Fin 32) (ball : Bool) (s : State) : Host.Outcome State Fault Refusal :=
  let c := s.supervisor entry.val
  if s.pmbusRuns && supEnabled c && decide (supPin c < 96) then
    let n := if s.powerGood (supPin c) ball then 0 else min (Tbl.at 0 s.pwr.pgLow entry.val + 1) 4
    let s1 := { s with pwr := { s.pwr with pgLow := Tbl.upd 0 s.pwr.pgLow entry.val n } }
    done (if n = 3 then
        drivePins (pmDrive (if supAction c then pmWrite (supAddr c) [0x01, 0x00] else []) (supplyFault entry.val 88 s1))
      else s1)
  else done s

end Sys2Proof.Machine
end

