-- ==== Sys2Proof/Machine/Loading.lean ====
section
/-! DEFINITION. Configuration loading and scrubbing: the Survey port's instructions, image loads, slot claims, the two scrubbers
and region invalidation (R362 to R384, R513, R515). -/

namespace Sys2Proof.Machine

/-! Regions and slots. -/

/-- Region state replaced. -/
def setRegion (v k : Nat) (r : Region) (s : State) : State :=
  { s with cfg := { s.cfg with regions := Tbl.upd .empty s.cfg.regions (16 * v + k) r } }

/-- Code of a region state (R385). -/
def regionCode : Region → Nat
  | .empty => 0
  | .loading => 1
  | .valid => 2
  | .faulty => 3
  | .failed => 4

/-- Code of a load state (Table 14-8). -/
def loadCode : Load → Nat
  | .idle => 0
  | .header => 1
  | .frames => 2
  | .signature => 3
  | .checking => 4
  | .done => 5
  | .failed => 6

/-- A load is in progress: from its first byte until it is done or failed (R368). -/
def State.loadRuns (s : State) : Bool :=
  match s.cfg.load with
  | .header => true
  | .frames => true
  | .signature => true
  | .checking => true
  | _ => false

/-- A load holds the claim of slot `v`: from header acceptance until done or failed (R375). -/
def State.loadClaims (s : State) (v : Nat) : Bool :=
  s.loadRuns && decide (s.cfg.load ≠ .header) && decide (s.cfg.slot = v)

/-- A pending selection names slot `v` for sector `k` (R52). -/
def State.pendingNames (s : State) (v k : Nat) : Bool :=
  s.stg.pend.any (fun w => w.parts.any (fun p =>
    decide (p.key = okey 0x2000 0x16) && decide (byteAt (p.mask &&& p.live) k = 0xFF) && decide (byteAt p.value k = v)))

/-- Slot `v` is the context in force in sector `k`, or a pending selection names it for `k`. -/
def State.slotActive (s : State) (v k : Nat) : Bool := decide (s.ctxOf k = v) || s.pendingNames v k

/-- Secure boot is on (R463). -/
def State.secureBoot (s : State) : Bool := decide (s.sec.life = 2)

/-- Sectors that a mask names. -/
def maskSectors (m : Nat) : List Nat := whichBelow 16 (bitOf m)

/-! Loads (R365 to R375). -/

/-- Load status (Table 14-8). -/
def State.loadStatus (s : State) : Nat :=
  loadCode s.cfg.load + s.cfg.slot * 16 + b2n s.secureBoot * 128 + s.cfg.error * 256 + s.cfg.bytes % 2 ^ 32 * 2 ^ 16 +
    s.cfg.mask * 2 ^ 48

/-- Storage of a slot without the frames of the sectors in a mask. -/
def dropFrames (slot mask : Nat) (t : Tbl Nat) : Tbl Nat :=
  t.filter (fun e => !(decide (e.1 / 2 ^ 32 = slot) && bitOf mask (bitsAt e.1 28 4)))

/-- The sectors of a mask whose fence keeps the configuration engine out: its requests for their frames are answered FENCED and change
nothing (R264, Table 10-7; DEDUCED, log 196). -/
def State.reachable (s : State) (mask : Nat) : Nat := natOfFn 16 (fun k => bitOf mask k && !s.fenced k)

/-- The slot's storage of the loaded sectors reads 0. -/
def clearSlot (s : State) : State :=
  let m := s.reachable s.cfg.mask
  { s with cfg := { s.cfg with
      frames := dropFrames s.cfg.slot m s.cfg.frames, upsets := dropFrames s.cfg.slot m s.cfg.upsets,
      checks := dropFrames s.cfg.slot m s.cfg.checks } }

/-- A load ends with an error code and event 1345 (R370). -/
def loadEnds (code : Nat) (s : State) : State :=
  raise 1345 { s with cfg := { s.cfg with
    load := .failed, error := code, fails := satInc 32 s.cfg.fails, buffered := [], stream := [], sigBlock := [], armed := false } }

/-- A load that has started fails: its sectors are FAILED and its frames discarded (R370, R371). -/
def loadFails (code : Nat) (s : State) : State :=
  loadEnds code ((maskSectors s.cfg.mask).foldl (fun t k => setRegion s.cfg.slot k .failed t) (clearSlot s))

/-- An aborted load ends with code 14 (R368). -/
def abortLoad (s : State) : State :=
  let t := if s.cfg.load = .header then loadEnds 14 s else if s.loadRuns then loadFails 14 s else s
  { t with cfg := { t.cfg with partBytes := if s.loadRuns then [] else t.cfg.partBytes } }

/-- A refusal on a held slot claim is recorded, with event 1350 (R375). -/
def slotClaimRefused (slot holder : Nat) (s : State) : State :=
  raise 1350 { s with cfg := { s.cfg with lastRefusal := slot + 8 * holder } }

/-- Header fields (Table 14-2). -/
def headMagic (h : Nat) : Nat := h % 2 ^ 32
def headFormat (h : Nat) : Nat := bitsAt h 32 16
def headPart (h : Nat) : Nat := byteAt h 6
def headGrades (h : Nat) : Nat := byteAt h 7 % 8
def headSlot (h : Nat) : Nat := byteAt h 8 % 8
def headSigned (h : Nat) : Bool := bitOf h 72
def headMask (h : Nat) : Nat := bitsAt h 80 16
def headFrames (h : Nat) : Nat := bitsAt h 96 32
def headLength (h : Nat) : Nat := bitsAt h 128 32
def headContract (h : Nat) : Nat := bitsAt h 256 256

/-- A reserved header bit is set. -/
def headReserved (h : Nat) : Bool :=
  decide (byteAt h 7 / 8 ≠ 0) || decide (byteAt h 8 / 8 ≠ 0) || decide (byteAt h 9 / 2 ≠ 0) || decide (bitsAt h 160 96 ≠ 0)

/-- Bit of GRADES for the part's grade. -/
def gradeBit : Grade → Nat
  | .p => 0
  | .h => 1
  | .n => 2

/-- The first check of Table 14-7 that a header fails, 0 when it passes (R370). -/
def State.headerError (s : State) (h : Nat) : Nat :=
  if headMagic h ≠ 0x4333584B then 1
  else if headFormat h ≠ 1 then 2
  else if headPart h ≠ 3 ∨ bitOf (headGrades h) (gradeBit s.part.grade) = false then 3
  else if s.sec.life = 0 ∨ s.sec.life = 4 then 15
  else if (maskSectors (headMask h)).any (fun k => s.slotActive (headSlot h) k) then 4
  else if s.cfg.request = some (headSlot h) then 5
  else if headMask h = 0 ∨ clearBits (headMask h) (blockSectors (headContract h)) ≠ 0 ∨ blockMalformed (headContract h) = true ∨
      headReserved h = true then 6
  else if headLength h ≠ 64 + 324 * headFrames h + 4 ∨ headFrames h = 0 ∨ 278544 < headFrames h then 7
  else if s.secureBoot = true ∧ headSigned h = false then 8
  else 0

/-- The header of the load in progress or the last one. -/
def State.header (s : State) : Nat := ofBytes s.cfg.header

/-- The engine takes image bytes of a path: its instruction is selected, CFG_WIDE for the wide pins and CFG_LOAD for TDI, and no chain is
spliced (R363, R369). -/
def State.takesBytes (s : State) (wide : Bool) : Bool :=
  s.l0Runs && decide (s.cfg.tap = if wide then 0x11 else 0x10) && s.cfg.splice.isNone

/-- A header that passes: the sectors are LOADING and the clear begins (R370, R371). -/
def acceptHeader (h : Nat) (s : State) : State :=
  let s1 := { s with cfg := { s.cfg with
    load := .frames, stream := toBytes 64 h, framesSeen := 0, cleared := false, buffered := [], sigBlock := [] } }
  (maskSectors (headMask h)).foldl (fun t k => setRegion (headSlot h) k .loading t) s1

/-- The 64th byte completes the header, and its checks decide (R370). -/
def takeHeader (bytes : List Byte) (s : State) : State :=
  let h := ofBytes bytes
  let e := s.headerError h
  let s1 := { s with cfg := { s.cfg with header := toBytes 64 h, mask := headMask h, slot := headSlot h } }
  if e = 0 then acceptHeader h s1
  else if e = 5 then loadEnds 5 (slotClaimRefused (headSlot h) 1 s1)
  else loadEnds e s1

/-- Number of indices of a frame type, 0 for a reserved type (Table 14-4). -/
def typeIndices (t : Nat) : Nat :=
  match t with
  | 0 => 32
  | 1 => 1
  | 2 => 30
  | 3 => 1
  | 4 => 1
  | 5 => 1
  | _ => 0

/-- A frame address breaks Table 14-3 or Table 14-4 (code 9). -/
def badAddress (a : Nat) : Bool :=
  let t := bitsAt a 15 4
  decide (typeIndices t ≤ bitsAt a 10 5) || (decide (2 ≤ t) && decide (bitsAt a 19 5 ≠ 0)) ||
    (decide (t = 5) && decide (bitsAt a 24 4 ≠ 0)) || decide (a % 1024 ≠ 0)

/-- The CFG to NOC crossing is synchronous and its divider ratio is above 8, while CFG runs from the root: it transfers undefined values
(R176, R393, R394). -/
def State.cfgBroken (s : State) : Bool :=
  decide (4 < bitsAt (s.obj 0x2100 3) 4 4) && !bitOf (s.obj 0x2100 4) 5 &&
  (match s.clk.lantern with
    | .off => false
    | .locking => false
    | _ => true)

/-- What is stored with a payload: its CRC-16 in bits [15:0], with the generator and preset of R200, and above it 8 check bits for each of
its 40 words (R371). -/
def frameChecks (v : Nat) : Nat :=
  crc16 0xFFFF ((List.range 2560).map (bitOf v)) + packFn 8 40 (fun i => Config.secded (bitsAt v (64 * i) 64)) * 2 ^ 16

/-- A frame's payload is stored with its check bits and CRC: the later of two is the one kept (R367, R371); over a broken crossing a free
value arrives (R176), and into a fenced sector nothing (R264). -/
def storeFrame (slot addr payload : Nat) (s0 : State) : State :=
  let v := if s0.cfgBroken then Config.undefinedBits s0.freeCtr % 2 ^ 2560 else payload
  let s := if s0.cfgBroken then s0.draw else s0
  if s.fenced (bitsAt addr 28 4) then s
  else { s with cfg := { s.cfg with
      frames := Tbl.upd 0 s.cfg.frames (frameKey slot addr) v, upsets := Tbl.upd 0 s.cfg.upsets (frameKey slot addr) 0
      checks := Tbl.upd 0 s.cfg.checks (frameKey slot addr) (frameChecks v) } }

/-- A frame completes: its address is checked, and it is stored, or buffered while the clear runs (R366, R371). -/
def takeFrame (bytes : List Byte) (s : State) : State :=
  let a := ofBytes (bytes.take 4)
  let v := ofBytes (bytes.drop 4)
  let s1 := { s with cfg := { s.cfg with framesSeen := s.cfg.framesSeen + 1, stream := s.cfg.stream ++ bytes } }
  if badAddress a then loadFails 9 s1
  else if bitOf s.cfg.mask (bitsAt a 28 4) = false then loadFails 10 s1
  else if s.cfg.cleared then storeFrame s.cfg.slot a v s1
  else { s1 with cfg := { s1.cfg with buffered := s1.cfg.buffered ++ [(a, v)] } }

/-- SLOT_CLEAR_DONE: the clear ends and the buffered frames are written in order (R367, R371). -/
def execSlotClearDone (s : State) : Host.Outcome State Fault Refusal :=
  if s.loadRuns = true ∧ s.cfg.load ≠ .header ∧ s.cfg.cleared = false then
    let s1 := clearSlot { s with cfg := { s.cfg with cleared := true, buffered := [] } }
    done (s.cfg.buffered.foldl (fun t f => storeFrame s.cfg.slot f.1 f.2 t) s1)
  else done s

/-- The trailer completes: a CRC that does not match ends the load; a signed image's signature block follows, else the checks begin (R365,
R372). -/
def takeTrailer (bytes : List Byte) (s : State) : State :=
  if ofBytes bytes ≠ crc32c s.cfg.stream then loadFails 11 s
  else { s with cfg := { s.cfg with
    stream := s.cfg.stream ++ bytes, load := if headSigned s.header then .signature else .checking } }

/-- The signature block has arrived whole, and the checks begin. -/
def takeBlock (block : List Byte) (s : State) : State := { s with cfg := { s.cfg with load := .checking, sigBlock := block } }

/-- Bytes of the part of the image that is due: the header, a frame, the trailer, the signature block; none where the load takes no further
byte (R365, R368). -/
def State.partSize (s : State) : Nat :=
  match s.cfg.load with
  | .header => 64
  | .frames => if s.cfg.framesSeen < headFrames s.header then 324 else 4
  | .signature => 3081
  | _ => 0

/-- A part of the image is complete. -/
def takePart (bytes : List Byte) (s : State) : State :=
  match s.cfg.load with
  | .header => takeHeader bytes s
  | .frames => if s.cfg.framesSeen < headFrames s.header then takeFrame bytes s else takeTrailer bytes s
  | _ => takeBlock bytes s

/-- The bytes that have come make parts of the image; those after its last byte are ignored and not counted (R368, R373). -/
def takeParts : Nat → State → State
  | 0, s => s
  | n + 1, s =>
    let k := s.partSize
    if k = 0 then { s with cfg := { s.cfg with bytes := s.cfg.bytes - s.cfg.partBytes.length, partBytes := [] } }
    else if s.cfg.partBytes.length < k then s
    else takeParts n (takePart (s.cfg.partBytes.take k) { s with cfg := { s.cfg with partBytes := s.cfg.partBytes.drop k } })

/-- The engine takes bytes: the first one after a selection starts a load (R368). -/
def takeBytes (bytes : List Byte) (s : State) : State :=
  if bytes = [] then s
  else if s.loadRuns then
    takeParts (bytes.length + 1) { s with cfg := { s.cfg with
      bytes := s.cfg.bytes + bytes.length, partBytes := s.cfg.partBytes ++ bytes } }
  else if s.cfg.armed then
    takeParts (bytes.length + 1) { s with cfg := { s.cfg with
      load := .header, error := 0, bytes := bytes.length, partBytes := bytes, armed := false } }
  else s

/-- Bits make bytes, bit 0 of each first, as many as `n`; what is left over. -/
def bytesOfBits : Nat → List Bool → List Byte × List Bool
  | 0, l => ([], l)
  | n + 1, l =>
    if l.length < 8 then ([], l)
    else
      let r := bytesOfBits n (l.drop 8)
      (BitVec.ofNat 8 (natOfFn 8 (fun i => l.getD i false)) :: r.1, r.2)

/-- The bits of bytes, bit 0 of each first. -/
def bitsOfBytes (l : List Byte) : List Bool := l.flatMap (fun b => (List.range 8).map (fun i => b.getLsbD i))

/-- Shift-DR of CFG_LOAD: the 1-bit register passes TDI to TDO, and the engine takes a byte for every 8 bits, those left over carrying over
(R369). -/
def shiftBits (bits : List Bool) (s : State) : State :=
  let r := bytesOfBits (s.cfg.bits.length + bits.length) (s.cfg.bits ++ bits)
  takeBytes r.1 { s with cfg := { s.cfg with
    bits := r.2, tdo := (s.cfg.pass :: bits).take bits.length, pass := bits.getLastD s.cfg.pass } }

/-- Bytes come on TWCK edges: while a chain is spliced they go to its wide port, two edges later (R363, R369). -/
def wideEdges (bytes : List Byte) (s : State) : State :=
  if s.cfg.splice.isSome then
    let l := s.cfg.twd ++ bytes
    { s with cfg := { s.cfg with chainWide := l.take (l.length - 2), twd := l.drop (l.length - 2) } }
  else if s.takesBytes true then takeBytes bytes s
  else s

/-- What is still to come of a part of the image, on either path, after the bytes and bits of it that have come. -/
def comesRest (wide : Bool) (part : List Byte) (s : State) : State :=
  let rest := part.drop s.cfg.partBytes.length
  if wide then wideEdges rest s else shiftBits ((bitsOfBytes rest).drop s.cfg.bits.length) s

/-- A part of an image comes on the wide pins or at TDI; `due` says that the engine waits for such a part. A spliced manager passes the wide
pins on (R363, R369). -/
def imagePart (wide due : Bool) (part : List Byte) (s : State) : State :=
  if s.cfg.splice.isSome then (if wide then wideEdges part s else s)
  else if s.takesBytes wide && due then comesRest wide part s
  else s

/-- IMAGE_HEADER: the 64th byte completes the header, and its checks decide (R370). -/
def execImageHeader (wide : Bool) (header : BitVec 512) (s : State) : Host.Outcome State Fault Refusal :=
  done (imagePart wide (decide (s.cfg.load = .header) || (s.cfg.armed && !s.loadRuns)) (toBytes 64 header.toNat) s)

/-- IMAGE_FRAME: a frame completes (R366, R371). -/
def execImageFrame (wide : Bool) (address : BitVec 32) (payload : BitVec 2560) (s : State) : Host.Outcome State Fault Refusal :=
  done (imagePart wide (decide (s.cfg.load = .frames) && decide (s.cfg.framesSeen < headFrames s.header))
    (toBytes 4 address.toNat ++ toBytes 320 payload.toNat) s)

/-- IMAGE_TRAILER: the trailer arrives and the CRC is compared; a signed image's signature block follows, with this command or
with a later one (R365, R368, R372). -/
def execImageTrailer (wide : Bool) (crc : BitVec 32) (block : List Byte) (s : State) : Host.Outcome State Fault Refusal :=
  done (imagePart wide (decide (s.cfg.load = .signature) || (decide (s.cfg.load = .frames) &&
      decide (s.cfg.framesSeen = headFrames s.header)))
    (if s.cfg.load = .signature then block else toBytes 4 crc.toNat ++ block) s)

/-- Public key and signature of a signature block (Table 14-6). -/
def sigKey (b : List Byte) : List Byte := (b.drop 8).take 1793
def sigBytes (b : List Byte) : List Byte := b.drop 1801

/-- The block names its format, and its key is the owner's (code 12). -/
def State.ownerSigned (s : State) (b : List Byte) : Bool :=
  decide (b.take 6 = [0x4B, 0x58, 0x33, 0x53, 0x01, 0x00]) &&
    decide (fixLen 32 (Config.shake256 (sigKey b)) = s.nvm.ownerDigest)

/-- Digest over bytes 0 to LENGTH − 1 (R372, R467). -/
def State.imageHash (s : State) : List Byte := fixLen 32 (Config.shake256 s.cfg.stream)

/-- What the checks after the CRC find: an error code, 0 for none (R372). -/
def State.imageVerdict (s : State) : Nat :=
  if headSigned s.header = true ∧ s.secureBoot = true then
    if s.ownerSigned s.cfg.sigBlock = false then 12
    else if Config.falconVerify (sigKey s.cfg.sigBlock) s.imageHash (sigBytes s.cfg.sigBlock) then 0
    else 13
  else 0

/-- A sector of a good load: its contract block and digest are stored and its region is VALID. -/
def validate (hash : Nat) (k : Nat) (s : State) : State :=
  setRegion s.cfg.slot k .valid { s with cfg := { s.cfg with
    contracts := Tbl.upd 0 s.cfg.contracts (16 * s.cfg.slot + k) (headContract s.header)
    digests := Tbl.upd 0 s.cfg.digests (16 * s.cfg.slot + k) hash } }

/-- A load that ends with code 12 or 13 of Table 14-7 is a security alarm (Table 19-7, LOAD_AUTH). -/
def loadAuth (code : Nat) (s : State) : State := if code = 12 ∨ code = 13 then alarm 0x20 s else s

/-- IMAGE_CHECK_DONE: the checks end: the regions are VALID with event 1344, or the load fails (R370, R372). A region that a power-up of
VL2 has emptied meanwhile stays EMPTY (R385; DESIGN CHOICE, log 188). -/
def execImageCheckDone (s : State) : Host.Outcome State Fault Refusal :=
  if s.cfg.load = .checking ∧ s.cfg.cleared = true then
    if s.imageVerdict ≠ 0 then done (loadAuth s.imageVerdict (loadFails s.imageVerdict s))
    else
      let ks := (maskSectors s.cfg.mask).filter (fun k => decide (s.region s.cfg.slot k = .loading))
      let s1 := ks.foldl (fun t k => validate (ofBytes s.imageHash) k t) s
      done (raise 1344 { s1 with cfg := { s1.cfg with
        load := .done, loads := wrapInc 32 s1.cfg.loads, stream := [], sigBlock := [] } })
  else done s

/-! The Survey port's instructions (R362 to R364, R368, R373). -/

/-- The test access port answers: power-on reset is released, and RESET_N is not held low. -/
def State.tapRuns (s : State) : Bool := decide (s.rst.phase ≠ .powerOn) && decide (s.rst.phase ≠ .held)

/-- What the instruction register captures: 0b00_0000_0001 (R362). -/
def irCapture : Nat := 1

/-- What lies between TDI and TDO in Shift-DR: the data register of the instruction in force, whose length the boundary-scan file alone
gives for that register, or a spliced manager's one bypass stage, and then the chain port that is spliced (R362, R363, Table 14-1). -/
structure ScanPath where
  own : Option Nat
  chain : Option Nat
  deriving DecidableEq, Repr

/-- The scan path (R363). -/
def State.scanPath (s : State) : ScanPath :=
  let own := match s.cfg.tap with
    | 0 => none
    | 1 => some 32
    | 2 => none
    | 0x12 => some 64
    | 0x13 => some 128
    | 0x14 => some 4
    | 0x15 => some 40
    | _ => some 1
  if s.cfg.splice.isSome then ⟨some 1, s.cfg.splice⟩ else ⟨own, none⟩

/-- Instruction codes that continue a load in progress (R368): CFG_LOAD, CFG_WIDE, CFG_STATUS, IDCODE, BYPASS. -/
def continuesLoad (code : Nat) : Bool :=
  decide (code = 0x10) || decide (code = 0x11) || decide (code = 0x12) || decide (code = 1) || decide (code = 0x3FF)

/-- Update-IR selects an instruction, whose data register captures `tdr`. A spliced manager's port is one bypass stage, and
CHAIN_SEL alone reaches it (R363). -/
def selectTap (code tdr : Nat) (s : State) : State :=
  if s.tapRuns = false ∨ (s.cfg.splice.isSome = true ∧ code ≠ 0x14) then s
  else
    let s1 := if continuesLoad code then s else abortLoad s
    let arms := !s1.loadRuns && (decide (code = 0x10) || decide (code = 0x11))
    drivePins { s1 with cfg := { s1.cfg with
      tap := code, tdr := tdr, irOut := irCapture, armed := s1.cfg.armed || arms, bits := if arms then [] else s1.cfg.bits } }

/-- The boundary-scan register takes new contents, which the spec leaves to a file of its own (R362). -/
def loadBoundary (s : State) : State :=
  if s.tapRuns = false ∨ s.cfg.splice.isSome = true then s else { s.draw with cfg := { s.cfg with boundary := s.freeCtr } }

/-- EXTEST: the boundary-scan register is selected and drives the pins (R362). -/
def execExtest (s : State) : Host.Outcome State Fault Refusal :=
  done (selectTap 0 (Config.boundaryScan s.freeCtr) (loadBoundary s))

/-- Identification code: 0x0B03_096F under the major stepping (R362). -/
def State.idcode (s : State) : Nat := s.part.stepping / 256 % 16 * 2 ^ 28 + 0x0B03096F

/-- IDCODE: the identification register is selected and captures the code (R362). -/
def execIdcode (s : State) : Host.Outcome State Fault Refusal := done (selectTap 1 s.idcode s)

/-- SAMPLE/PRELOAD: the boundary-scan register is captured and loaded; the pins keep their functions (R362). -/
def execSamplePreload (s : State) : Host.Outcome State Fault Refusal :=
  done (selectTap 2 (Config.boundaryScan s.freeCtr) (loadBoundary s))

/-- CLAMP: the pins hold the boundary-scan register's values, with the bypass register selected (R362). -/
def execClamp (s : State) : Host.Outcome State Fault Refusal := done (selectTap 3 0 s)

/-- HIGHZ: the outputs float, with the bypass register selected (R362). -/
def execHighz (s : State) : Host.Outcome State Fault Refusal := done (selectTap 4 0 s)

/-- BYPASS, or any code of no instruction: the bypass register is selected (R362). -/
def execBypass (s : State) : Host.Outcome State Fault Refusal := done (selectTap 0x3FF 0 s)

/-- TEST_LOGIC_RESET: IDCODE is selected, a splice ends and a load in progress is aborted (R362, R363, R368). -/
def execTestLogicReset (s : State) : Host.Outcome State Fault Refusal :=
  if s.tapRuns then
    let s1 := abortLoad s
    done (drivePins { s1 with cfg := { s1.cfg with tap := 1, tdr := s.idcode, splice := none, twd := [], armed := false, bits := [] } })
  else done s

/-- CFG_LOAD: image bytes are taken from TDI (R368, R369). -/
def execCfgLoad (bits : List Bool) (s : State) : Host.Outcome State Fault Refusal :=
  let s1 := selectTap 0x10 0 s
  done (if s1.takesBytes false then shiftBits bits s1 else s1)

/-- CFG_WIDE: image bytes are taken on the wide pins (R368, R369); a spliced manager's port passes them on (R363). -/
def execCfgWide (bytes : List Byte) (s : State) : Host.Outcome State Fault Refusal :=
  done (wideEdges bytes (selectTap 0x11 0 s))

/-- CFG_STATUS: the load status is captured (R373). -/
def execCfgStatus (s : State) : Host.Outcome State Fault Refusal := done (selectTap 0x12 s.loadStatus s)

/-- The chain port that a CHAIN_SEL word splices, if any; in one-chain mode only port 0 (R245, R363). -/
def State.spliced (s : State) (w : Nat) : Option Nat :=
  if bitOf w 2 = false then none
  else if s.obj 0x3600 0x10 = 0 ∧ w % 4 ≠ 0 then s.cfg.splice
  else some (w % 4)

/-- CHAIN_SEL: on a manager a chain port is spliced or the splice ends; on a worker it acts as BYPASS (R363). -/
def execChainSel (word : BitVec 4) (s : State) : Host.Outcome State Fault Refusal :=
  if s.tapRuns = false then done s
  else if s.manager then
    let s1 := selectTap 0x14 word.toNat s
    done { s1 with cfg := { s1.cfg with
      splice := s1.spliced word.toNat
      twd := if s1.spliced word.toNat = s1.cfg.splice then s1.cfg.twd else [] } }
  else done (selectTap 0x3FF 0 s)

/-! Scrubbing (R378 to R383, R513, R515). -/

/-- Frames of a region: 1,089 in station 0 of a sector, 1,088 in each other (R366). -/
def regionFrames : Nat := 17409

/-- Type and index, in plot 0 of a station, of the frame at a place in address order (Tables 14-3 and 14-4). -/
def plotZeroFrame (n : Nat) : Nat × Nat :=
  if n < 32 then (0, n) else if n = 32 then (1, 0) else if n < 63 then (2, n - 33) else (n - 60, 0)

/-- Address, without its sector, of frame `n` of a station in address order; `z` frames stand in its plot 0. -/
def stationFrameAddr (z n : Nat) : Nat :=
  if n < z then
    let f := plotZeroFrame n
    f.1 * 2 ^ 15 + f.2 * 2 ^ 10
  else
    let p := (n - z) / 33 + 1
    let r := (n - z) % 33
    if r < 32 then p * 2 ^ 19 + r * 2 ^ 10 else p * 2 ^ 19 + 2 ^ 15

/-- Address of frame `n` of a region of sector `k`, in address order. -/
def regionFrameAddr (k n : Nat) : Nat :=
  k * 2 ^ 28 +
    (if n < 1089 then stationFrameAddr 66 n
     else ((n - 1089) / 1088 + 1) * 2 ^ 24 + stationFrameAddr 65 ((n - 1089) % 1088))

/-- Slot and sector of descriptor `r` of scrubber `half` (R382). -/
def descSlot (r : Nat) : Nat := r / 8
def descSector (half r : Nat) : Nat := 8 * half + r % 8

/-- A scrubber reads the region: VALID or FAULTY, in a slot that no load holds (R378). -/
def State.scrubbed (s : State) (half r : Nat) : Bool :=
  !s.loadClaims (descSlot r) &&
  (match s.region (descSlot r) (descSector half r) with
   | .valid => true
   | .faulty => true
   | _ => false)

/-- The first region from `r` below `hi` that a scrubber reads. -/
def State.nextRegion (s : State) (half r hi : Nat) : Option Nat :=
  (List.range 64).find? (fun j => decide (r ≤ j) && decide (j < hi) && s.scrubbed half j)

/-- The position at which a scrubber reads next among the regions from `p` below `hi`. -/
def State.scrubAt (s : State) (half hi : Nat) (p : ScrubPos) : Option ScrubPos :=
  match s.nextRegion half p.region hi with
  | none => none
  | some r => some (if r = p.region then p else ⟨r, 0⟩)

/-- The position after a read; `none` when no region below `hi` is left. -/
def State.scrubAfter (s : State) (half hi : Nat) (p : ScrubPos) : Option ScrubPos :=
  if p.frame + 1 < regionFrames then some ⟨p.region, p.frame + 1⟩ else s.scrubAt half hi ⟨p.region + 1, 0⟩

/-- Upset bits in code word `i` of a payload. -/
def upsetBits (u i : Nat) : Nat := popCount 64 (bitsAt u (64 * i) 64)

/-- What the checks of a frame find: two upset bits in a word are detected, one is corrected, more or upset check bits may be
either (R379, R515). -/
def scrubVerdict (u : Nat) (found : FrameCheck) : FrameCheck :=
  let ws := (List.range 40).map (upsetBits u)
  if ws.any (fun n => n == 2) then .uncorrectable
  else if ws.any (fun n => decide (3 ≤ n)) then found
  else if ws.any (fun n => n == 1) then (if found = .clean then .corrected else found)
  else found

/-- What remains of the upsets after a write-back: nothing in a word with one upset bit, an open pattern in a word with more
(R515). -/
def upsetsLeft (n u : Nat) : Nat :=
  packFn 64 40 (fun i => if upsetBits u i ≤ 1 then 0 else Config.upsetCode n i)

/-- Record of the last scrub error (0x2800 sub 0x0E). -/
def scrubRecord (addr slot code rot : Nat) : Nat := addr * 2 ^ 32 + slot * 2 ^ 29 + code * 2 ^ 27 + rot % 2 ^ 27

/-- The safe action of a region that becomes FAULTY while it is in force (R381). -/
def safeAction (slot k : Nat) (s : State) : State :=
  let a := byteAt (s.obj 0x2800 8) k
  if s.ctxOf k = slot ∧ a ≤ 8 then deviceSelect k a true false s else s

/-- A frame is found uncorrectable, or its CRC fails (R379). -/
def frameFails (slot k addr code : Nat) (s : State) : State :=
  let s1 := { s with cfg := { s.cfg with
    uncorrectable := satInc 32 s.cfg.uncorrectable, lastError := scrubRecord addr slot code s.time.rot } }
  if s.region slot k = .faulty then s1 else safeAction slot k (raise 1347 (setRegion slot k .faulty s1))

/-- A frame is corrected (R379). -/
def frameCorrected (slot addr u : Nat) (s : State) : State :=
  let left := upsetsLeft s.freeCtr u
  raiseOnce 1346 { (if left = 0 then s else s.draw) with cfg := { s.cfg with
    upsets := Tbl.upd 0 s.cfg.upsets (frameKey slot addr) left
    corrected := satInc 32 s.cfg.corrected, lastError := scrubRecord addr slot 1 s.time.rot } }

/-- Over a broken crossing what a scrubber writes back is a free value too (R176). -/
def writtenBack (slot addr : Nat) (s : State) : State :=
  if s.cfgBroken then
    { s.draw with cfg := { s.cfg with
      upsets := Tbl.upd 0 s.cfg.upsets (frameKey slot addr) (Config.undefinedBits s.freeCtr % 2 ^ 2560) } }
  else s

/-- A scrubber reads the frame at a position; `flips` are the bits upset since it was last read. Over a broken crossing it sees free bits
upset (R176). -/
def scrubFrame (half : Nat) (p : ScrubPos) (flips : BitVec 2560) (found : FrameCheck) (s : State) : State :=
  let slot := descSlot p.region
  let k := descSector half p.region
  let addr := regionFrameAddr k p.frame
  let u := Tbl.at 0 s.cfg.upsets (frameKey slot addr) ^^^ flips.toNat
  let s1 := { s with cfg := { s.cfg with upsets := Tbl.upd 0 s.cfg.upsets (frameKey slot addr) u } }
  let s1 := if s.cfgBroken then s1.draw else s1
  let seen := if s.cfgBroken then Config.undefinedBits s.freeCtr % 2 ^ 2560 else u
  match scrubVerdict seen found with
  | .clean => s1
  | .corrected => writtenBack slot addr (frameCorrected slot addr seen s1)
  | .uncorrectable => frameFails slot k addr 2 s1
  | .crc => frameFails slot k addr 3 s1

/-- The other scrubber's descriptors are checked at the start of a pass: each repair is counted and raised as event 1349 (R382). -/
def peerCheck (repaired : List (Fin 64)) (s : State) : State :=
  repaired.dedup.foldl (fun t _ => raise 1349 { t with cfg := { t.cfg with peer := satInc 32 t.cfg.peer } }) s

/-- A pass of a scrubber is complete (R378, R383). -/
def passDone (half : Nat) (s : State) : State :=
  if half = 0 then
    { s with cfg := { s.cfg with posA := {}, passesA := wrapInc 32 s.cfg.passesA, warmPassA := false } }
  else { s with cfg := { s.cfg with posB := {}, passesB := wrapInc 32 s.cfg.passesB, warmPassB := false } }

/-- Background position of a scrubber, and its replacement. -/
def State.scrubPos (s : State) (half : Nat) : ScrubPos := if half = 0 then s.cfg.posA else s.cfg.posB
def setScrubPos (half : Nat) (p : ScrubPos) (s : State) : State :=
  if half = 0 then { s with cfg := { s.cfg with posA := p } } else { s with cfg := { s.cfg with posB := p } }

/-- A read at position `p` starts a pass of a scrubber. -/
def State.passStart (s : State) (half : Nat) (p : ScrubPos) : Bool :=
  decide (p.frame = 0) && decide (s.scrubAt half 64 {} = some p)

/-- Position of the next background read: the one reached, or the start of a new pass when no region is left in this one. -/
def State.scrubNext (s : State) (half : Nat) : Option ScrubPos :=
  match s.scrubAt half 64 (s.scrubPos half) with
  | some p => some p
  | none => s.scrubAt half 64 {}

/-- The next background read starts a pass, at which the other scrubber's state is checked (R382). -/
def State.checksPeer (s : State) (half : Nat) : Bool :=
  match s.scrubNext half with
  | some p => s.passStart half p
  | none => false

/-- A background read at position `p`, and the pass's end after its last frame. -/
def scrubPass (half : Nat) (p : ScrubPos) (repaired : List (Fin 64)) (flips : BitVec 2560) (found : FrameCheck) (s : State) :
    State :=
  let s1 := if s.passStart half p then peerCheck repaired s else s
  let s2 := scrubFrame half p flips found s1
  match s2.scrubAfter half 64 p with
  | some q => setScrubPos half q s2
  | none => passDone half s2

/-- A background read: at the position reached, or at the start of a new pass when no region is left in this one. -/
def scrubBackground (half : Nat) (repaired : List (Fin 64)) (flips : BitVec 2560) (found : FrameCheck) (s : State) : State :=
  match s.scrubAt half 64 (s.scrubPos half) with
  | some p => scrubPass half p repaired flips found s
  | none =>
    match s.scrubAt half 64 {} with
    | some p => scrubPass half p repaired flips found (passDone half s)
    | none => s

/-- Position of a scrub request in a scrubber's half, and its replacement. -/
def State.reqPos (s : State) (half : Nat) : Option ScrubPos := if half = 0 then s.cfg.reqA else s.cfg.reqB
def setReqPos (half : Nat) (p : Option ScrubPos) (s : State) : State :=
  let c := if half = 0 then { s.cfg with reqA := p } else { s.cfg with reqB := p }
  { s with cfg := { c with request := if c.reqA.isNone && c.reqB.isNone then none else c.request } }

/-- The next read of a scrubber is one of the request. -/
def State.reqTurn (s : State) (half : Nat) : Bool := if half = 0 then s.cfg.turnA else s.cfg.turnB
def setTurn (half : Nat) (b : Bool) (s : State) : State :=
  if half = 0 then { s with cfg := { s.cfg with turnA := b } } else { s with cfg := { s.cfg with turnB := b } }

/-- A read of the request at position `p`. -/
def scrubRequested (half : Nat) (p : ScrubPos) (flips : BitVec 2560) (found : FrameCheck) (s : State) : State :=
  let s1 := scrubFrame half p flips found s
  setTurn half false (setReqPos half (s1.scrubAfter half (8 * descSlot p.region + 8) p) s1)

/-- A background read of a scrubber: at the start of a pass, an error in the other scrubber's state is a warm reset (R382). -/
def backgroundRead (half : Nat) (repaired : List (Fin 64)) (fatal multi : Bool) (flips : BitVec 2560) (found : FrameCheck)
    (s : State) : State :=
  if fatal && s.checksPeer half then resetSource 11 true multi false 0 s else scrubBackground half repaired flips found s

/-- SCRUB_FRAME_READ: a scrubber reads one frame, of a request and of its background pass in turn; in DEEP the scrubbers pause (R378,
R379, R382, R513, Table 16-3). -/
def execScrubFrameRead (scrubber : Fin 2) (peerCorrected : List (Fin 64)) (peerFatal : Bool) (flips : BitVec 2560)
    (found : FrameCheck) (multi : Bool) (s : State) : Host.Outcome State Fault Refusal :=
  let h := scrubber.val
  if s.l0Runs = false ∨ 2 ≤ s.pwr.state then done s
  else match s.reqPos h with
    | some p =>
      if s.reqTurn h ∨ (s.scrubAt h 64 {}).isNone then
        match s.scrubAt h (8 * descSlot p.region + 8) p with
        | some q => done (scrubRequested h q flips found s)
        | none => done (setReqPos h none s)
      else done (backgroundRead h peerCorrected peerFatal multi flips found (setTurn h true s))
    | none => done (backgroundRead h peerCorrected peerFatal multi flips found s)

/-- A scrub request of slot `v` at the dictionary (R375, R513). -/
def scrubRequestWrite (v : Nat) (s : State) : Nat × State :=
  if 8 ≤ v then (abortRange, s)
  else if s.loadClaims v then (abortBusy, slotClaimRefused v 0 s)
  else if s.cfg.request.isSome then (abortBusy, slotClaimRefused v 1 s)
  else
    let a := s.scrubAt 0 (8 * v + 8) ⟨8 * v, 0⟩
    let b := s.scrubAt 1 (8 * v + 8) ⟨8 * v, 0⟩
    (0, { s with cfg := { s.cfg with
      request := if a.isNone && b.isNone then none else some v, reqA := a, reqB := b, turnA := true, turnB := true } })

/-- SCRUB_REQUEST (R513). -/
def execScrubRequest (path : Path) (slot : BitVec 8) (s : State) : Host.Outcome State Fault Refusal :=
  done (onPath path 0x2800 0xA s (scrubRequestWrite slot.toNat s))

/-- A region invalidate at the dictionary (R384). -/
def invalidateWrite (word : Nat) (s : State) : Nat × State :=
  let v := bitsAt word 16 3
  let ks := maskSectors (word % 65536)
  if ks.any (fun k => s.slotActive v k) then (abortState, s)
  else if s.loadClaims v ∨ s.cfg.request = some v then (abortBusy, s)
  else (0, ks.foldl (fun t k => setRegion v k .empty t) s)

/-- REGION_INVALIDATE (R384). -/
def execRegionInvalidate (path : Path) (word : BitVec 32) (s : State) : Host.Outcome State Fault Refusal :=
  done (onPath path 0x2800 7 s (invalidateWrite word.toNat s))

/-- Descriptor `r` of a scrubber (Table 14-10). -/
def State.descriptor (s : State) (half r : Nat) : Nat :=
  let st := s.region (descSlot r) (descSector half r)
  let p := s.scrubPos half
  b2n (decide (st = .valid)) * 2 ^ 63 + b2n (decide (st = .loading)) * 2 ^ 62 + b2n (decide (st = .faulty)) * 2 ^ 61 +
    descSlot r * 2 ^ 58 + descSector half r * 2 ^ 54 + (if p.region = r then p.frame else 0)

/-- The pass that a warm reset begins still runs in some half that has regions to read (R383). -/
def State.warmPass (s : State) : Bool :=
  (s.cfg.warmPassA && (s.scrubAt 0 64 {}).isSome) || (s.cfg.warmPassB && (s.scrubAt 1 64 {}).isSome)

end Sys2Proof.Machine
end

