-- ==== Sys2Proof/Machine/Beats.lean ====
section
/-! DEFINITION. Beat edges and datum beats: transmission and reception of the beat that ends, renumbering, the boundary steps,
context swaps, device states and the staged global release, and datum markers (R36 to R43, R53 to R55, R150 to R157, R181 to
R184, R376, R377, R381, R395, R417, R510). -/

namespace Sys2Proof.Machine

/-! Selections (R53, R381, R417, R511). -/

/-- A write's part covers byte `k` of the sector selections. -/
def Staged.selects (w : Staged) (k : Nat) : Bool :=
  w.parts.any (fun p => decide (p.key = okey 0x2000 0x16) && decide (byteAt (p.mask &&& p.live) k = 0xFF))

/-- Who made sector `k`'s selection follows the last write that covers it. -/
def noteSelection (near : List Staged) (k : Nat) (s : State) : State :=
  match (near.filter (fun w => w.selects k)).getLast? with
  | none => s
  | some w => { s with stg := { s.stg with
      safeSel := if w.safe then insertNat k (s.stg.safeSel.erase k) else s.stg.safeSel.erase k
      coolSel := if w.cool then insertNat k (s.stg.coolSel.erase k) else s.stg.coolSel.erase k } }

/-- The selection in force of sector `k`. -/
def State.selection (s : State) (k : Nat) : Nat := byteAt (s.obj 0x2000 0x16) k

/-- The sector is gated or fenced (R53). Outside RUN the fence of the power state itself does not count (R413). -/
def State.sectorClosed (s : State) (k : Nat) : Bool :=
  if s.pwr.state = 0 then s.sectorDark k || s.fenced k else bitOf (s.obj 0x2300 3) k || s.noc.hostFence.getLsbD k

/-- What a datum beat does with a sector's selection. -/
inductive Swap where
  | none                          -- the selection is the context in force
  | clear                         -- no context, selected
  | refuse (code : Nat) (field : Option (Nat × Nat))
  | take (slot : Nat)
  deriving DecidableEq, Repr

/-- The checks of R53 for sector `k`. -/
def State.swapOf (s : State) (k : Nat) : Swap :=
  let v := s.selection k
  if v = s.ctxOf k then .none
  else if 8 ≤ v then .clear
  else if s.sectorClosed k then .refuse 4 none
  else if s.region v k ≠ .valid then .refuse 2 none
  else match s.settings.mismatch (s.contract v k) k with
    | some f => .refuse 3 (some f)
    | none => .take v

/-- Swap result code of a sector (Table 2-6). -/
def setCode (k c : Nat) (s : State) : State :=
  { s with stg := { s.stg with swapCode := s.stg.swapCode.set k c, swapRot := s.time.rot } }

/-- A sector's context replaced: it holds station reset through this datum beat (R54). -/
def setContext (k v : Nat) (s : State) : State :=
  { s with stg := { s.stg with
      ctx := (List.range 16).map (fun j => if j = k then v else s.ctxOf j), swapped := insertNat k (s.stg.swapped.erase k) } }

/-- A swap acts on its sector. A selection that the safe action made sets no context where it selects none, or is refused, with
code 5; a swap of the safe action or of a cool-down raises its event (R53, R381, R417). -/
def doSwap (k : Nat) (a : Swap) (s : State) : State :=
  let safe := s.stg.safeSel.contains k
  match a with
  | .none => s
  | .clear => setCode k (if safe then 5 else 1) (setContext k 8 s)
  | .refuse c _ => if safe && decide (s.ctxOf k < 8) then setCode k 5 (setContext k 8 s) else setCode k c s
  | .take v =>
    raiseIf (s.stg.coolSel.contains k) 83 (raiseIf safe 1348 (setCode k 1 (setContext k v s)))

/-- A refused swap's field, for the record of the lowest-numbered sector (R181). -/
def Swap.field : Swap → Option (Nat × Nat)
  | .refuse _ f => f
  | _ => Option.none

/-- A swap is refused. -/
def Swap.refused : Swap → Bool
  | .refuse .. => true
  | _ => false

/-- The first sector with a value, and the value. -/
def firstSector (f : Nat → Option (Nat × Nat)) : Option (Nat × (Nat × Nat)) :=
  (List.range 16).findSome? (fun k => (f k).map (fun x => (k, x)))

/-- The field in which the context in force of sector `k` no longer matches (R182). -/
def State.voidField (s : State) (k : Nat) : Option (Nat × Nat) :=
  if s.ctxOf k < 8 then s.settings.mismatch (s.contractInForce k) k else none

/-- A sector whose context no longer matches has none (R182). -/
def voidSector (k : Nat) (s : State) : State :=
  if (s.voidField k).isSome then setCode k 5 (setContext k 8 s) else s

/-- The last refusal or void is recorded (R181, R182). -/
def recordRefusal (f : Option (Nat × (Nat × Nat))) (void : Bool) (s : State) : State :=
  match f with
  | some (k, x) => { s with con := { s.con with lastRefusal := refusalWord k x void } }
  | none => s

/-- A near write's record reaches STATE 5 when it selected a context that was refused (R55, Table 2-5). -/
def refusalRecords (near : List Staged) (refused : Nat → Bool) (s : State) : State :=
  near.foldl (fun t w =>
    if (List.range 16).any (fun k => refused k && w.selects k) then
      { t with stg := { t.stg with recs := t.stg.recs.map (fun r =>
          if r.seq = w.seq ∧ r.state = 3 then { r with state := 5 } else r) } }
    else t) s

/-- Some sector of the datum beat has a result code that satisfies `p`. -/
def State.anyCode (s : State) (p : Nat → Bool) : Bool := s.stg.swapCode.any p

/-- The swaps and voids of a datum beat, with events 18, 16 and 17 (R53, R181, R182). -/
def swapSectors (near : List Staged) (s : State) : State :=
  let s0 := { s with stg := { s.stg with swapCode := List.replicate 16 0, swapped := [] } }
  let acts := fun k => s0.swapOf k
  let s1 := (List.range 16).foldl (fun t k => doSwap k (acts k) t) s0
  let s2 := recordRefusal (firstSector (fun k => (acts k).field)) false s1
  let refused := s2.anyCode (fun c => decide (2 ≤ c) && decide (c ≤ 4))
  let swapped := s2.anyCode (fun c => c == 1)
  let s3 := (List.range 16).foldl (fun t k => voidSector k t) s2
  let s4 := recordRefusal (firstSector s2.voidField) true s3
  let s5 := raiseIf (s4.anyCode (fun c => c == 5)) 17 (raiseIf refused 16 (raiseIf swapped 18 s4))
  refusalRecords near (fun k => (acts k).refused) s5

/-! What a context that takes effect brings (R54, R80, R92, R99, R157). -/

/-- Sinks of a station that hold a reserved index in its context (R92). -/
def State.reservedSinks (s : State) (st : Nat) : Nat :=
  let v := s.ctxOf (sectorOf st)
  if v < 8 then
    ((List.range 6389).filter (fun i =>
      sinkReserved (fun j => s.stationFrame v st 0 2 j) (fun p => s.stationFrame v st p 1 0) i)).length
  else 0

/-- A station restarts: INIT in its macrocells, its registers and pipelines discarded (R54, R99, R107, R118, R144). -/
def restartStation (st : Nat) (s : State) : State :=
  let v := s.ctxOf (sectorOf st)
  let x := s.station st
  s.setStation st { x with
    q := if v < 8 then BitVec.ofNat 2048 (packFn 64 32 (fun p => plotInit (s.stationFrame v st p 1 0))) else 0
    sinks := 0, lines := [], travFrom := s.time.tick, ssu := [], ssuBusy := 0, pat := [], patHeld := 0, hold := [], holdHeld := 0
    reserved := s.reservedSinks st }

/-- The sectors that hold station reset through this datum beat restart. -/
def restartSectors (s : State) : State :=
  (s.fab.holdBeat.dedup.flatMap stationsOf).foldl (fun t st => restartStation st t) s

/-- The bitmap of stations with reserved indices follows the contexts that took effect, with event 26 (R92). DESIGN CHOICE (log 153):
the bit of a station whose sector is set to no context is cleared, which R92 does not state. -/
def reservedIndices (s : State) : State :=
  let sts := (s.stg.swapped.filter (fun k => decide (s.ctxOf k < 8))).flatMap stationsOf
  let gone := (s.stg.swapped.flatMap stationsOf)
  let m := gone.foldl (fun m st => setBit m st (decide ((s.station st).reserved ≠ 0))) s.fab.reservedMap.toNat
  raiseIf (sts.any (fun st => decide ((s.station st).reserved ≠ 0))) 26
    { s with fab := { s.fab with reservedMap := BitVec.ofNat 256 m } }

/-- Event 25 where a context that takes effect holds a probe selection with an invalid source (R80). -/
def probeSources (s : State) : State :=
  raiseIf (s.stg.swapped.any (fun k => probeInvalid (s.contextProbe (2 * k)) || probeInvalid (s.contextProbe (2 * k + 1)))) 25 s

/-- Output rings that the context in force of sector `k` claims (Table 14-4). -/
def State.ringClaims (s : State) (k : Nat) : Nat :=
  if s.ctxOf k < 8 then bitsAt (s.frame (s.ctxOf k) (frameAddr k 0 0 5 0)) 64 32 else 0

/-- The rings of a context that has left force have no owner (R157). -/
def releaseRings (k : Nat) (s : State) : State :=
  { s with hold := { s.hold with
      owners := (List.range 32).map (fun g =>
        if s.hold.owners.getD g 0 = 1 ∧ s.hold.ownerSector.getD g 0 = k then 0 else s.hold.owners.getD g 0) } }

/-- A context that takes effect claims its rings; a ring that is owned stays with its owner, with event 34 (R157). -/
def claimRings (k : Nat) (s : State) : State :=
  (whichBelow 32 (bitOf (s.ringClaims k))).foldl (fun t g =>
    if t.hold.owners.getD g 0 = 0 then
      { t with hold := { t.hold with owners := t.hold.owners.set g 1, ownerSector := t.hold.ownerSector.set g k } }
    else raise 34 t) s

/-- Ring ownership at a datum beat: rings are released first, then claimed in ascending sector order. -/
def ringOwners (s : State) : State :=
  s.stg.swapped.foldl (fun t k => claimRings k t) (s.stg.swapped.foldl (fun t k => releaseRings k t) s)

/-! Settings that act at a datum beat. `s0` is the state before the near values applied. -/

/-- Crossing points of bits 2 to 6 that keep their mode past a change of the word: those that hold a transfer and had changed (R395). -/
def State.keepCrossings (s : State) (changed : Nat) : List (Nat × Nat) :=
  s.clk.crossOld.filter (fun p => !bitOf changed p.1) ++
  s.heldPoints.dedup.filter (fun p => bitOf changed p.1 && !s.clk.crossOld.contains p)

/-- A crossing that changes mode at the datum beat discards what is in flight: traverse lines, pattern results; the others change where they
hold no transfer (R395). -/
def crossingDatum (s0 s : State) : State :=
  let changed := s0.obj 0x2100 4 ^^^ s.obj 0x2100 4
  let stations := mapTbl {} (fun (x : Station) =>
    let y := if bitOf changed 0 then { x with travFrom := s.time.tick } else x
    if bitOf changed 1 then { y with pat := [], patHeld := 0 } else y) s.fab.stations
  { s with
    fab := { s.fab with stations := stations }
    clk := { s.clk with crossOld := if changed = 0 then s.clk.crossOld else s.keepCrossings changed } }

/-- A unit's MODE or PROD changes: pointers, fill level and bookmarks clear, half 0 fills (R152). -/
def unitModeDatum (s0 : State) (u : Nat) (s : State) : State :=
  if s0.unitCfg u % 32 = s.unitCfg u % 32 then s else s.setUnit u (clearPointers (s.unit u))

/-- Stations whose hold configuration is not the default. -/
def State.configuredBanks (s : State) : List Nat :=
  (s.dict.filter (fun e => decide (0x4200 ≤ e.1 / 256) && decide (e.1 / 256 < 0x4300) && decide (e.1 % 256 = 1))).map
    (fun e => e.1 / 256 - 0x4200)

/-- Units that may run in another mode than RAM: the banks with a configuration of their own. -/
def State.configuredUnits (s : State) : List Nat := s.configuredBanks.flatMap (fun st => (List.range 16).map (fun h => 16 * st + h))

/-- Configuration words of hold units take effect (R152, R156). -/
def unitModes (s0 s : State) : State :=
  (s0.configuredUnits ++ s.configuredUnits ++ (List.range 32).map (fun g => 4128 + g)).dedup.foldl
    (fun t u => unitModeDatum s0 u t) s

/-- A unit that the map has on opens its rotation (R164), in DEEP too (R411): a bookmark in RING mode; the halves swap in PINGPONG, but for
the datum beat that begins the mode (R150, R151). DESIGN CHOICE (log 190): outside RUN the halves stay, as R411 keeps the queue
pointers. -/
def unitDatum (s0 : State) (u : Nat) (s : State) : State :=
  if s.unitMapCode u ≠ 0 ∨ s.pwr.state = 3 then s
  else if s.unitMode u = 2 then openMark u s
  else if s.pwr.state = 0 ∧ s.unitCode u = 0 ∧ s.unitMode u = 3 ∧ s0.unitCfg u % 32 = s.unitCfg u % 32 then
    let x := s.unit u
    s.setUnit u { x with fillHalf := 1 - x.fillHalf }
  else s

/-- The units' datum beat. -/
def unitsDatum (s0 s : State) : State := s.configuredUnits.foldl (fun t u => unitDatum s0 u t) s

/-- The capture rings' datum beat, after a change of N_UI has cleared its ring (R155). -/
def capturesDatum (s : State) : State := (List.range 32).foldl (fun t g => openCaptureMark g t) s

/-- A deep sleep request that never came to apply gives its claim back: none is in force, none waits, and the group is awake. -/
def freeSleepClaim (g : Nat) (s : State) : State :=
  let x := s.group g
  let asked := s.stg.pend.any (fun w => w.parts.any (fun p => decide (p.key = okey (0x3500 + g) 3) && decide (p.value = 2)))
  if x.claim = .deepSleep ∧ s.laneObj g 3 ≠ 2 ∧ x.rx ≠ .deep ∧ asked = false then
    s.setGroup g { x with claim := .none }
  else s

/-- A group's settings and power state take effect (R219, R220, R222, R410); its flash pad follows its flash cycle (R233). -/
def groupDatum (s0 : State) (g : Nat) (s : State) : State :=
  let s1 := applyLaneSettings g (s0.laneMode g) (s0.laneObj g 2) (s0.laneObj g 6) s
  let s2 := freeSleepClaim g (applyLanePower g (s0.lanePower g) (s1.lanePower g) s1)
  let x := s2.group g
  if s0.flashCycle g = s2.flashCycle g ∨ x.trained = false then s2
  else s2.setGroup g { x with padF := s2.lm + s2.flashCycle g - x.nf0 }

/-- The groups' settings. -/
def groupsDatum (s0 s : State) : State := (List.range 32).foldl (fun t g => groupDatum s0 g t) s

/-- Archive streams take their descriptors and open the rotation (R293, R296). -/
def streamsDatum (s0 s : State) : State :=
  (List.range 32).foldl (fun t i => openRotation i (takeDescriptor i (s0.descOf i) (t.descOf i) t)) s

/-- On a worker the datum source in force is always 2 (R40). -/
def workerSource (s : State) : State := if s.manager then s else s.setObj 0x2000 0x14 2

/-- A NoC plan that applies raises event 1290 (R260). -/
def planApplied (near : List Staged) (s : State) : State :=
  raiseIf (near.any (fun w => w.parts.any (fun p => decide (p.key = okey 0x3700 1)))) 1290 s

/-- Banks are on from the first datum beat after their clear (R134). -/
def patternOn (s : State) : State :=
  if s.pat.layer = .on ∧ s.pat.offAtAck = false then { s with pat := { s.pat with dark := false } } else s

/-- The crossing-mode word that a warm reset left takes its default (R398). -/
def crossingReset (s : State) : State :=
  if s.clk.crossClear then { s.setObj 0x2100 4 0 with clk := { s.clk with crossClear := false } } else s

/-! Device states and the staged global release (R33, R34, R376, R377). -/

/-- Some sector has a context in force. -/
def State.anyContext (s : State) : Bool := (List.range 16).any (fun k => decide (s.ctxOf k < 8))

/-- A start becomes pending; one that is pending keeps its arrival beat (R376). -/
def startPend (s : State) : State :=
  if s.time.startPending then s else { s with time := { s.time with startPending := true, startFar := s.arrivesFar } }

/-- SERVICE and CONFIGURED follow the contexts in force, but for a device on the Default option bytes; AUTOSTART makes a start on
the entry to CONFIGURED (R346, R376, R432). -/
def deviceStates (s : State) : State :=
  if s.dev = .service ∧ s.anyContext = true ∧ s.fallback = false then
    let s1 := { s with dev := .configured }
    if s1.obj 0x1F80 0 % 2 = 1 then startPend s1 else s1
  else if s.dev = .configured ∧ s.time.relStep = 0 ∧ s.anyContext = false then { s with dev := .service }
  else s

/-- This datum beat begins the staged global release (R34, R376, R383, R412): the device was and is CONFIGURED, a start is due, RUN
is in force, no scrub pass of a warm reset runs, and a worker has aligned. -/
def State.beginsRelease (s0 s : State) : Bool :=
  decide (s0.dev = .configured) && decide (s.dev = .configured) && s0.time.startPending && !s0.time.startFar &&
    decide (s.time.relStep = 0) && decide (s.pwr.state = 0) && decide (s.pwr.transition = 0) && !s.warmPass &&
    (s.manager || s.time.aligned)

/-- Step 1 of the release: RUN, Operational, outputs; the writes that apply here are of the first released rotation (R51,
R377). -/
def beginRelease (near : List Staged) (s : State) : State :=
  setNmt .operational { s with
    dev := .run
    time := { s.time with relStep := 1, startPending := false, startFar := false }
    stg := { s.stg with recs := s.stg.recs.map (fun r =>
      if near.any (fun w => decide (w.seq = r.seq)) then { r with pre := false } else r) } }

/-- RELEASE_WRITE_ENABLES: step 2, at beat d + 1 (R377). -/
def execReleaseWriteEnables (s : State) : Host.Outcome State Fault Refusal :=
  if s.time.relStep = 1 ∧ 1 ≤ s.time.beat then done { s with time := { s.time with relStep := 2 } } else done s

/-- RELEASE_STATION_RESET: step 3, at beat d + 2, with event 1351 (R377). -/
def execReleaseStationReset (s : State) : Host.Outcome State Fault Refusal :=
  if s.time.relStep = 2 ∧ 2 ≤ s.time.beat then doneFab (raise 1351 { s with time := { s.time with relStep := 3 } }) else done s

/-! The datum beat. -/

/-- A worker that has realigned resumes (R241). -/
def workerResumes (s : State) : State :=
  if s.mer.resumeAtDatum then updateFrozen { s with mer := { s.mer with own := 2, resumeAtDatum := false } } else s

/-- Near values and what follows them before the selections are compared. -/
def nearDatum (s0 : State) (s : State) : State :=
  let near := s0.nearWrites
  let s1 := planApplied near (workerSource (applyNear s))
  let s2 := (List.range 16).foldl (fun t k => noteSelection near k t) s1
  sectorsRestart (powerDatum (s0.obj 0x2300 3) (unitMapDatum (s0.obj 0x2300 4) (unitsServe (patternOn s2))))

/-- Swaps, restarts, and what contexts bring. -/
def contextDatum (s0 s : State) : State :=
  let s1 := swapSectors s0.nearWrites s
  let s2 := restartSectors { s1 with fab := { s1.fab with holdBeat := s1.stg.swapped ++ s1.fab.holdBeat } }
  compareLinks (ringOwners (probeSources (reservedIndices (crossingDatum s0 s2))))

/-- Device state and release. -/
def releaseDatum (s0 s : State) : State :=
  let s1 := deviceStates s
  if State.beginsRelease s0 s1 then beginRelease s0.nearWrites s1
  else { s1 with time := { s1.time with startFar := s1.time.startFar && !s0.time.startFar } }

/-- Everything else that acts at a datum beat. -/
def unitsAndLanesDatum (s0 s : State) : State :=
  let s1 := resumeSending (capturesDatum (groupsDatum s0 (unitsDatum s0 (unitModes s0 s))))
  let s2 := workerResumes (applyLinkKeys (streamsDatum s0 s1))
  let s3 := (List.range 4).foldl (fun t k => keeperDatum k t) s2
  freshWatches (s0.nearWrites.flatMap (fun w => w.parts.map StagePart.key)) (muxDatum (s0.obj 0x2400 1) (beaconDatum s3))

/-- A free-running device that has relocked ends its coast at a datum beat (R400). -/
def alignDatum (s : State) : State := if s.obj 0x2000 0x14 = 0 then endAlign s else s

/-- The boundary steps of a datum beat, its beat index and counter set (R53). -/
def datumSteps (s : State) : State :=
  let s0 := crossingReset { s with time := { s.time with datum := s.time.tick - s.time.cyc } }
  let s1 := releaseDatum s0 (contextDatum s0 (nearDatum s0 s0))
  lookAhead (shiftFar (alignDatum (unitsAndLanesDatum s0 s1)))

/-! Beat edges (R36, R39, R510). -/

/-- Index of the beat that begins at the next edge, by the numbering in force. -/
def State.plainNext (s : State) : Nat := if s.time.freshLock ∨ s.B ≤ s.time.beat + 1 then 0 else s.time.beat + 1

/-- Index of the beat that begins at the next edge: a renumbering that waits gives it (R510). -/
def State.nextIndex (s : State) : Nat :=
  match s.mer.renumber with
  | some r => r.1
  | none => s.plainNext

/-- The rotation counter after the edge: renumbered, counted at a datum beat, or as it was (R39, R236, R510). -/
def State.nextRot (s : State) : Nat :=
  match s.mer.renumber with
  | some r => if s.time.adopted then s.time.rot / 2 ^ 32 * 2 ^ 32 + r.2 else s.time.rot
  | none => if s.plainNext = 0 ∧ s.counting = true then (s.time.rot + 1) % 2 ^ 64 else s.time.rot

/-- What the beat that ends leaves: frames sent and received, pulses, coasting beats. A beat that never was, before the first
datum beat, leaves nothing. -/
def endBeat (s : State) : State :=
  if s.time.freshLock then s
  else
    let s1 := { s with clk := { s.clk with coastBeats := if s.coasting then wrapInc 64 s.clk.coastBeats else s.clk.coastBeats } }
    pinsBeat (lanesEndBeat (if 20 ≤ s1.time.cyc then s1 else lanesTransmit s1))

/-- Registers that restart with every beat: the index, the cycle, mailboxes presented, strobe counts, events of this beat (R93,
R120). -/
def startBeat (s : State) : State :=
  let t := if s.time.freshLock then s.time.tick else s.nextBeat
  sampleMarker <| muxSettled { s with
    time := { s.time with tick := t, cyc := 0, beat := s.nextIndex, rot := s.nextRot, freshLock := false }
    mer := { s.mer with renumber := none, flashClasses := 0 }
    ev := { s.ev with thisBeat := [] }
    fab := { s.fab with holdBeat := [], mailShown := s.fab.mailAccepted }
    pat := { s.pat with banks := mapTbl {} (fun b => { b with accepted := 0 }) s.pat.banks } }

/-- A renumbering that ends a rotation early raises event 20 (R510). -/
def earlyDatum (old s : State) : State :=
  raiseIf (old.mer.renumber.isSome && decide (old.nextIndex = 0) && decide (old.plainNext ≠ 0)) 20 s

/-- The edge between two beats: the beat in progress ends, with what it raised sampled before the new beat's first cycle, the next
begins, and a beat of index 0 is a datum beat (R36, R53, R484). -/
def beatEdge (ecc : List RingEcc) (s : State) : State :=
  let s1 := framesLeave (startBeat (settle (endBeat (settle (takeRaises s)))))
  let s2 := if s1.time.beat = 0 then datumSteps (earlyDatum s s1) else s1
  drivePins (readoutAll ecc (markBeat (sweepsStep (layerClears s2))))

/-- BEAT: the first FAB cycle of the next beat (R36). -/
def execBeat (ecc : List RingEcc) (s : State) : Host.Outcome State Fault Refusal :=
  if s.beatsRun then doneFab (beatEdge ecc s) else done s

/-- DATUM_BEAT: the next beat has index 0 (R36, R53). -/
def execDatumBeat (ecc : List RingEcc) (s : State) : Host.Outcome State Fault Refusal :=
  if s.beatsRun = true ∧ s.nextIndex = 0 then doneFab (beatEdge ecc s) else done s

/-! Datum markers (R41, R42, R236, R241, R400, Table 2-3). -/

/-- The device hears a datum marker: a worker where a frame with DATUM = 1 has come on the lowest-numbered of its trained links
(R236), another where its marker pin's sample went from 0 to 1, when the datum source is 1 (R451). DESIGN
CHOICE (log 154): a manager accepts datum source 2 (Table 2-9 reserves only 3 and above); it then hears no marker and runs free, and
an ALIGN after a coast lasts until the source is 0 or 1 again. -/
def State.hearsMarkers (s : State) : Bool :=
  if s.manager then decide (s.obj 0x2000 0x14 = 1) && s.markerAtPin
  else match (s.trainedLinks 0).head? with
    | some g => (s.group g).datumHeard
    | none => false

/-- A worker's marker is the DATUM bit of its lowest-numbered trained link: heard, it is used up (R236). -/
def markerTaken (s : State) : State :=
  match (s.trainedLinks 0).head? with
  | some g => if s.manager then s else s.setGroup g { s.group g with datumHeard := false }
  | none => s

/-- The device is not yet aligned: before release, or a worker after a link's training until a marker has aligned it (Table 2-3). -/
def State.notAligned (s : State) : Bool :=
  !s.released || (!s.manager && (decide (s.mer.own = 1) || (decide (s.mer.own = 4) && !s.mer.resumeAtDatum)))

/-- The beat index on which a marker comes: at a pin the index in force, on a worker that of the beat for which its manager sent the
frame with DATUM = 1 (R236, Table 9-7; DEDUCED, log 180). -/
def State.markerIndex (s : State) : Nat :=
  if s.manager then s.time.beat
  else match (s.trainedLinks 0).head? with
    | some g => (s.group g).datumIndex
    | none => s.time.beat

/-- The device is aligned; a worker takes its manager's counter from a later frame at every alignment, and one that was adrift
resumes at the next datum beat (R39, R236, R241). -/
def markAligned (s : State) : State :=
  let s1 := { s with time := { s.time with aligned := true } }
  if s.manager then s1
  else { s1 with mer := { s1.mer with
    own := if s1.mer.own = 1 then 2 else s1.mer.own
    adoptDue := true
    resumeAtDatum := s1.mer.resumeAtDatum || decide (s1.mer.own = 4) } }

/-- The beat in progress becomes a datum beat that ends the interrupted rotation early, with event 20 (R41, R42). -/
def markerDatum (s : State) : State :=
  let s1 := { s with time := { s.time with
    beat := 0, rot := if s.counting then (s.time.rot + 1) % 2 ^ 64 else s.time.rot } }
  drivePins (datumSteps (raise 20 { s1 with fab := { s1.fab with holdBeat := [] } }))

/-- A marker that aligns the device (Table 2-3). The datum beat that it makes, or falls on, runs before the device counts as aligned: a
worker's release begins one datum beat later (DESIGN CHOICE, log 179). -/
def alignAt (s : State) : State := if s.markerIndex = 0 then markAligned s else markAligned (markerDatum s)

/-- A datum marker by the rows of Table 2-3. -/
def datumMarker (s : State) : State :=
  match s.clk.lantern with
  | .coast => s
  | .relock => s
  | .align => endAlign (alignAt s)
  | _ =>
    if s.notAligned then alignAt s
    else if s.markerIndex = 0 then s
    else raise 19 s

/-- DATUM_MARKER (R41). -/
def execDatumMarker (s : State) : Host.Outcome State Fault Refusal :=
  if s.beatsRun && !s.time.freshLock && s.hearsMarkers then doneFab (datumMarker (markerTaken s)) else done s

end Sys2Proof.Machine
end

