-- ==== Sys2Proof/Machine/Can.lean ====
section
/-! DEFINITION. The CAN node's commands: NMT, USDO, heartbeats, emergency messages and the controller's error states (R338 to
R354). -/

namespace Sys2Proof.Machine

/-- A frame that is received can reach the engine: the dictionary serves, and the controller is on the bus (R334, R340 to R342). -/
def State.canHears (s : State) : Bool := s.served && s.canTalks

/-- The engine takes the next frame of the receive FIFO: it serves, and no request of the CAN path runs (R335, R348). -/
def State.takesFrame (s : State) : Bool := s.served && !s.clientBusy 1

/-- A received frame is counted (0x1F83 sub 4). -/
def frameIn (s : State) : State := { s with can := { s.can with framesRx := wrapInc 32 s.can.framesRx } }

/-! NMT commands (R343, R346, Tables 13-5 and 13-6). -/

/-- RUN becomes HOLD. -/
def runToHold (s : State) : State := if s.dev = .run then { s with dev := .hold } else s

/-- A pending start is cancelled in CONFIGURED. -/
def cancelStart (s : State) : State :=
  if s.dev = .configured then { s with time := { s.time with startPending := false, startFar := false } } else s

/-- Start. -/
def nmtStartCmd (s : State) : State :=
  match s.dev with
  | .service => raise 1505 s
  | .configured => startPend s
  | .run => s
  | .hold => setNmt .operational { s with dev := .run }

/-- Stop. -/
def nmtStopCmd (s : State) : State := setNmt .stopped (runToHold (cancelStart s))

/-- Enter Pre-operational. -/
def nmtPreOpCmd (s : State) : State := setNmt .preOperational (runToHold s)

/-- The key belongs to the communication profile, but not to 0x1F80. -/
def communicationKey (key : Nat) : Bool :=
  decide (0x1000 ≤ key / 256) && decide (key / 256 < 0x2000) && decide (key / 256 ≠ 0x1F80)

/-- The controller after a reset of the communication profile: receive FIFO and EMCY queue empty, error counters at 0; bus-off, OFF_BUS
and the transmit queue stay. -/
def Can.fresh (c : Can) : Can :=
  { nmt := c.nmt, nodeId := c.nodeId, nomRate := c.nomRate, dataRate := c.dataRate, silent := c.silent,
    bus := if c.bus = 1 then 0 else c.bus, emcyAges := c.emcyAges, sent := c.sent }

/-- Reset Communication: defaults from 0x1000 to 0x1FFF but for 0x1F80, receive FIFO, error counters and EMCY queue cleared, boot-up
sent. -/
def nmtResetCommCmd (s : State) : State :=
  let s1 := runToHold (cancelStart s)
  bootUp (setNmt .preOperational
    { s1 with dict := s1.dict.filter (fun e => !communicationKey e.1), can := s1.can.fresh })

/-- An NMT command received on CAN: a Reset Node is the dictionary warm reset, logged with the CAN path (R343, Tables 13-6 and 17-5). -/
def nmtFrame (specifier : Nat) (multi : Bool) (s : State) : State :=
  if s.can.nmt = .initialisation then s
  else if specifier = 1 then nmtStartCmd s
  else if specifier = 2 then nmtStopCmd s
  else if specifier = 0x80 then nmtPreOpCmd s
  else if specifier = 0x81 then resetSource 5 true multi false 1 s
  else if specifier = 0x82 then nmtResetCommCmd s
  else s

/-- A local NMT command, written to 0x1F82 (R346): a Reset Node takes effect as a dictionary reset request does. -/
def localNmt (path value : Nat) (s : State) : Nat × State :=
  if value = 1 then (0, nmtStartCmd s)
  else if value = 2 then (0, nmtStopCmd s)
  else if value = 0x80 then (0, nmtPreOpCmd s)
  else if value = 0x81 then (0, requestReset true path s)
  else if value = 0x82 then (0, nmtResetCommCmd s)
  else (abortRange, s)

/-! USDO (R347 to R349). -/

/-- USDO is served in Pre-operational and Operational (Table 13-4). -/
def State.usdoServed (s : State) : Bool := decide (s.can.nmt = .preOperational) || decide (s.can.nmt = .operational)

/-- A USDO request is acted on; in Stopped it is ignored (R345). -/
def onUsdo (f : State → State) (s : State) : State := if s.usdoServed then f s else s

/-- A new initiate aborts an open session without an abort frame (R349). -/
def usdoInitiate (s : State) : State := if s.usdoOpen then usdoAborted s else s

/-- The device aborts the session with an abort frame. -/
def usdoAbort (code : Nat) (s : State) : State :=
  let x := s.session 1
  usdoEnds (reply 1 x.index x.sub code 0 [] (usdoAbortFrame x.index x.sub code s))

/-- A download initiate: expedited data are one write; else a session of `size` bytes opens. -/
def downloadInitiate (idx sub size : Nat) (expedited : Option (List Byte)) (s : State) : State :=
  let s1 := usdoInitiate s
  match expedited with
  | some d => enqueue 1 idx sub (.write d) (s1.setSession 1 {})
  | none =>
    if bufferSize < size then endRequest 1 idx sub abortTooLong 0 0 [] [] s1
    else usdoSend .downloadInitiate idx sub [] (s1.setSession 1 { index := idx, sub := sub, opened := 1, size := size, collecting := true })

/-- A segment of a download: added, and at the last one the whole is one write; a segment out of sequence aborts. -/
def downloadSegment (toggle : Bool) (data : List Byte) (last : Bool) (s : State) : State :=
  let x := s.session 1
  let buf := x.buf ++ data
  if x.opened ≠ 1 ∨ s.clientBusy 1 = true then usdoAbort abortCommand s
  else if toggle ≠ x.toggle then usdoAbort abortToggle s
  else if x.size < buf.length ∨ (last = true ∧ buf.length ≠ x.size) then usdoAbort abortLength s
  else if last then enqueue 1 x.index x.sub (.write buf) (s.setSession 1 { answer := .downloadSegment toggle })
  else usdoSend (.downloadSegment toggle) x.index x.sub [] (s.setSession 1 { x with buf := buf, toggle := !x.toggle })

/-- A segment of an upload: up to 56 bytes from the copy; the session ends with its last byte. -/
def uploadSegment (toggle : Bool) (s : State) : State :=
  let x := s.session 1
  if x.opened ≠ 2 ∨ s.clientBusy 1 = true then usdoAbort abortCommand s
  else if toggle ≠ x.toggle then usdoAbort abortToggle s
  else
    usdoSend (.uploadSegment toggle (decide (x.size ≤ x.pos + 56))) x.index x.sub ((x.buf.drop x.pos).take 56) (s.setSession 1
      (if x.size ≤ x.pos + 56 then {} else { x with pos := x.pos + 56, toggle := !x.toggle }))

/-- USDO_SESSION_TIMEOUT: a session idle for 1 s is aborted with code 0x0504_0000 (R349). -/
def execUsdoSessionTimeout (s : State) : Host.Outcome State Fault Refusal :=
  if s.served = true ∧ (s.session 1).opened ≠ 0 ∧ s.clientBusy 1 = false then done (usdoAbort abortTimeout (freshTx s)) else done s

/-! Heartbeat (R353, R354). -/

/-- HEARTBEAT_SEND: the producer period ends (R353). -/
def execHeartbeatSend (s : State) : Host.Outcome State Fault Refusal :=
  if s.served = true ∧ s.can.nmt ≠ .initialisation ∧ s.obj 0x1017 0 ≠ 0 then
    done (canSend 0x700 [BitVec.ofNat 8 (nmtCode s.can.nmt)] (freshTx s))
  else done s

/-- Entry `n` consumes the heartbeat of a node. -/
def State.consumes (s : State) (n node : Nat) : Bool :=
  decide (s.obj 0x1016 (n + 1) ≠ 0) && decide (bitsAt (s.obj 0x1016 (n + 1)) 16 8 = node)

/-- A consumer entry's monitoring replaced. -/
def setConsumer (n : Nat) (c : Consumer) (s : State) : State :=
  { s with can := { s.can with consumers := s.can.consumers.set n c } }

/-- Entry `n` sees a heartbeat of its node: monitoring starts, or goes on, and a timeout clears. -/
def consumeHeartbeat (node n : Nat) (s : State) : State :=
  if s.consumes n node then
    let was := (s.can.consumers.getD n {}).timedOut
    let s1 := setConsumer n { monitoring := true, timedOut := false } s
    if was then errorReset s1 else s1
  else s

/-- HEARTBEAT_TIMEOUT: no heartbeat within the time: EMCY 0x8130 with the node ID, event 1508 (R354). -/
def execHeartbeatTimeout (entry : Fin 8) (s : State) : Host.Outcome State Fault Refusal :=
  let c := s.can.consumers.getD entry.val {}
  if s.served && c.monitoring && !c.timedOut then
    done (raise 1508 (emcyPush { code := 0x8130, field := bitsAt (s.obj 0x1016 (entry.val + 1)) 16 8 }
      (setConsumer entry.val { c with timedOut := true } s)))
  else done s

/-- A write of the producer heartbeat time (R353). -/
def heartbeatWrite (v : Nat) (s : State) : Nat × State := (0, s.setObj 0x1017 0 v)

/-- HEARTBEAT_TIME_WRITE (R353). -/
def execHeartbeatTimeWrite (path : Path) (value : BitVec 16) (s : State) : Host.Outcome State Fault Refusal :=
  done (onPath path 0x1017 0 s (heartbeatWrite value.toNat s))

/-- Two bytes of the consumer entries' node IDs collide, or one is the device's own (R354). -/
def State.consumerOk (s : State) (n v : Nat) : Bool :=
  let id := bitsAt v 16 8
  decide (v % 2 ^ 24 = 0) || (decide (id ≠ s.can.nodeId) && (List.range 8).all (fun m =>
    decide (m = n) || decide (s.obj 0x1016 (m + 1) = 0) || decide (bitsAt (s.obj 0x1016 (m + 1)) 16 8 ≠ id)))

/-- A write of consumer entry `n` (counted from 0): validated, and its monitoring starts anew (R354). -/
def consumerWrite (n v : Nat) (s : State) : Nat × State :=
  if s.consumerOk n v then (0, setConsumer n {} (s.setObj 0x1016 (n + 1) (v % 2 ^ 24))) else (abortRange, s)

/-- CONSUMER_HEARTBEAT_WRITE (R354). -/
def execConsumerHeartbeatWrite (path : Path) (entry : Fin 8) (value : BitVec 32) (s : State) : Host.Outcome State Fault Refusal :=
  done (onPath path 0x1016 (entry.val + 1) s (consumerWrite entry.val value.toNat s))

/-! Emergency messages (R350 to R352). -/

/-- A write of the error field's length: 0 empties it (R352). -/
def errorFieldWrite (v : Nat) (s : State) : Nat × State :=
  if v = 0 then (0, { s with can := { s.can with errorField := [], manufacturerBit := false } }) else (abortRange, s)

/-- ERROR_FIELD_CLEAR (R352). -/
def execErrorFieldClear (path : Path) (value : BitVec 8) (s : State) : Host.Outcome State Fault Refusal :=
  done (onPath path 0x1003 0 s (errorFieldWrite value.toNat s))

/-- The 8 data bytes of an EMCY (Table 13-7). -/
def emcyBytes (errorReg : Nat) (m : Emcy) : List Byte := toBytes 2 m.code ++ toBytes 1 errorReg ++ toBytes 5 m.field

/-- A code enters the error field, newest first, 8 of them (R352). -/
def errorEntry (m : Emcy) (field : List Nat) : List Nat := ((m.code % 2 ^ 16 + m.field % 2 ^ 16 * 2 ^ 16) :: field).take 8

/-- EMCY_SEND: the oldest queued message leaves once the inhibit time has passed (R351). -/
def execEmcySend (s : State) : Host.Outcome State Fault Refusal :=
  match s.can.emcyQueue with
  | [] => done s
  | m :: rest =>
    if s.served = true ∧ s.canTalks = true ∧ s.can.nmt ≠ .initialisation then
      let s1 := { s with can := { s.can with
        emcyQueue := rest, errorField := errorEntry m s.can.errorField, emcySent := wrapInc 32 s.can.emcySent } }
      done (canSend 0x080 (emcyBytes s.errorRegister m) (freshTx s1))
    else done s

/-! Error states of the controller (R341, R342). -/

/-- Bus state that the error counters give (ISO 11898-1): 0 active, 1 passive, 2 bus-off. -/
def busOf (tx rx : Nat) : Nat := if 256 ≤ tx then 2 else if 128 ≤ tx ∨ 128 ≤ rx then 1 else 0

/-- CAN_BUS_ERROR: the error counters move to `tx` and `rx`; an entry to error passive or bus-off raises event 1506 (R342). -/
def execCanBusError (tx rx : Nat) (s : State) : Host.Outcome State Fault Refusal :=
  if s.canHears then
    let b := busOf tx rx
    done (raiseIf (decide (s.can.bus < b)) 1506 { s with can := { s.can with txErr := tx, rxErr := rx, bus := b } })
  else done s

/-- CAN_BUS_OFF_RECOVERY: the controller rejoins and sends EMCY 0x8140 (R342). -/
def execCanBusOffRecovery (s : State) : Host.Outcome State Fault Refusal :=
  if s.served = true ∧ s.can.bus = 2 then
    done (emcyPush { code := 0x8140, field := 0 }
      { s with can := { s.can with txErr := 0, rxErr := 0, bus := 0, recoveries := satInc 32 s.can.recoveries } })
  else done s

/-- A millisecond ends: the next dropped frame is the first of its own (R342). -/
def newMillisecond (ends : Bool) (s : State) : State :=
  if ends then { s with can := { s.can with overrunMs := false } } else s

/-- A frame is dropped at the full receive FIFO and counted; the first in a millisecond sends EMCY 0x8110 with the frames dropped in it,
and event 1507 (R342). -/
def rxOverrun (dropped : Nat) (s : State) : State :=
  let s1 := { s with can := { s.can with dropped := satInc 32 s.can.dropped, overrunMs := true } }
  if s.can.overrunMs then s1 else raise 1507 (emcyPush { code := 0x8110, field := dropped % 2 ^ 16 } s1)

/-- CAN_RX_OVERRUN: a frame finds the receive FIFO full (R342). -/
def execCanRxOverrun (dropped : Nat) (newMs : Bool) (s : State) : Host.Outcome State Fault Refusal :=
  if s.canHears then done (rxOverrun dropped (newMillisecond newMs s)) else done (newMillisecond newMs s)

/-- CAN_REJOIN: with the CAN domain back on Daymark, the controller sees 11 recessive bits and rejoins (R341). -/
def execCanRejoin (s : State) : Host.Outcome State Fault Refusal :=
  if s.can.bus = 3 ∧ s.clk.daymark = true then
    done { s with can := { s.can with bus := busOf s.can.txErr s.can.rxErr } }
  else done s

/-! The receive FIFO (R342, R348). -/

/-- The engine acts on a received frame. -/
def actOn (f : CanRx) (s : State) : State :=
  match f with
  | .nmt specifier multi => nmtFrame specifier multi s
  | .downloadInitiate idx sub size d => onUsdo (downloadInitiate idx sub size d) s
  | .downloadSegment toggle data last => onUsdo (downloadSegment toggle data last) s
  | .uploadInitiate idx sub => onUsdo (fun t =>
      enqueue 1 idx sub .readRest ((usdoInitiate t).setSession 1 { answer := .uploadInitiate true 0 })) s
  | .uploadSegment toggle => onUsdo (uploadSegment toggle) s
  | .heartbeat node => (List.range 8).foldl (fun t n => consumeHeartbeat node n t) s

/-- The frame is an NMT command. -/
def CanRx.isNmt (f : CanRx) : Bool :=
  match f with
  | .nmt _ _ => true
  | _ => false

/-- The next frame that the engine takes, and the rest of the receive FIFO: the oldest; while a request of the CAN path runs the
oldest NMT command, since it is acted on within 1 ms and a request may run longer (R243, R343; DEDUCED, log 197). -/
def State.nextFrame (s : State) : Option (CanRx × List CanRx) :=
  if s.takesFrame then s.can.rx.head?.map (fun f => (f, s.can.rx.tail))
  else if s.served then (s.can.rx.find? CanRx.isNmt).map (fun f => (f, s.can.rx.eraseP CanRx.isNmt))
  else none

/-- The engine takes up to `n` frames of the receive FIFO. -/
def takeFrames : Nat → State → State
  | 0, s => s
  | n + 1, s =>
    match s.nextFrame with
    | none => s
    | some (f, rest) => takeFrames n (actOn f { s with can := { s.can with rx := rest } })

/-- Places of the receive FIFO. -/
def fifoDepth : Nat := 16

/-- A frame arrives: counted and put into the FIFO, or dropped where it is full; what the engine can take, it takes (R342). A 1 ms in
which frames may have been dropped has ended before it where `newMs` is set. -/
def frameArrives (newMs : Bool) (f : CanRx) (s : State) : State :=
  let s0 := newMillisecond newMs s
  if s.rst.phase = .service ∧ s.canTalks = true then
    if fifoDepth ≤ s.can.rx.length then rxOverrun 1 s0
    else
      let s1 := frameIn (freshTx s0)
      takeFrames fifoDepth { s1 with can := { s1.can with rx := s1.can.rx ++ [f] } }
  else s0

/-- NMT_START (R343). -/
def execNmtStart (newMs : Bool) (s : State) : Host.Outcome State Fault Refusal := done (frameArrives newMs (.nmt 1) s)

/-- NMT_STOP (R343). -/
def execNmtStop (newMs : Bool) (s : State) : Host.Outcome State Fault Refusal := done (frameArrives newMs (.nmt 2) s)

/-- NMT_ENTER_PRE_OPERATIONAL (R343). -/
def execNmtEnterPreOperational (newMs : Bool) (s : State) : Host.Outcome State Fault Refusal := done (frameArrives newMs (.nmt 0x80) s)

/-- NMT_RESET_NODE: the dictionary warm reset, logged with the CAN path (R343, Table 17-5). -/
def execNmtResetNode (newMs multi : Bool) (s : State) : Host.Outcome State Fault Refusal := done (frameArrives newMs (.nmt 0x81 multi) s)

/-- NMT_RESET_COMMUNICATION (R343). -/
def execNmtResetCommunication (newMs : Bool) (s : State) : Host.Outcome State Fault Refusal := done (frameArrives newMs (.nmt 0x82) s)

/-- USDO_DOWNLOAD_INITIATE (R347, R349). -/
def execUsdoDownloadInitiate (newMs : Bool) (index : BitVec 16) (sub : BitVec 8) (size : Nat) (expedited : Option (List Byte)) (s : State) :
    Host.Outcome State Fault Refusal :=
  done (frameArrives newMs (.downloadInitiate index.toNat sub.toNat size expedited) s)

/-- USDO_DOWNLOAD_SEGMENT (R347, R349). -/
def execUsdoDownloadSegment (newMs toggle : Bool) (data : List Byte) (last : Bool) (s : State) : Host.Outcome State Fault Refusal :=
  done (frameArrives newMs (.downloadSegment toggle data last) s)

/-- USDO_UPLOAD_INITIATE: the object is copied; up to 8 bytes answer expedited (R347). -/
def execUsdoUploadInitiate (newMs : Bool) (index : BitVec 16) (sub : BitVec 8) (s : State) : Host.Outcome State Fault Refusal :=
  done (frameArrives newMs (.uploadInitiate index.toNat sub.toNat) s)

/-- USDO_UPLOAD_SEGMENT (R347, R349). -/
def execUsdoUploadSegment (newMs toggle : Bool) (s : State) : Host.Outcome State Fault Refusal :=
  done (frameArrives newMs (.uploadSegment toggle) s)

/-- HEARTBEAT_RECEIVED (R354). -/
def execHeartbeatReceived (newMs : Bool) (node : BitVec 7) (_state : BitVec 8) (s : State) : Host.Outcome State Fault Refusal :=
  done (frameArrives newMs (.heartbeat node.toNat) s)

end Sys2Proof.Machine
end

