-- ==== Sys2Proof/Machine/Move.lean ====
section
/-! DEFINITION. Bulk moves: submitted descriptors, the flits of a move, and its completion record (R254, R268, R269, R271). -/

namespace Sys2Proof.Machine

/-- MOVE_SUBMIT: a descriptor reaches a move engine through the dictionary or the NoC (R268). -/
def execMoveSubmit (engine : Fin 4) (origin : Origin) (descriptor : Line) (s : State) : Host.Outcome State Fault Refusal :=
  match origin with
  | .path p => done (onPath p 0x3700 (0x20 + engine.val) s (moveAccept engine.val descriptor s))
  | .noc r => done (moveFromNoc engine.val r (BitVec.ofNat 512 (s.carries r descriptor.toNat)) false s)

/-! One access of an engine (R255, R269, R270). -/

/-- What a flit of the move meets: nothing, where no entry names it. -/
def flitMet (met : List MoveFlit) (i : Nat) : MoveFlit :=
  (met.find? (fun m => decide (m.index = i))).getD
    { index := i, ecc := [], errA := .clean, errB := .clean, collided := false, readEnds := none, writeEnds := none, outside := 0 }

/-- A read or a write of one line at a target without a row of its own; a read checks the array (R255, R313). -/
def plainLine (q : ReqId) (addr : Nat) (data : Option Line) (bad : Bool) (ecc : List EccClass) (s : State) : State :=
  match data with
  | none => answer q (rowStatus ecc) (s.readLine addr) s
  | some d => if bad then answerStatus q .dataerr s else answerStatus q .ok (s.writeNat addr 64 d.toNat)

/-- Corrected errors that the read of a line in the pool or a data store finds are counted (R313). -/
def countLineEcc (core : Option Nat) (data : Option Line) (ecc : List EccClass) (s : State) : State :=
  if data.isSome then s
  else ecc.foldl (fun t e => match core with
    | some k => countStoreEcc k e t
    | none => countPoolEcc e t) s

/-- A write into hold unit `u` may meet a station-port write there: a bank in RAM mode, which serves (R146, R148, R255). -/
def State.mayCollide (s : State) (u : Nat) : Bool :=
  decide (u < 4096) && s.unitActive u && !s.queueInReset (unitGroup u) && decide (s.unitMode u = 0)

/-- A write into a hold unit that meets a station-port write (R146). -/
def moveCollides (q : ReqId) (u : Nat) (s : State) : State :=
  collide u ⟨q, 1, 0, 0, 15, false, 0, false, [], 0, false, 0⟩ s

/-- The request flit of an access, with the CRC of the line that the engine sent where the descriptor asks for one (R254); a line that came
bad is marked (R253). -/
def State.moveRequest (s : State) (q : ReqId) (addr : Nat) (data : Option Line) (bad : Bool) (crc : Option Nat) : Flit :=
  let f := s.requestFlit { req := q, addr := addr, write := data.isSome, data := (data.getD 0).toNat }
  let h := match crc with
    | some v => withBits (withBits f.header.toNat 33 1 1) 0 32 v
    | none => f.header.toNat
  { f with header := BitVec.ofNat 128 (if bad then withBits h 120 3 3 else h) }

/-- An access to a window of worker `w`: its request joins those that wait for the carriage, and the worker's answer, which the move has
brought from outside, will be absorbed when it comes (R238, R239, R269). DESIGN CHOICE (log 195): the requests of a move go to the carriage
when the move ends, in the order of their flits. -/
def moveToWorker (q : ReqId) (w addr : Nat) (data : Option Line) (bad : Bool) (crc : Option Nat) (m : MoveFlit) (s : State) : State :=
  let t := toCarriage q w (s.moveRequest q addr data bad crc) s
  let u := { t with noc := { t.noc with absorb := t.noc.absorb ++ [(q, addr)] } }
  if bad then answerStatus q .dataerr u else answer q .ok m.outside u

/-- The access reaches its target; a write that arrives `bad` is not performed there (R253). -/
def targetAccess (q : ReqId) (addr : Nat) (data : Option Line) (bad : Bool) (crc : Option Nat) (m : MoveFlit) (s : State) : State :=
  let t := openTxn q addr data.isSome s
  let v := (data.getD 0).toNat
  if t.placeFenced (t.place addr) then answerStatus q .fenced t
  else match t.place addr with
    | .dram _ _ =>
      dramRequest ⟨q, addr, if data.isSome then 1 else 0, v, 0, bad, m.errA, m.errB, 0⟩ true t
    | .hold u w =>
      if data.isSome && m.collided && t.mayCollide u then moveCollides q u t
      else holdAccess addr true ⟨q, if data.isSome then 1 else 0, w, v, 15, false, 0, false, m.ecc, 0, bad, 0⟩ t
    | .pattern _ _ => patternAccess q addr true (data.map BitVec.toNat) bad t
    | .patternRest => patternAccess q addr true (data.map BitVec.toNat) bad t
    | .code k _ => if data.isSome && !t.codeWritable k then answerStatus q .buserr t else plainLine q addr data bad [] t
    | .data k _ => plainLine q addr data bad m.ecc (countLineEcc (some k) data m.ecc t)
    | .pool _ => plainLine q addr data bad m.ecc (countLineEcc none data m.ecc t)
    | .slots e off => if data.isSome then answerStatus q .buserr t else answer q .ok (t.slotLine e off) t
    | .window k line => windowDeliver q k line (lineFlit addr data bad) t
    | .submit e =>
      (match data with
        | some d => moveFromNoc e q d bad t
        | none => answerStatus q .buserr t)
    | .workerDram w _ => moveToWorker q w addr data bad crc m t
    | .workerCtl w _ => moveToWorker q w addr data bad crc m t
    | _ => answerStatus q .buserr t

/-- An access that waits at its unit or controller is served, behind the archive flits that its controller has buffered (R284): it ends before
the move does. -/
def serveWaiting (q : ReqId) (s : State) : State :=
  match s.hold.units.find? (fun u => u.2.waiting.any (fun r => decide (r.req = q))) with
  | some (u, x) =>
    let s1 := s.setUnit u { x with waiting := x.waiting.filter (fun r => decide (r.req ≠ q)) }
    (match x.waiting.find? (fun r => decide (r.req = q)) with
      | some r => if s1.pushWaits u r then holdAnswer r .buserr (unitCauses u causeOverflow s1) else serveNoc u r s1
      | none => s)
  | none =>
    match s.dram.channels.find? (fun c => (c.2.held ++ c.2.queued).any (fun r => decide (r.req = q))) with
    | some (c, x) =>
      if s.commits c && !x.buffer.isEmpty then serveHeld c (iterate x.buffer.length (fun _ => commitFlit c) s) else
      let s1 := s.setChannel c (x.without q)
      let mine := (x.held ++ x.queued).find? (fun r => decide (r.req = q))
      (match mine, s.place (mine.elim 0 DramReq.addr) with
        | some r, .dram _ off => if x.keylessAt off then answerStatus q .buserr s1 else performDram c off r s1
        | _, _ => s)
    | none =>
      match s.hold.guard.find? (fun g => decide (g.2.req = q)) with
      | some g => serveNoc g.1 g.2 { s with hold := { s.hold with guard := s.hold.guard.filter (fun x => decide (x.2.req ≠ q)) } }
      | none => s

/-- The answer of an access is taken, and its tag is freed. -/
def takeAnswer (q : ReqId) (s : State) : Status × Line × State :=
  match s.noc.answers.find? (fun a => decide (a.req = q)) with
  | some a => (a.status, a.data, closeTxn q { s with noc := { s.noc with answers := dropAnswer q s.noc.answers } })
  | none => (.dataerr, 0, closeTxn q s)

/-- What a router finds in a flit of the access is corrected, marked or discarded, and counted (R253). -/
def pathCheck (x : Fin 64 × FlitErr) (s : State) : State :=
  match x.2 with
  | .clean => s
  | .single => raiseOnce 1280 { s with noc := { s.noc with
      corrections := Tbl.upd 0 s.noc.corrections x.1.val (satInc 32 (Tbl.at 0 s.noc.corrections x.1.val)) } }
  | .payload => raise 1281 { s with noc := { s.noc with poisoned := satInc 32 s.noc.poisoned } }
  | .header => raise 1281 { s with noc := { s.noc with discarded := satInc 32 s.noc.discarded } }

/-- A flit meets an error class on its way. -/
def meetsErr (e : FlitErr) (l : List (Fin 64 × FlitErr)) : Bool := l.any (fun x => decide (x.2 = e))

/-- The transaction of the access ends by its timeout: DATAERR, counted, event 1282 (R258). -/
def accessTimedOut (q : ReqId) (s : State) : Status × Line × State :=
  (.dataerr, 0, raise 1282 (closeTxn q { s with noc := { s.noc with timedOut := satInc 32 s.noc.timedOut } }))

/-- A worker's answer to an access that timed out will be discarded as late (R258). -/
def answerComesLate (q : ReqId) (addr : Nat) (s : State) : State :=
  if s.noc.absorb.contains (q, addr) then
    { s with noc := { s.noc with absorb := s.noc.absorb.erase (q, addr), orphans := s.noc.orphans ++ [(q, addr)] } }
  else s

/-- The access at its target, to its end. -/
def accessAtTarget (q : ReqId) (addr : Nat) (data : Option Line) (bad : Bool) (crc : Option Nat) (m : MoveFlit) (s : State) :
    Status × Line × State :=
  let t := targetAccess q addr data bad crc m s
  takeAnswer q (if t.waitsAtTarget q then serveWaiting q t else t)

/-- Status of an access whose target answered `st`, with what its flits met (R255). -/
def pathStatus (st : Status) (p : MovePath) : Status :=
  if statusGood st && meetsErr .payload p.response then .dataerr
  else if decide (st = .ok) && (meetsErr .single p.request || meetsErr .single p.response) then .okCorrected
  else st

/-- One access of a move, with its status and data. `sent` is a write's line as the engine sent it, with its CRC when the descriptor asks
for one, and `data` the line as it arrives (R253 to R255, R258). -/
def moveAccess (q : ReqId) (addr : Nat) (crc : Bool) (sent data : Option Line) (m : MoveFlit) (p : MovePath) (s : State) :
    Status × Line × State :=
  let s1 := p.request.foldl (fun t x => pathCheck x t) s
  if meetsErr .header p.request then accessTimedOut q s1
  else
    let sum := crc32c (toBytes 64 (sent.getD 0).toNat)
    let crcBad := crc && decide (sent ≠ data) && decide (sum ≠ crc32c (toBytes 64 (data.getD 0).toNat))
    let r := accessAtTarget q addr data (data.isSome && (crcBad || meetsErr .payload p.request))
      (if crc && data.isSome then some sum else none) m (countCrc (crcBad && !s1.isWindow addr) s1)
    let s2 := p.response.foldl (fun t x => pathCheck x t) r.2.2
    if p.late || meetsErr .header p.response then accessTimedOut q (answerComesLate q addr s2)
    else (pathStatus r.1 p, r.2.1, s2)

/-! A move (R269). -/

/-- What a running move has come to: the first failed flit's address and status, the units failed, whether any flit was corrected,
and the state. -/
structure MoveRun where
  first : Option (Nat × Status)
  failed : List Nat
  corrected : Bool
  state : State

/-- A destination byte is undefined where source and destination overlap (R268). -/
def moveOverlaps (src dst len a : Nat) : Bool :=
  (decide (src ≤ a) && decide (a < src + len)) ||
  (decide (dst ≤ a - dst + src) && decide (a - dst + src < dst + len))

/-- The line that a flit writes: its source's bytes, those of an overlap undefined. -/
def moveLine (src dst len a n : Nat) (d : Line) : Line :=
  BitVec.ofNat 512 (packFn 8 64 (fun i =>
    if moveOverlaps src dst len (a + i) then Config.moveByte n (a + i) else byteAt d.toNat i))

/-- A flit fails. -/
def MoveRun.fail (r : MoveRun) (i a : Nat) (st : Status) (s : State) : MoveRun :=
  { r with
    first := if r.first.isSome then r.first else some (a, st)
    failed := if r.failed.contains (i / 4) then r.failed else r.failed ++ [i / 4]
    state := s }

/-- Flit `i` of a move: its read, and its write when the read is good. -/
def moveFlit (q : ReqId) (src dst len : Nat) (crc : Bool) (met : List MoveFlit) (r : MoveRun) (i : Nat) : MoveRun :=
  let m := flitMet met i
  let a := dst + 64 * i
  let rd := match m.readEnds with
    | some st => (st, 0, r.state)
    | none => moveAccess q (src + 64 * i) false none none m m.read r.state
  if !statusGood rd.1 then r.fail i a rd.1 rd.2.2
  else
    let wr := match m.writeEnds with
      | some st => (st, 0, rd.2.2)
      | none =>
        let line := moveLine src dst len a rd.2.2.freeCtr rd.2.1
        moveAccess q a crc (some line) (some (line ^^^ m.flips)) m m.write rd.2.2
    if !statusGood wr.1 then r.fail i a wr.1 wr.2.2
    else { r with corrected := r.corrected || decide (rd.1 = .okCorrected) || decide (wr.1 = .okCorrected), state := wr.2.2 }

/-- STATUS of a completion record. -/
def moveStatus (r : MoveRun) (units : Nat) : Nat :=
  if r.failed = [] then (if r.corrected then 1 else 0)
  else if r.failed.length < units then statusCode .partialMove
  else (r.first.map (fun f => statusCode f.2)).getD 0

/-- A completion record (Table 10-9a) as its 128-bit number. -/
def completionRecord (ident firstAddr firstStatus failed units status : Nat) : Nat :=
  ident % 2 ^ 16 * 2 ^ 112 + firstAddr % 2 ^ 48 * 2 ^ 64 + firstStatus % 8 * 2 ^ 48 + failed % 2 ^ 13 * 2 ^ 35 +
    units % 2 ^ 13 * 2 ^ 22 + 8 + status % 8

/-- The record of a move that has run. -/
def moveRecord (d : Nat) (r : MoveRun) : Nat :=
  let units := (moveLength d / 64 + 3) / 4
  completionRecord (moveId d) ((r.first.map Prod.fst).getD 0) ((r.first.map (fun f => statusCode f.2)).getD 0)
    r.failed.length units (moveStatus r units)

/-- A whole move: every flit in ascending order. -/
def runMove (e : Fin 4) (d : Nat) (met : List MoveFlit) (s : State) : MoveRun :=
  (List.range (moveLength d / 64)).foldl
    (fun r i => moveFlit ⟨.move e, i % 2048⟩ (moveSrc d) (moveDst d) (moveLength d) (moveCrc d) met r i) ⟨none, [], false, s.draw⟩

/-- MOVE_DONE: every flit of the engine's first descriptor has ended: the data is moved, and the completion record is written
(R269). -/
def execMoveDone (engine : Fin 4) (met : List MoveFlit) (s : State) : Host.Outcome State Fault Refusal :=
  match (s.mover engine.val).queue with
  | [] => done s
  | d :: rest =>
    if !s.l0Runs then done s
    else
      let r := runMove engine d.toNat met s
      let x := r.state.mover engine.val
      let t := r.state.setMover engine.val
        { queue := rest ++ x.queue.drop (rest.length + 1), records := x.records.set (moveId d.toNat % 16) (moveRecord d.toNat r) }
      done (if r.failed ≠ [] then raise 1289 t else if moveNotify d.toNat then raise 1288 t else t)

end Sys2Proof.Machine
end

