-- ==== Sys2Proof/Machine/Timers.lean ====
section
/-! DEFINITION. Beat timers, counter clear and log clear (R486, R487, R491, R492). -/

namespace Sys2Proof.Machine

/-- Configuration of a beat timer (Table 20-7). -/
def State.timerCfg (s : State) (i : Nat) : Nat := s.obj 0x2500 (0x10 + i)
def timerBeat (c : Nat) : Nat := c % 4096
def timerPeriod (c : Nat) : Nat := bitsAt c 16 16
def timerOffset (c : Nat) : Nat := bitsAt c 32 16

/-- A timer's beat has come, in a matching rotation; a BEAT of B or above counts as B − 1 (R491). -/
def State.timerDue (s : State) (i : Nat) : Bool :=
  let c := s.timerCfg i
  let p := timerPeriod c
  s.released && s.beatsRun && decide (s.time.cyc = 0) && decide (p ≠ 0) &&
    decide (s.time.beat = min (timerBeat c) (s.B - 1)) && decide (s.time.rot % p = timerOffset c % p)

/-- BEAT_TIMER_FIRE: a timer whose beat has come raises event 40 + i (R491). -/
def execBeatTimerFire (i : Fin 8) (s : State) : Host.Outcome State Fault Refusal :=
  if s.timerDue i.val then doneFab (raiseOnce (40 + i.val) s) else done s

/-- What one byte of an owner write means: the owner it leaves, or the abort code it is refused with (R492). -/
def timerByte (path cur new : Nat) : Nat × Nat :=
  if new = cur then (0, cur)
  else if new = 1 then (if cur = path + 1 then (0, cur) else if cur = 0 then (0, path + 1) else (abortBusy, cur))
  else if new = 0 then (if cur = path + 1 then (0, 0) else (abortBusy, cur))
  else (abortRange, cur)

/-- A write of the timer owners at the dictionary: refused whole for any refused byte, with the first code of Table 13-2
that applies (R337, R492). -/
def timerOwnerWrite (path : Nat) (data : List Byte) (s : State) : Nat × State :=
  if data.length ≠ 8 then (abortLength, s)
  else
    let rs := (List.range 8).map (fun i => timerByte path (s.ev.timerOwner.getD i 0) (data.getD i 0).toNat)
    if rs.any (fun r => r.1 == abortRange) then (abortRange, s)
    else if rs.any (fun r => r.1 == abortBusy) then (abortBusy, raise 39 s)
    else (0, { s with ev := { s.ev with timerOwner := rs.map Prod.snd } })

/-- TIMER_OWNER_WRITE (R492). -/
def execTimerOwnerWrite (path : Path) (data : List Byte) (s : State) : Host.Outcome State Fault Refusal :=
  done (onPath path 0x2500 0x18 s (timerOwnerWrite path.code data s))

/-- Staging a timer configuration as one whole object; its reserved bits are ignored (R11, Table 20-7). -/
def timerConfigWrite (path i : Nat) (data : List Byte) (s : State) : Nat × State :=
  if data.length ≠ 8 then (abortLength, s)
  else if s.ev.timerOwner.getD i 0 ≠ path + 1 then (abortBusy, raise 39 s)
  else (0, acceptStaged path [wholePart (okey 0x2500 (0x10 + i)) 8 (ofBytes data &&& 0x0000FFFFFFFF0FFF)] s)

/-- The answer to a staged write carries its sequence number (R51). -/
def stagedOnPath (p : Path) (idx sub : Nat) (s : State) (r : Nat × State) : State :=
  if s.served then reply p.code idx sub r.1 (if r.1 = 0 then r.2.stg.lastSeq else 0) [] r.2 else s

/-- TIMER_CONFIG_WRITE: the owner's configuration is staged; another path's is refused with event 39 (R492). -/
def execTimerConfigWrite (path : Path) (i : Fin 8) (data : List Byte) (s : State) : Host.Outcome State Fault Refusal :=
  done (stagedOnPath path 0x2500 (0x10 + i.val) s (timerConfigWrite path.code i.val data s))

/-- A counter clear at the dictionary (R486). -/
def counterClearWrite (word : Nat) (s : State) : Nat × State :=
  let a := word % 2048
  let b := bitsAt word 16 11
  if b < a ∨ 1535 < b then (abortRange, s)
  else (0, { s with ev := { s.ev with count := s.ev.count.filter (fun e => decide (e.1 < a) || decide (b < e.1)) } })

/-- COUNTER_CLEAR (R486). -/
def execCounterClear (path : Path) (word : BitVec 32) (s : State) : Host.Outcome State Fault Refusal :=
  done (onPath path 0x2500 3 s (counterClearWrite word.toNat s))

/-- A log clear at the dictionary (R487). -/
def logClearWrite (value : Nat) (s : State) : Nat × State :=
  if value = 1 then (0, { s with ev := { s.ev with log := [] } }) else (abortRange, s)

/-- LOG_CLEAR (R487). -/
def execLogClear (path : Path) (value : BitVec 8) (s : State) : Host.Outcome State Fault Refusal :=
  done (onPath path 0x2500 6 s (logClearWrite value.toNat s))

end Sys2Proof.Machine
end

