-- ==== Sys2Proof/Machine/Validate.lean ====
section
/-! DEFINITION. Validation of staged writes against what will be in force at their target boundary (R38, R45, R52, R75, R80, R135,
R152, R156, R171, R189, R197, R218, R222, R226, R234, R260 to R262, R293, R409, R412, R416, R445), the value ranges of the other
writable objects, and the reserved bits that every object drops (R11). -/

namespace Sys2Proof.Machine

/-! Reserved bits (R11): a bit of no field is ignored and reads 0. -/

/-- One word repeated. -/
def repWord (w n m : Nat) : Nat := packFields w (List.replicate n m)

/-- An object's value without the reserved bits of its fields; an object not named here has none, or is refused for them. -/
def dropReserved (idx sub v : Nat) : Nat :=
  if idx = 0x1016 then v % 2 ^ 24
  else if idx = 0x1F80 then v % 2
  else if idx = 0x2100 ∧ sub = 3 then v % 256
  else if idx = 0x2100 ∧ sub = 4 then v % 128
  else if idx = 0x2300 ∧ sub = 0x30 then v &&& 0xFF01
  else if idx = 0x2300 ∧ sub = 0x31 then v &&& repWord 64 32 0xFF0100FF
  else if idx = 0x2400 ∧ 0x10 ≤ sub ∧ sub < 0x18 then v &&& (repByte 16 0x7F + (2 ^ 66 - 1) * 2 ^ 128)
  else if idx = 0x2500 ∧ 0x10 ≤ sub ∧ sub < 0x18 then v &&& 0x0000FFFFFFFF0FFF
  else if idx = 0x2600 ∧ sub = 0x20 then v % 32
  else if idx = 0x3000 ∧ sub = 2 then v &&& repWord 32 32 0x0FFFFFFF
  else if idx = 0x3000 ∧ sub = 4 then v % 4096
  else if idx = 0x3200 ∧ sub = 0x13 then v &&& repWord 64 32 (2 ^ 64 - 1 - 0xE0)
  else if 0x4200 ≤ idx ∧ idx < 0x4300 then v &&& repWord 64 16 (2 ^ 64 - 1 - 0xE0)
  else if 0x3500 ≤ idx ∧ idx < 0x3520 ∧ sub = 9 then v &&& repWord 16 8 0xC73F
  else if idx = 0x3600 ∧ sub = 2 then v &&& 0x9F
  else if idx = 0x3700 ∧ sub = 1 then v % 2 ^ 32 + (v / 2 ^ 64 &&& repByte 67584 0x8F) * 2 ^ 64
  else v

/-! What will be in force. -/

/-- The value an object will have at the target boundary of a write that arrives now with these parts (R45). -/
def State.atBoundary (s : State) (parts : List StagePart) (idx sub : Nat) : Nat :=
  (parts.filter (fun p => p.key == okey idx sub)).foldl (fun v p => p.over v) (s.projected s.arrivesFar idx sub)

/-- Settings at a boundary: the value of each object. -/
abbrev Ahead := Nat → Nat → Nat

/-! Rotation, selections, contract of the archive (R38, R45, R52, R189). -/

/-- B and W are legal together (R38). -/
def Ahead.rotationOk (t : Ahead) : Bool :=
  let b := t 0x2000 0x10
  let w := t 0x2000 0x11
  decide (64 ≤ b) && decide (b ≤ 4096) && decide (4 ≤ w) && decide (w ≤ 64) && decide (2 * w ≤ b)

/-- No channel's charge exceeds its limit (R189). -/
def State.chargesOk (s : State) (t : Ahead) : Bool :=
  (List.range 16).all (fun c =>
    decide (s.charge (t 0x3800 0x10) c ≤ s.chargeLimit (s.obj 0x3800 1) (t 0x2000 0x10)))

/-- Slot `v` can be selected for sector `k` (R52). -/
def State.slotOk (s : State) (v k : Nat) : Bool := decide (s.region v k = .valid) && !s.loadClaims v

/-- A selection's bytes: each 0 to 8, and each that changes its sector's selection to a slot passes R52. -/
def State.selectionsOk (s : State) (t : Ahead) : Bool :=
  let old := s.projected s.arrivesFar 0x2000 0x16
  (List.range 16).all (fun k =>
    let v := byteAt (t 0x2000 0x16) k
    decide (v ≤ 8) && (decide (v = byteAt old k) || decide (v = 8) || s.slotOk v k))

/-! Power (R409, R412, R416). -/

/-- The staged global release will have begun before the target boundary of a write that arrives now. -/
def State.releasedBefore (s : State) : Bool :=
  s.released || (s.arrivesFar && decide (s.dev = .configured) && s.time.startPending && !s.time.startFar &&
    decide (s.pwr.state = 0) && decide (s.pwr.transition = 0) && (s.manager || s.time.aligned))

/-- A power state request: UPPER-OFF only before release (R412). -/
def State.powerOk (s : State) (t : Ahead) : Bool :=
  decide (t 0x2300 1 ≤ 3) && (decide (t 0x2300 1 ≠ 3) || !s.releasedBefore)

/-- A unit may be in retention or off (R409). -/
def Ahead.unitMaySleep (t : Ahead) (u : Nat) : Bool :=
  if u < 4096 then !(decide (t 0x3000 5 = 1) && decide (t 0x3000 4 % 4096 = u))
  else if u < 4128 then !bitOf (t 0x3200 0x10) (u - 4096)
  else decide (cfgProd (fieldAt 64 (t 0x3200 0x13) (u - 4128)) = 0)

/-- A unit power map is legal (R409). -/
def Ahead.unitMapOk (t : Ahead) : Bool :=
  (List.range 4160).all (fun u =>
    let c := bitsAt (t 0x2300 4) (2 * u) 2
    decide (c = 0) || (decide (c ≤ 2) && t.unitMaySleep u))

/-- The thresholds are legal together (R416). -/
def Ahead.thresholdsOk (t : Ahead) : Bool :=
  let w := t 0x2300 0x10
  let h := t 0x2300 0x11
  decide (60 ≤ w) && decide (w ≤ 105) && decide (65 ≤ h) && decide (h ≤ 110) && decide (w < h)

/-! Probes and hold units (R80, R152, R156). -/

/-- A probe selection's SOURCE is valid for its KIND. -/
def probeWordOk (w : Nat) : Bool := !bitOf w 19 || decide (bitsAt w 14 5 = 0)

/-- Watermarks of a unit of capacity `cap`. -/
def marksOk (c cap : Nat) : Bool :=
  decide (cfgHigh c ≤ cap) && (decide (cfgHigh c = 0) || decide (cfgLow c = 0) || decide (cfgLow c < cfgHigh c))

/-- A bank's configuration word (R152). -/
def bankWordOk (c : Nat) : Bool :=
  decide (cfgMode c ≤ 3) && decide (cfgProd c ≤ 2) && (decide (cfgProd c ≠ 2) || decide (cfgMode c ≤ 2)) && marksOk c 16384

/-- An output ring's configuration word (R156). -/
def ringWordOk (c : Nat) : Bool := decide (cfgMode c = 1) && decide (cfgProd c ≤ 2) && marksOk c 524288

/-- Output ring words: each legal, and CONS 1 for a group that will be in READOUT (R222). -/
def Ahead.ringsOk (t : Ahead) : Bool :=
  (List.range 32).all (fun g =>
    let c := fieldAt 64 (t 0x3200 0x13) g
    ringWordOk c && (decide (t (0x3500 + g) 1 ≠ 2) || decide (cfgProd c = 1)))

/-! Lanes and Merig (R171, R197, R222, R226, R234). -/

/-- A group in MERIG mode has N_UI 400, every lane, and on a manager a link-table byte (R226). -/
def State.merigOk (s : State) (t : Ahead) (g : Nat) : Bool :=
  decide (t (0x3500 + g) 1 ≠ 1) || (decide (t (0x3500 + g) 2 = 3) && decide (t (0x3500 + g) 6 = 0xFF) &&
    (!s.manager || decide (s.linkByte g ≠ 0xFF)))

/-- A group's mode (R222, R226). -/
def State.laneModeOk (s : State) (t : Ahead) (g : Nat) : Bool :=
  decide (t (0x3500 + g) 1 ≤ 2) && s.merigOk t g &&
    (decide (t (0x3500 + g) 1 ≠ 2) || decide (cfgProd (fieldAt 64 (t 0x3200 0x13) g) = 1))

/-- A group's N_UI (R171, R197, R226). -/
def State.laneNuiOk (s : State) (t : Ahead) (g : Nat) : Bool :=
  decide (t (0x3500 + g) 2 ≤ 3) && s.merigOk t g && rateOk s.M s.fRef (nuiOf (t (0x3500 + g) 2))

/-- Flash cycles: 0 to 11, and within L_M on a trained link (R234). -/
def State.flashCyclesOk (s : State) (t : Ahead) : Bool :=
  (List.range 32).all (fun g =>
    let f := byteAt (t 0x3600 4) g
    decide (f ≤ 11) && (!(s.group g).trained || decide ((s.group g).nf0 ≤ s.lm + f)))

/-! The NoC plan (R261, R262). -/

/-- A slot-table entry of output `o` of router `r` is legal on its own. -/
def slotEntryOk (r o e : Nat) : Bool :=
  let i := e % 16
  !bitOf e 7 || (portExists r o && portExists r i && !((decide (i = 0) || decide (i = 2)) && (decide (o = 1) || decide (o = 3))) &&
    !(decide (o < 4) && decide (i = o)))

/-- Two valid entries of one router and slot name different inputs. -/
def slotInputsOk (plan r j : Nat) : Bool :=
  let es := (List.range 16).map (fun o => byteAt plan (8 + 1024 * r + 64 * o + j))
  let ins := (es.filter (fun e => bitOf e 7)).map (fun e => e % 16)
  decide ins.Nodup

/-- A stream entry sets no reserved bit and names no channel whose state is NONE (R261). -/
def State.streamEntryOk (s : State) (e : Nat) : Bool :=
  decide (bitsAt e 4 3 = 0) && (!bitOf e 7 || decide (s.chState (e % 16) ≠ .none))

/-- A NoC plan is legal. -/
def State.planOk (s : State) (plan : Nat) : Bool :=
  (List.range 64).all (fun r =>
    (List.range 16).all (fun o => (List.range 64).all (fun j => slotEntryOk r o (byteAt plan (8 + 1024 * r + 64 * o + j)))) &&
    (List.range 64).all (fun j => slotInputsOk plan r j)) &&
  (List.range 2048).all (fun i => s.streamEntryOk (byteAt plan (65544 + i)))

/-! Archive streams (R293). -/

/-- Two regions share a byte. -/
def regionsMeet (a n b m : Nat) : Bool := decide (a < b + m) && decide (b < a + n) && decide (0 < n) && decide (0 < m)

/-- The regions of a stream: data, then index records of 16 bytes. -/
def descRegions (d : Nat) : List (Nat × Nat) := [(descBase d, descSize d), (descIndexBase d, 16 * descEntries d)]

/-- Fields and encodings of one descriptor; the sizes are checked where a mode runs. -/
def descFieldsOk (d : Nat) : Bool :=
  decide (bitsAt d 48 16 = 0) && decide (bitsAt d 144 16 = 0) && decide (descMode d ≠ 3) && decide (bitsAt d 227 5 = 0) &&
    decide (bitsAt d 238 2 = 0) && decide (bitsAt d 248 8 = 0) && decide (descBase d % 4096 = 0) &&
    decide (descIndexBase d % 4096 = 0) && decide (descShare d ≤ 32768) && decide (descPinBack d + descPinFwd d ≤ 15) &&
    (decide (descMode d = 0) || (decide (1 ≤ bitsAt d 64 32) && decide (bitsAt d 64 32 ≤ 2 ^ 29) &&
      decide (256 ≤ descEntries d) && decide (descEntries d ≤ 2 ^ 28) && decide (descEntries d % 256 = 0)))

/-- A stream's regions lie within the installed capacity, and with interleave 0 its data lies in one channel. -/
def State.descPlaceOk (s : State) (d : Nat) : Bool :=
  (descRegions d).all (fun r => decide (r.1 + r.2 ≤ 16 * s.capacity)) &&
    (decide (s.obj 0x3800 3 ≠ 0) || decide (descSize d = 0) ||
      decide (descBase d / s.capacity = (descBase d + descSize d - 1) / s.capacity))

/-- No region of stream `i` overlaps another region of a stream with MODE not 0. -/
def descsApart (v i : Nat) : Bool :=
  let rs := descRegions (streamWord v i)
  (List.range 32).all (fun j =>
    let q := descRegions (streamWord v j)
    if j = i then decide (descMode (streamWord v i) = 0) || !regionsMeet (rs.getD 0 (0, 0)).1 (rs.getD 0 (0, 0)).2
      (rs.getD 1 (0, 0)).1 (rs.getD 1 (0, 0)).2
    else decide (descMode (streamWord v j) = 0) || rs.all (fun a => q.all (fun b => !regionsMeet a.1 a.2 b.1 b.2)))

/-- Stream descriptors are legal (R293). -/
def State.descriptorsOk (s : State) (t : Ahead) : Bool :=
  let v := t 0x3800 0x10
  (List.range 32).all (fun i =>
    let d := streamWord v i
    descFieldsOk d && s.descPlaceOk d && descsApart v i &&
      (decide (descMode d = 0) || decide (cfgProd (fieldAt 64 (t 0x3200 0x13) i) = 2))) && s.chargesOk t

/-! Every staged object. -/

/-- A staged write of index 0x2000, 0x2100 or 0x2300. -/
def State.systemOk (s : State) (t : Ahead) (idx sub : Nat) : Bool :=
  if idx = 0x2000 then
    if sub = 0x10 then t.rotationOk && s.chargesOk t
    else if sub = 0x11 then t.rotationOk
    else if sub = 0x14 then decide (t 0x2000 0x14 ≤ 2)
    else s.selectionsOk t
  else if idx = 0x2300 then
    if sub = 1 then s.powerOk t else if sub = 4 then t.unitMapOk else if sub = 3 then true else t.thresholdsOk
  else true

/-- A staged write of index 0x2400 or 0x2500. -/
def Ahead.pinsOk (t : Ahead) (idx sub : Nat) : Bool :=
  if idx = 0x2400 then
    if sub = 1 then (List.range 96).all (fun p => muxOk (fieldAt 16 (t 0x2400 1) p)) else watchOk (t 0x2400 sub)
  else true

/-- A staged write of the fabric, pattern and hold objects. -/
def State.fabricOk (s : State) (t : Ahead) (idx sub : Nat) : Bool :=
  if idx = 0x3000 then
    if sub = 2 then (List.range 32).all (fun c => probeWordOk (fieldAt 32 (t 0x3000 2) c))
    else if sub = 5 then decide (t 0x3000 5 ≤ 1) else true
  else if idx = 0x3100 then decide (t 0x3100 1 = 0) || (decide (t 0x3100 1 = 1) && decide (s.part.grade ≠ .n))
  else if idx = 0x3200 then (if sub = 0x13 then t.ringsOk else true)
  else if 0x4000 ≤ idx ∧ idx < 0x4100 then (if sub = 2 then decide (t idx 2 ≤ 15) else true)
  else if 0x4100 ≤ idx ∧ idx < 0x4200 then decide (t idx sub ≤ 1)
  else (List.range 16).all (fun h => bankWordOk (fieldAt 64 (t idx 1) h))

/-- A staged write of a lane group's object. -/
def State.laneOk (s : State) (t : Ahead) (g sub : Nat) : Bool :=
  if sub = 1 then s.laneModeOk t g
  else if sub = 2 then s.laneNuiOk t g
  else if sub = 3 then decide (t (0x3500 + g) 3 ≤ 2)
  else if sub = 6 then s.merigOk t g
  else if sub = 7 then decide (t (0x3500 + g) 7 ≤ 1)
  else true

/-- A staged write passes validation, but for the claim that a deep sleep takes (R45). -/
def State.stagedOk (s : State) (t : Ahead) (idx sub : Nat) : Bool :=
  if idx < 0x2400 then s.systemOk t idx sub
  else if idx < 0x2600 then t.pinsOk idx sub
  else if 0x3500 ≤ idx ∧ idx < 0x3520 then s.laneOk t (idx - 0x3500) sub
  else if idx = 0x3600 then s.flashCyclesOk t
  else if idx = 0x3700 then s.planOk (t 0x3700 1)
  else if idx = 0x3800 then s.descriptorsOk t
  else s.fabricOk t idx sub

/-! Accepting a staged write. -/

/-- A deep sleep request takes the group's maintenance claim (R218). -/
def asksDeepSleep (idx sub v : Nat) : Bool := decide (0x3500 ≤ idx) && decide (idx < 0x3520) && decide (sub = 3) && decide (v = 2)

/-- The claim that a deep sleep needs is held elsewhere. -/
def State.sleepClaimHeld (s : State) (g : Nat) : Bool :=
  decide ((s.group g).claim = .eyeScan) || decide ((s.group g).claim = .adaptation)

/-- A deep sleep that is accepted holds the claim. -/
def takeSleepClaim (g : Nat) (s : State) : State := s.setGroup g { s.group g with claim := .deepSleep }

/-- A staged write of one whole object of `len` bytes: validated, then accepted, or refused with event 21 (R44, R45, R218). -/
def stageWrite (path idx sub len v : Nat) (s : State) : Nat × State :=
  let w := dropReserved idx sub v
  let part := wholePart (okey idx sub) len w
  if s.stagedOk (s.atBoundary [wholePart (okey idx sub) len (stagedValue idx sub v w)]) idx sub = false then
    (abortRange, raise 21 s)
  else if asksDeepSleep idx sub w && s.sleepClaimHeld (idx - 0x3500) then
    (abortRange, raise 21 (laneClaimRefuse (idx - 0x3500) 2 s))
  else
    let s1 := acceptStaged path [part] s
    (0, if asksDeepSleep idx sub w then takeSleepClaim (idx - 0x3500) s1 else s1)
where
  /-- What validation looks at: the plan and the descriptors with the reserved bits they are refused for. -/
  stagedValue (idx sub v w : Nat) : Nat := if idx = 0x3700 ∧ sub = 1 then v else w

/-! Ranges of the objects that take effect at once, or in SERVICE only. -/

/-- The bytes of a value all satisfy a test. -/
def bytesAll (n v : Nat) (p : Nat → Bool) : Bool := (List.range n).all (fun i => p (byteAt v i))

/-- A link table names no worker in more than two bytes, and nothing but 0 to 31 and 0xFF (R227). -/
def linkTableOk (v : Nat) : Bool :=
  bytesAll 32 v (fun b => decide (b < 32) || decide (b = 0xFF)) &&
    (List.range 32).all (fun w => decide ((whichBelow 32 (fun g => byteAt v g == w)).length ≤ 2))

/-- Value ranges of the stored objects that are not staged (Default and Name columns of their tables). -/
def valueOk (idx sub v : Nat) : Bool :=
  if idx = 0x2100 then
    if sub = 3 then decide (v % 16 ≤ 12) && decide (bitsAt v 4 4 ≤ 12) else decide (10 ≤ v) && decide (v ≤ 10000)
  else if idx = 0x2300 then
    if sub = 0x13 then bytesAll 16 v (fun b => decide (b < 8) || decide (b = 15))
    else if sub = 0x19 then decide (v ≤ 1000)
    else if sub = 0x30 then decide (1 ≤ bitsAt v 8 8)
    else (List.range 32).all (fun e =>
      let p := bitsAt (fieldAt 64 v e) 24 8
      decide (p < 96) || decide (p = 0xFF))
  else if idx = 0x2400 then decide (v ≤ 2)
  else if idx = 0x2800 then
    if sub = 8 then bytesAll 16 v (fun b => decide (b ≤ 8) || decide (b = 15)) else decide (48 ≤ v)
  else if 0x3500 ≤ idx ∧ idx < 0x3520 then
    if sub = 9 then (List.range 8).all (fun l => decide (bitsAt (fieldAt 16 v l) 8 3 ≠ 7)) else decide (v ≤ 1)
  else if idx = 0x3600 then
    if sub = 1 then decide (48 ≤ v) else if sub = 3 then linkTableOk v
    else if sub = 6 ∨ sub = 0x10 then decide (v ≤ 1) else true
  else if idx = 0x3700 then decide (1024 ≤ v) && decide (v ≤ 16777216)
  else if idx = 0x3800 then
    if sub = 2 then decide (v ≤ 4) else if sub = 3 then decide (v ≤ 2)
    else if sub = 5 then decide (1024 ≤ v) && decide (v ≤ 1048576)
    else if sub = 6 then decide (v ≤ 1023) else if sub = 7 then decide (8 ≤ v) && decide (v ≤ 16)
    else if sub = 9 then decide (v ≠ 0) else true
  else if 0x3900 ≤ idx ∧ idx < 0x3904 then (if sub = 0xA then decide (v ≤ 1) else true)
  else true

end Sys2Proof.Machine
end

