-- ==== Sys2Proof/Machine/ReadObjects.lean ====
section
/-! DEFINITION. What a read of each dictionary object returns: the status objects, laid out as the object tables state, the
writable ones that live in a block's own registers, and the stored ones (R7, R8, Tables 1-4 to 20-11). Values are
little-endian numbers; objects of varying length are byte lists. -/

namespace Sys2Proof.Machine

/-! Ordering codes (R502). -/

/-- Grade letter of an ordering code. -/
def gradeLetter (g : Grade) : Byte :=
  match g with
  | .p => 0x50
  | .h => 0x48
  | .n => 0x4E

/-- Digit of a part's speed bin. -/
def Part.binCode (p : Part) : Nat := p.bin.val + 1

/-- The ordering code: KX3-, the grade letter and the bin digit. -/
def orderingCode (g : Grade) (bin : Nat) : List Byte := [0x4B, 0x58, 0x33, 0x2D, gradeLetter g, BitVec.ofNat 8 (0x30 + bin)]

/-- Bit per element of a list of numbers below `n`. -/
def bitMap (n : Nat) (p : Nat → Bool) : Nat := natOfFn n p

/-! Codes of the states that are read out. -/

/-- Grade code (0x2000 sub 3). -/
def gradeCode : Grade → Nat
  | .p => 0
  | .h => 1
  | .n => 2

/-- Layer state code (0x3100 sub 2). -/
def layerCode : Layer → Nat
  | .off => 0
  | .ramping => 1
  | .clearing => 2
  | .on => 3
  | .notFitted => 4

/-- Receive state code (Table 8-5). -/
def rxCode : Rx → Nat
  | .deep => 0
  | .clock => 1
  | .adapt => 2
  | .lock => 3
  | .deskew => 4
  | .up => 5
  | .lost => 6
  | .shallow => 7
  | .fault => 8

/-- Channel state code (Table 11-4). -/
def chStateCode : ChState → Nat
  | .off => 0
  | .training => 1
  | .ready => 2
  | .selfRefresh => 3
  | .retraining => 4
  | .faulty => 5
  | .none => 6

/-- Core state code (Table 12-7). -/
def coreCode : Core → Nat
  | .stopped => 0
  | .waiting => 1
  | .running => 2
  | .roundWait => 3
  | .halted => 4
  | .faulted => 5

/-- Lantern state code (Table 15-6). -/
def lanternCode : Lantern → Nat
  | .off => 0
  | .locking => 1
  | .locked => 2
  | .coast => 3
  | .relock => 4
  | .align => 5

/-! Records. -/

/-- A bookmark as 64 bits (Table 6-5). -/
def Bookmark.number (b : Bookmark) : Nat := b.rot % 2 ^ 32 + b.addr % 2 ^ 19 * 2 ^ 32 + b2n b.empty * 2 ^ 62 + 2 ^ 63

/-- 16 bookmarks of a unit, newest first. -/
def State.bookmarks (s : State) (u : Nat) : Nat := packFields 64 ((s.unit u).marks.map Bookmark.number)

/-- A cause log entry (Table 17-5). -/
def CauseEntry.number (e : CauseEntry) : Nat :=
  e.rot % 2 ^ 64 + e.bakTime % 2 ^ 48 * 2 ^ 64 + e.cause * 2 ^ 112 + e.path % 4 * 2 ^ 124 + b2n e.multi * 2 ^ 126 +
    b2n e.warm * 2 ^ 127

/-- An AON event log entry (Table 20-3). -/
def LogEntry.number (e : LogEntry) : Nat :=
  e.rot % 2 ^ 64 + e.bakTime % 2 ^ 48 * 2 ^ 64 + e.event % 2048 * 2 ^ 112 + e.sev % 4 * 2 ^ 123 + b2n e.shutdown * 2 ^ 125

/-- A pin watch's status (0x2400 sub 0x18). -/
def PinWatch.number (x : PinWatch) : Nat :=
  x.fires % 2 ^ 32 + b2n x.armed * 2 ^ 50 + x.beat % 4096 * 2 ^ 52 + x.rot % 2 ^ 64 * 2 ^ 64

/-- An archive stream's state (Table 11-8). -/
def State.streamState (s : State) (i : Nat) : Nat :=
  let x := s.stream i
  let oldest := match x.segs with
    | [] => 0
    | g :: _ => g.rot
  b2n x.active + 2 * b2n x.full + 4 * b2n x.frozen + 8 * b2n x.stopped + x.sent % 2 ^ 32 * 2 ^ 32 + oldest % 2 ^ 64 * 2 ^ 64 +
    x.records % 2 ^ 32 * 2 ^ 128 + x.rel % 2 ^ 48 * 2 ^ 160 + x.wp % 2 ^ 48 * 2 ^ 208

/-! Identity and rotation (Tables 1-4 and 2-9). -/

/-- A worker holds its release (R34). -/
def State.holdsRelease (s : State) : Bool :=
  !s.manager && decide (s.dev = .configured) && s.time.startPending && !s.time.aligned

/-- Index 0x2000, but for the ordering code. -/
def State.readIdentity (s : State) (sub : Nat) : Nat :=
  match sub with
  | 2 => s.part.stepping
  | 3 => gradeCode s.part.grade
  | 4 => s.part.binCode
  | 5 => s.part.absent.toNat
  | 6 => (whichBelow 256 s.bankPresent).length
  | 7 => packFields 8 s.rst.rename
  | 8 => ofBytes s.part.spareMap
  | 9 => s.part.serial.toNat
  | 0xA => b2n s.rst.roleManager
  | 0xB => b2n s.rst.roleSource
  | 0xC => b2n s.rst.roleStrap
  | 0xD => b2n s.holdsRelease
  | 0x12 => s.time.rot
  | 0x13 => s.time.beat
  | 0x14 => if s.manager then s.obj 0x2000 0x14 else 2
  | 0x15 => devCode s.dev
  | 0x17 => packFields 8 s.stg.ctx
  | 0x18 => s.stg.lastSeq
  | 0x19 => s.stg.lastApplied
  | 0x1A => s.stg.pend.length
  | 0x1B => packFields 160 (s.stg.recs.map Record.number)
  | 0x1C => s.stg.perPath.getD 0 0
  | 0x1D => s.stg.perPath.getD 1 0
  | 0x1E => s.stg.perPath.getD 2 0
  | 0x1F => s.stg.perPath.getD 3 0
  | 0x20 => packFields 8 s.stg.swapCode
  | 0x21 => s.stg.swapRot
  | _ => s.obj 0x2000 sub

/-! Clocks, reset, power, pins (Tables 15-8, 17-7, 16-9, 18-7). -/

/-- Clock status (Table 15-9). -/
def State.clockStatus (s : State) : Nat :=
  let c := s.clk
  b2n c.xoGood + 2 * b2n c.refGood + 4 * b2n (decide (c.lantern = .locked) || decide (c.lantern = .align)) +
    8 * b2n s.coasting + 16 * b2n c.daymark + 32 * b2n c.aonFallback +
    64 * b2n ((List.range 32).all (fun g => decide (s.lanePower g = 2) || s.loopsLocked g)) + 128 * b2n c.memLock +
    256 * b2n c.memHoldover + 512 * b2n (!s.manager && bitOf (s.obj 0x3600 2) 7)

/-- Index 0x2100. -/
def State.readClock (s : State) (sub : Nat) : Nat :=
  match sub with
  | 6 => s.clockStatus
  | 7 => lanternCode s.clk.lantern
  | 8 => s.clk.xoCount
  | 9 => s.clk.refCount
  | 0xA => intBits 32 s.clk.refDev
  | 0xB => s.clk.coasts
  | 0xC => s.clk.coastBeats
  | 0xD => s.clk.loops.toNat
  | 0xE => s.clk.causes
  | _ => s.obj 0x2100 sub

/-- Index 0x2200. -/
def State.readReset (s : State) (sub : Nat) : Nat :=
  match sub with
  | 9 => s.backup.resets
  | 0xA => packFields 128 (s.backup.causes.map CauseEntry.number)
  | 0xB => packFields 32 s.rst.milestones
  | 0x10 => ofBytes s.nvm.copyA
  | 0x11 => ofBytes s.nvm.copyB
  | 0x13 => s.rst.optionStatus
  | 0x14 => ofBytes s.rst.options
  | 0x15 => b2n s.backup.lost
  | _ => s.obj 0x2200 sub

/-- Highest reading of a layer. -/
def State.layerReading (s : State) (l : Nat) : Int :=
  let rs := ((List.range 128).filter (fun n => decide (sensorLayer n = l))).map s.reading
  maxInt (rs.headD 0) rs

/-- Index 0x2300. The rails' measurements are open values (R407). -/
def State.readPower (s : State) (sub : Nat) : Nat :=
  match sub with
  | 2 => s.powerShown
  | 5 => s.pwr.regOn % 16 + s.pwr.regFault % 16 * 16
  | 6 => Config.rails s.freeCtr
  | 7 => s.pwr.regFaults
  | 0x12 => 115
  | 0x14 => packFn 16 128 (fun n => intBits 16 (s.reading n))
  | 0x15 => packFn 16 5 (fun l => intBits 16 (s.layerReading l))
  | 0x16 => packFn 16 16 (fun k => intBits 16 (Tbl.at 0 s.pwr.estimates k))
  | 0x17 => s.pwr.broken.toNat
  | 0x18 => s.pwr.thermal
  | 0x1A => ofBytes s.lastShutdown
  | 0x1B => s.backup.shutdowns
  | 0x32 => packFn 16 32 (fun e => Tbl.at 0 s.pwr.pmbusStatus e)
  | 0x33 => packFn 32 32 (fun e => Tbl.at 0 s.pwr.pmbusFaults e)
  | 0x40 => s.pwr.nvmPending
  | _ => s.obj 0x2300 sub

/-- Index 0x2400, but for the console bytes. -/
def State.readPins (s : State) (sub : Nat) : Nat :=
  match sub with
  | 2 => s.obj 0x2400 1
  | 4 => bitMap 96 s.ball
  | 5 => packFields 8 s.pins.classes
  | 6 => s.pins.conflicts
  | 7 => b2n s.busy + 2 * b2n s.pins.busyLatch + 4 * b2n (if s.manager then s.anyDark else s.adrift)
  | 8 => b2n s.pins.beacon + 2 * b2n s.pins.stopLatch
  | 0x18 => packFields 128 (s.pins.watches.map PinWatch.number)
  | 0x29 => packFields 32 s.pins.conDrops
  | _ => s.obj 0x2400 sub

/-! Events, security, loading (Tables 20-11, 19-10, 14-11). -/

/-- Index 0x2500. -/
def State.readEvents (s : State) (sub : Nat) : Nat :=
  match sub with
  | 1 => packFn 16 1536 s.desc
  | 2 => packFn 16 1536 s.eventCount
  | 4 => s.ev.total
  | 5 => packFields 128 (s.ev.log.map LogEntry.number)
  | 7 => s.ev.last
  | 0x18 => packFields 8 s.ev.timerOwner
  | 0x20 => packFn 32 32 s.nvmWrites
  | 0x21 => s.nvm.worn
  | _ => s.obj 0x2500 sub

/-- Key check of a direction; 0 before any load (R476). -/
def checkOf (k : Option (BitVec 128)) : Nat :=
  match k with
  | some x => keyCheck x
  | none => 0

/-- Index 0x2600, but for the attestation report. -/
def State.readSecurity (s : State) (sub : Nat) : Nat :=
  match sub with
  | 1 => s.sec.life
  | 3 => ofBytes s.sec.nonce
  | 4 => ofBytes s.nvm.ownerDigest
  | 5 => ofBytes s.part.publicKey
  | 6 => ofBytes s.part.certificate
  | 0x12 => s.sec.attState
  | 0x20 => s.backup.tamperConfig
  | 0x21 => s.sec.causes ||| s.backup.tamperLatches
  | 0x22 => s.sec.alarms
  | 0x32 => packFn 64 32 (fun g => checkOf (s.group g).txKey + checkOf (s.group g).rxKey * 2 ^ 32)
  | 0x33 => bitMap 32 (fun g => (s.group g).txPending.isSome || (s.group g).rxPending.isSome)
  | _ => s.obj 0x2600 sub

/-- Index 0x2800. -/
def State.readConfig (s : State) (sub : Nat) : Nat :=
  match sub with
  | 1 => packFn 8 128 (fun i => regionCode (s.region (i / 16) (i % 16)))
  | 2 => s.loadStatus
  | 3 => packFn 256 128 (fun i => s.contract (i / 16) (i % 16))
  | 4 => s.cfg.loads
  | 5 => s.cfg.fails
  | 6 => ofBytes s.cfg.header
  | 0xB => s.cfg.passesA % 2 ^ 32 + s.cfg.passesB % 2 ^ 32 * 2 ^ 32
  | 0xC => s.cfg.corrected
  | 0xD => s.cfg.uncorrectable
  | 0xE => s.cfg.lastError
  | 0xF => packFn 64 128 (fun i => s.descriptor (i / 64) (i % 64))
  | 0x10 => s.cfg.peer
  | 0x11 => s.cfg.lastRefusal
  | 0x12 => s.time.relStep
  | _ => s.obj 0x2800 sub

/-! Fabric, pattern layer, hold memory, contract (Tables 3-9, 3-10, 4-12, 5-7, 5-8, 6-10, 6-11, 7-9). -/

/-- Plots of a station that use a group (0x4000 + s sub 4). -/
def State.plotsInUse (s : State) (st : Nat) : Nat :=
  let c := s.ctxOf (sectorOf st)
  if c < 8 then bitMap 32 (fun p =>
    (List.range 64).any (fun g => bitOf (bitsAt (s.stationFrame c st p 1 0) (2048 + 5 * g) 5) 4))
  else 0

/-- Index 0x3000. -/
def State.readFabric (s : State) (sub : Nat) : Nat :=
  match sub with
  | 3 => packFn 32 32 s.probeSelection
  | 6 => s.fab.logWritten
  | 7 => s.fab.logDropped
  | 0x10 => s.fab.reservedMap.toNat
  | 0x11 => s.fab.ssuDropped
  | _ => s.obj 0x3000 sub

/-- Index 0x4000 + s. -/
def State.readStation (s : State) (st sub : Nat) : Nat :=
  let x := s.station st
  match sub with
  | 1 => x.snapQ.toNat
  | 3 => Tbl.at 0 s.fab.snapRot st
  | 4 => s.plotsInUse st
  | 0x11 => Tbl.at 0 s.fab.mailAccepted st
  | 0x12 => x.ssuDrops
  | 0x13 => s.obj (0x4000 + st) 0x10
  | 0x14 => x.reserved
  | 0x15 => x.snapTrav.toNat
  | 0x16 => x.snapSsu.toNat
  | _ => s.obj (0x4000 + st) sub

/-- Index 0x3100. -/
def State.readPattern (s : State) (sub : Nat) : Nat :=
  match sub with
  | 2 => if s.part.grade = .n then 4 else layerCode s.pat.layer
  | 3 => s.pat.searches
  | 4 => s.pat.overCap
  | 5 => s.pat.spacing
  | 6 => bitMap 256 (fun st => decide ((s.bank st).causes ≠ 0))
  | _ => if s.part.grade = .n then 0 else s.obj 0x3100 sub

/-- Valid entries of half `h` of a bank. -/
def State.validEntries (s : State) (st h : Nat) : Nat :=
  (whichBelow 2048 (fun e => (s.patEntry st (2048 * h + e)).valid)).length

/-- Index 0x4100 + s. -/
def State.readBank (s : State) (st sub : Nat) : Nat :=
  let b := s.bank st
  match sub with
  | 3 => s.pageOf st
  | 4 => if s.sectorHasContext (sectorOf st) then s.searchCap st else 0
  | 5 => b.searches
  | 6 => b.overCap
  | 7 => b.spacing
  | 8 => b.refused
  | 9 => b.causes
  | 0xA => s.validEntries st 0
  | 0xB => s.validEntries st 1
  | 0xC => (s.station st).snapPat.toNat
  | 0xD => b.parityEntry
  | 0xE => b.parityCount
  | 0xF => s.spareRows st
  | 0x10 => b.passes
  | 0x11 => b.refusedAddr
  | _ => s.obj (0x4100 + st) sub

/-- Index 0x3200. -/
def State.readHold (s : State) (sub : Nat) : Nat :=
  match sub with
  | 4 => s.hold.marchFailing
  | 5 => s.hold.lastRefusal
  | 6 => (s.hold.units.filter (fun e => decide (e.2.claim ≠ .none))).length
  | 0x11 => packFn 1024 32 (fun g => s.bookmarks (4096 + g))
  | 0x12 => packFn 32 32 (fun g => (s.unit (4096 + g)).tail)
  | 0x14 => packFn 32 32 (fun g => (s.unit (4128 + g)).fill)
  | 0x15 => packFields 8 s.hold.owners
  | 0x16 => packFn 16 64 (fun i => (s.unit (4096 + i)).causes)
  | 0x17 => packFn 32 64 (fun i => (s.unit (4096 + i)).march)
  | 0x18 => s.hold.corrected
  | 0x19 => s.hold.uncorrectable
  | _ => s.obj 0x3200 sub

/-- Index 0x4200 + s. -/
def State.readBanks (s : State) (st sub : Nat) : Nat :=
  let c := s.holdCount st
  let u := 16 * st
  match sub with
  | 2 => packFn 32 16 (fun h =>
      let x := s.unit (u + h)
      x.fill % 2 ^ 15 + x.tail % 2 ^ 14 * 2 ^ 16 + x.fillHalf * 2 ^ 30)
  | 3 => packFn 1024 16 (fun h => s.bookmarks (u + h))
  | 4 => packFn 16 16 (fun h => (s.unit (u + h)).causes)
  | 5 => c.writesRefused
  | 6 => c.popsRefused
  | 7 => c.collided
  | 8 => c.corrected
  | 9 => c.uncorrectable
  | 0xA => c.lastUncorr
  | 0xB => c.waited
  | 0xC => packFn 32 16 (fun h => (s.unit (u + h)).march)
  | _ => s.obj (0x4200 + st) sub

/-- Index 0x3300. -/
def State.readContract (s : State) (sub : Nat) : Nat :=
  match sub with
  | 1 => 0x0100
  | 2 => packFn 256 16 s.contractInForce
  | 3 => s.obj 0x2100 4 % 16
  | 4 => s.con.ahead
  | 5 => s.con.lastRefusal
  | 6 => s.con.lmMismatch
  | 7 => s.con.planMismatch
  | 8 => s.planId
  | 9 => s.con.slotMisses
  | 0xA => s.con.lastMiss
  | 0xB => s.M / 4 * s.B
  | 0xC => packFn 32 16 (fun _ => s.chargeLimit (s.obj 0x3800 1) s.B)
  | _ => 0

/-! Lanes and Merig (Tables 8-11, 8-12, 9-8, 9-9). -/

/-- Index 0x3400. -/
def State.readLanes (s : State) (sub : Nat) : Nat :=
  match sub with
  | 1 => bitMap 32 (fun g => decide ((s.group g).rx = .up))
  | 2 => bitMap 32 (fun g => decide ((s.group g).rx = .lost) || decide ((s.group g).rx = .fault) || s.laneInReset g)
  | 3 => s.lan.replaced
  | _ => bitMap 32 (fun g => (s.group g).scanning)

/-- Alignment report (Table 8-6). -/
def Group.alignment (x : Group) : Nat :=
  x.marginTrained % 256 + x.margin % 256 * 2 ^ 8 + x.datumBeat % 4096 * 2 ^ 16 + b2n x.datumSeen * 2 ^ 31

/-- Index 0x3500 + g, but for the eye scan results. -/
def State.readGroup (s : State) (g sub : Nat) : Nat :=
  let x := s.group g
  match sub with
  | 4 => rxCode x.rx
  | 0xD => x.alignment
  | 0xE => packFields 8 (x.deskew.map (intBits 8))
  | 0xF => x.causes
  | 0x10 => x.delivered
  | 0x11 => x.replaced
  | 0x12 => x.crcErrs
  | 0x13 => x.syncErrs
  | 0x14 => x.seqErrs
  | 0x15 => x.coasted
  | 0x16 => x.lastReplaced
  | 0x18 => x.scan.state + x.scan.written % 2 ^ 16 * 2 ^ 16
  | 0x1A => x.underruns
  | 0x1B => x.lastRefusal
  | 0x1C => x.trainings
  | _ => s.obj (0x3500 + g) sub

/-- Index 0x3600. -/
def State.readMerig (s : State) (sub : Nat) : Nat :=
  match sub with
  | 7 => s.mer.own
  | 8 => s.mer.wnum
  | 9 => packFn 32 32 (fun g =>
      let x := s.group g
      x.np % 256 + x.nf0 % 256 * 2 ^ 8 + x.padP % 256 * 2 ^ 16 + x.padF % 256 * 2 ^ 24)
  | 0xA => bitMap 32 s.workerServes
  | 0xB => bitMap 32 (fun w => (s.worker w).dark)
  | 0xC => packFields 64 s.mer.flashes
  | 0xD => s.mer.suppressed
  | 0xE => s.mer.resends
  | 0xF => s.mer.dropped
  | 0x12 => packFields 8 s.mer.chain
  | _ => s.obj 0x3600 sub

/-- Index 0x5000 + w, but for the relay data. -/
def State.readWorker (s : State) (w sub : Nat) : Nat :=
  let x := s.worker w
  match sub with
  | 1 => x.state
  | 2 => bitMap 32 (fun g => s.linkByte g == w)
  | 3 => x.serial
  | 4 => x.dstate
  | 5 => x.darkEntries
  | 6 => x.lastDark
  | 0x10 => x.target
  | 0x12 => x.relayAbort
  | _ => 0

/-! Network on chip, archive, Keepers (Tables 10-10, 11-9, 11-10, 12-11). -/

/-- Index 0x3700. -/
def State.readNoc (s : State) (sub : Nat) : Nat :=
  match sub with
  | 5 => packFn 32 64 (fun r => Tbl.at 0 s.noc.corrections r)
  | 6 => s.noc.discarded
  | 7 => s.noc.poisoned
  | 8 => s.noc.e2eFails
  | 9 => s.noc.timedOut
  | 0xA => s.noc.late
  | 0xB => s.tagsInUse
  | 0xC => s.noc.peakTags
  | 0x11 => bitMap 101 s.fenced
  | 0x12 => packFn 8 101 s.fenceState
  | 0x14 => s.noc.schedDiscarded
  | 0x24 => packFields 128 (s.mover 0).records
  | 0x25 => packFields 128 (s.mover 1).records
  | 0x26 => packFields 128 (s.mover 2).records
  | 0x27 => packFields 128 (s.mover 3).records
  | _ => s.obj 0x3700 sub

/-- Index 0x3800. -/
def State.readArchive (s : State) (sub : Nat) : Nat :=
  match sub with
  | 4 => 16 * s.capacity
  | 0x11 => packFn 256 32 s.streamState
  | 0x14 => packFn 32 16 s.chargeNow
  | _ => s.obj 0x3800 sub

/-- Index 0x3810 + c. -/
def State.readChannel (s : State) (c sub : Nat) : Nat :=
  let x := s.channel c
  match sub with
  | 1 => chStateCode (s.chState c)
  | 2 => x.causes
  | 3 => x.corrected
  | 4 => x.uncorrectable
  | 5 => x.epochErrs
  | 6 => x.poisoned
  | 7 => x.lastError
  | 8 => x.alerts
  | 9 => x.replays
  | 0xA => x.rfmIssued
  | 0xE => x.linesDone % 2 ^ 32 + x.linesPoisoned % 2 ^ 32 * 2 ^ 32
  | 0xF => x.epoch
  | 0x10 => x.tagMap
  | 0x11 => x.lastRefusal
  | 0x12 => x.trainings
  | _ => 0

/-- Index 0x3900 + k. -/
def State.readKeeper (s : State) (k sub : Nat) : Nat :=
  let c := s.keeper k
  match sub with
  | 3 => coreCode c.state
  | 4 => c.pc
  | 5 => s.statusWord k
  | 6 => c.faultRecord
  | 7 => c.faultAddr
  | 8 => c.overrunCount
  | 9 => c.watchdogs
  | 0xB => c.mboxDrops
  | 0xC => c.lastRound
  | 0xD => c.longestRound
  | 0xE => packFn 64 32 (fun r => (c.reg (Fin.ofNat 32 r)).toNat)
  | 0xF => c.rounds
  | 0x10 => c.tags.length
  | 0x11 => c.emcyDrops
  | 0x12 => c.corrected
  | 0x13 => c.lastEvpost
  | 0x14 => c.lateRounds
  | _ => s.obj (0x3900 + k) sub

/-! The communication profile (Table 13-15). -/

/-- CAN status (0x1F83 sub 3). -/
def State.canStatus (s : State) : Nat := min s.can.txErr 255 + min s.can.rxErr 255 * 256 + s.can.bus % 4 * 2 ^ 16

/-- What of the option bytes is in force (0x1F83 sub 0xA). -/
def State.canOptions (s : State) : Nat :=
  (if s.can.silent then 0 else s.can.nodeId % 256) + s.can.nomRate % 2 * 256 + s.can.dataRate % 4 * 512

/-- Index 0x1F83. -/
def State.readNode (s : State) (sub : Nat) : Nat :=
  match sub with
  | 0 => 0x0B
  | 1 => nmtCode s.can.nmt
  | 2 => b2n s.time.startPending
  | 3 => s.canStatus
  | 4 => s.can.framesRx
  | 5 => s.can.dropped
  | 6 => s.can.recoveries
  | 7 => s.can.emcySent
  | 8 => s.can.emcyDropped
  | 9 => s.can.aborted
  | 0xA => s.canOptions
  | _ => bitMap 8 (fun n => (s.can.consumers.getD n {}).timedOut)

/-- Bytes of "Kwecor KX3". -/
def deviceName : Nat := 0x33584B20726F6365774B

/-- Index 0x1000 to 0x1FFF, but for the hardware version. -/
def State.readCommunication (s : State) (idx sub : Nat) : Nat :=
  if idx = 0x1000 then 0
  else if idx = 0x1001 then s.errorRegister
  else if idx = 0x1003 then (if sub = 0 then s.can.errorField.length else s.can.errorField.getD (sub - 1) 0)
  else if idx = 0x1008 then deviceName
  else if idx = 0x1014 then 0x80 + s.can.nodeId
  else if idx = 0x1016 ∧ sub = 0 then 8
  else if idx = 0x1018 then
    (match sub with
      | 0 => 4
      | 1 => 0x000004B7
      | 2 => 0x00000B03
      | 3 => s.part.stepping % 2 ^ 16 * 2 ^ 16 + gradeCode s.part.grade * 2 ^ 8 + s.part.binCode % 256
      | _ => s.part.serial.toNat % 2 ^ 32)
  else if idx = 0x1F83 then s.readNode sub
  else s.obj idx sub

/-! Every object. -/

/-- Indices below 0x3000. -/
def State.readSystem (s : State) (idx sub : Nat) : Nat :=
  if idx < 0x2000 then s.readCommunication idx sub
  else if idx = 0x2000 then s.readIdentity sub
  else if idx = 0x2100 then s.readClock sub
  else if idx = 0x2200 then s.readReset sub
  else if idx = 0x2300 then s.readPower sub
  else if idx = 0x2400 then s.readPins sub
  else if idx = 0x2500 then s.readEvents sub
  else if idx = 0x2600 then s.readSecurity sub
  else s.readConfig sub

/-- Indices from 0x3000 on. -/
def State.readUnits (s : State) (idx sub : Nat) : Nat :=
  if idx = 0x3000 then s.readFabric sub
  else if idx = 0x3100 then s.readPattern sub
  else if idx = 0x3200 then s.readHold sub
  else if idx = 0x3300 then s.readContract sub
  else if idx = 0x3400 then s.readLanes sub
  else if idx < 0x3520 then s.readGroup (idx - 0x3500) sub
  else if idx = 0x3600 then s.readMerig sub
  else if idx = 0x3700 then s.readNoc sub
  else if idx = 0x3800 then s.readArchive sub
  else if idx < 0x3820 then s.readChannel (idx - 0x3810) sub
  else if idx < 0x3904 then s.readKeeper (idx - 0x3900) sub
  else if idx < 0x4100 then s.readStation (idx - 0x4000) sub
  else if idx < 0x4200 then s.readBank (idx - 0x4100) sub
  else if idx < 0x4300 then s.readBanks (idx - 0x4200) sub
  else s.readWorker (idx - 0x5000) sub

/-- The value of an object of fixed length; an object that is only written reads 0 (R7, R8). -/
def State.readObject (s : State) (idx sub : Nat) : Nat :=
  match objRow idx sub with
  | none => 0
  | some r => if r.acc = .wo then 0 else if idx < 0x3000 then s.readSystem idx sub else s.readUnits idx sub

/-- Bytes of the objects whose length varies. -/
def State.readVarying (s : State) (idx sub : Nat) : List Byte :=
  if idx = 0x1009 ∨ (idx = 0x2000 ∧ sub = 1) then orderingCode s.part.grade s.part.binCode
  else if idx = 0x2400 ∧ 0x25 ≤ sub then s.pins.conRx.getD (sub - 0x25) []
  else if idx = 0x2600 ∧ sub = 0x11 then s.sec.report
  else if 0x3500 ≤ idx ∧ idx < 0x3520 ∧ sub = 0x19 then (s.group (idx - 0x3500)).scan.results
  else if 0x5000 ≤ idx ∧ sub = 0x11 then (s.worker (idx - 0x5000)).relayData
  else [0]

/-- The bytes of an object (R336). -/
def State.objectBytes (s : State) (idx sub : Nat) : List Byte :=
  match objRow idx sub with
  | none => []
  | some r => if r.len = 0 then s.readVarying idx sub else toBytes r.len (s.readObject idx sub)

/-- The object exists on this device: a worker has no objects of workers (R359, Table 1-7). -/
def State.objectCode (s : State) (idx sub : Nat) : Nat :=
  if !indexExists idx || (decide (0x5000 ≤ idx) && !s.manager) then abortNoIndex
  else match objRow idx sub with
    | none => abortNoSub
    | some _ => 0

/-- A read of an object: its abort code, its bytes, and the state after what the read itself does: console bytes are taken, and
an open value is drawn (R331, R337, R455). -/
def readOp (idx sub : Nat) (s : State) : Nat × List Byte × State :=
  let c := s.objectCode idx sub
  if c ≠ 0 then (c, [], s)
  else if 0x3900 ≤ idx ∧ idx < 0x3904 ∧ sub = 0xE ∧
      ((s.keeper (idx - 0x3900)).state = .running ∨ (s.keeper (idx - 0x3900)).state = .roundWait) then (abortState, [], s)
  else if idx = 0x2400 ∧ 0x25 ≤ sub ∧ sub ≤ 0x28 then
    let r := consoleTake (sub - 0x25) s
    (0, r.1, r.2)
  else if idx = 0x2300 ∧ sub = 6 then (0, s.objectBytes idx sub, s.draw)
  else (0, s.objectBytes idx sub, s)

end Sys2Proof.Machine
end

