-- ==== Sys2Proof/Machine/Writes.lean ====
section
/-! DEFINITION. What a write of each dictionary object does: refused in the order of Table 13-2, else staged, handed to the command
that the object carries, cleared by ones, or stored (R7 to R11, R44, R45, R48, R337, R359, Tables 1-4 to 20-11). -/

namespace Sys2Proof.Machine

/-! Objects that are cleared by writing ones. -/

/-- Cause bits of the hold units from `u` on, 16 bits of the value each (Tables 6-10 and 6-11). -/
def clearUnitCauses (u n v : Nat) (s : State) : State :=
  (List.range n).foldl (fun t i =>
    let x := t.unit (u + i)
    t.setUnit (u + i) { x with causes := clearBits x.causes (fieldAt 16 v i) }) s

/-- Security causes: bits 15 to 4 in the device, 3 to 0 in the backup domain (Table 19-7). -/
def clearSecurityCauses (v : Nat) (s : State) : State :=
  { s with
    sec := { s.sec with causes := clearBits s.sec.causes (v / 16 * 16) }
    backup := { s.backup with tamperLatches := clearBits s.backup.tamperLatches (v % 16) } }

/-- A write of a W1C object. -/
def clearWrite (idx sub v : Nat) (s : State) : State :=
  if idx = 0x2100 then { s with clk := { s.clk with causes := clearBits s.clk.causes v } }
  else if idx = 0x2200 then (if bitOf v 0 then { s with backup := { s.backup with lost := false } } else s)
  else if idx = 0x2300 then clearBroken v s
  else if idx = 0x2400 then
    if bitOf v 1 = false then s
    else if sub = 7 then { s with pins := { s.pins with busyLatch := false } }
    else { s with pins := { s.pins with stopLatch := false } }
  else if idx = 0x2600 then clearSecurityCauses v s
  else if idx = 0x3200 then clearUnitCauses 4096 64 v s
  else if idx < 0x3520 then
    let g := idx - 0x3500
    s.setGroup g { s.group g with causes := clearBits (s.group g).causes v }
  else if idx < 0x3820 then
    let c := idx - 0x3810
    s.setChannel c { s.channel c with causes := clearBits (s.channel c).causes v }
  else if idx < 0x4200 then
    let st := idx - 0x4100
    s.setBank st { s.bank st with causes := clearBits (s.bank st).causes v }
  else clearUnitCauses (16 * (idx - 0x4200)) 16 v s

/-! Objects with a meaning of their own. -/

/-- Event descriptors written whole; a number that no chapter defines ignores its word (R482). -/
def descriptorsWrite (v : Nat) (s : State) : State :=
  { s with ev := { s.ev with desc := (List.range 1536).foldl (fun d e =>
      if (defSev e).isSome then Tbl.set descDefault d e (fieldAt 16 v e &&& 0xE07F) else d) s.ev.desc } }

/-- A station's Keeper mailbox takes a value, shown from the next beat (R93). -/
def mailboxWrite (st v : Nat) (s : State) : State :=
  { s with fab := { s.fab with mailAccepted := Tbl.upd 0 s.fab.mailAccepted st (v % 65536) } }

/-- L_M: the pads of the trained links follow it (R233, R234). -/
def latencyWrite (v : Nat) (s : State) : State :=
  (List.range 32).foldl (fun t g =>
    let x := t.group g
    if x.trained then t.setGroup g { x with padP := v - x.np, padF := v + t.flashCycle g - x.nf0 } else t) (s.setObj 0x3600 1 v)

/-- The value stored, when it is in range. -/
def storeObject (idx sub v : Nat) (s : State) : Nat × State :=
  if valueOk idx sub v then (0, s.setObj idx sub (dropReserved idx sub v)) else (abortRange, s)

/-- A write of a Keeper's command object: 1 runs it, 2 stops it (Table 12-11). -/
def keeperCommandWrite (k v : Nat) (s : State) : Nat × State :=
  if v = 1 then keeperRunWrite k s else if v = 2 then keeperStopWrite k s
  else (if s.keeperInReset k then abortState else abortRange, s)

/-- Communication profile. -/
def writeCommunication (path idx sub v : Nat) (s : State) : Nat × State :=
  if idx = 0x1003 then errorFieldWrite v s
  else if idx = 0x1016 then consumerWrite (sub - 1) v s
  else if idx = 0x1017 then heartbeatWrite v s
  else if idx = 0x1F82 then localNmt path v s
  else storeObject idx sub v s

/-- Reset and option bytes: the verification of an option write is drawn. -/
def writeResets (path sub v : Nat) (data : List Byte) (s : State) : Nat × State :=
  if sub = 1 then resetRequestWrite v path s
  else if sub = 2 then stationResetWrite data s
  else if sub = 3 then laneGroupResetWrite v s
  else if sub = 4 then dramChannelResetWrite v s
  else if sub = 5 then keeperResetWrite v s
  else if sub = 6 then patternBankResetWrite data s
  else if sub = 7 then queueGroupResetWrite data s
  else if sub = 8 then engineResetWrite v s
  else
    optionWrite data (Config.nvmVerifies s.freeCtr) s.draw

/-- Clocks, pins and events. -/
def writeClocksPins (path idx sub v : Nat) (data : List Byte) (s : State) : Nat × State :=
  if idx = 0x2100 then
    if sub = 1 then referenceWrite v s else if sub = 2 then multiplierWrite v s else storeObject idx sub v s
  else if idx = 0x2400 then
    if sub = 3 then gpioWrite data s else if 0x21 ≤ sub then consoleWrite (sub - 0x21) data s else storeObject idx sub v s
  else if sub = 1 then (0, descriptorsWrite v s)
  else if sub = 3 then counterClearWrite v s
  else if sub = 6 then logClearWrite v s
  else timerOwnerWrite path data s

/-- R469, Table 19-6: the tamper configuration; in DEPLOYED a write that clears an enable bit is refused. -/
def tamperConfigWrite (v : Nat) (s : State) : Nat × State :=
  if s.sec.life = 2 ∧ clearBits (s.backup.tamperConfig % 32 &&& 0x15) v ≠ 0 then (abortState, s)
  else (0, { s with backup := { s.backup with tamperConfig := v % 32 } })

/-- Security. -/
def writeSecurity (sub v : Nat) (data : List Byte) (s : State) : Nat × State :=
  if sub = 2 then lcWrite data s
  else if sub = 0x10 then attestWrite data s
  else if sub = 0x20 then tamperConfigWrite v s
  else if sub = 0x30 then linkKeyWrite data s
  else rekeyWrite v (Config.entropyHealthy s.freeCtr) s

/-- Configuration storage. -/
def writeConfig (sub v : Nat) (s : State) : Nat × State :=
  if sub = 7 then invalidateWrite v s else if sub = 0xA then scrubRequestWrite v s else storeObject 0x2800 sub v s

/-- Hold memory. -/
def writeHold (sub v : Nat) (data : List Byte) (s : State) : Nat × State :=
  if sub = 1 then fillWrite v s else if sub = 2 then queueResetWrite v s else if sub = 3 then marchWrite v s
  else ringOwnerWrite data s

/-- The link table: the device fences the windows of every worker that it names and that is not LIVE or DEGRADED (R238, R264). -/
def linkTableWrite (v : Nat) (s : State) : Nat × State :=
  let r := storeObject 0x3600 3 v s
  if r.1 ≠ 0 ∨ s.manager = false then r
  else (0, (List.range 32).foldl (fun t w =>
    if t.groupsOfWorker w = [] ∨ t.workerServes w = true then t else deviceFenceOn (69 + w) t) r.2)

/-- Lanes and Merig; which workers answer a chain load request is drawn. -/
def writeLanes (idx sub v : Nat) (data : List Byte) (s : State) : Nat × State :=
  if idx = 0x3600 then
    if sub = 1 then (if valueOk idx sub v then (0, latencyWrite v s) else (abortRange, s))
    else if sub = 3 then linkTableWrite v s
    else if sub = 0x11 then chainLoadWrite data (Config.random s.freeCtr % 2 ^ 32) s.draw
    else storeObject idx sub v s
  else if sub = 0xA then trainingWrite (idx - 0x3500) v s
  else if sub = 0x17 then eyeScanWrite (idx - 0x3500) data s
  else storeObject idx sub v s

/-- A value that names no request: refused for the state where that refuses a request `w` too, which stands first in Table 13-2, else for its
range (R337). -/
def badRequest (w : Nat × State) (s : State) : Nat × State := (if w.1 = abortState then abortState else abortRange, s)

/-- NoC and archive. -/
def writeArchive (idx sub v : Nat) (data : List Byte) (s : State) : Nat × State :=
  if idx = 0x3700 then
    if sub = 0x10 then fenceWrite v s
    else if 0x20 ≤ sub then moveAccept (sub - 0x20) (BitVec.ofNat 512 v) s
    else storeObject idx sub v s
  else if idx = 0x3800 then
    if sub = 1 then dataRateWrite v s
    else if sub = 0x12 then archiveReleaseWrite data s
    else if sub = 0x13 then (0, updateFrozen (s.setObj idx sub v))
    else storeObject idx sub v s
  else
    let c := idx - 0x3810
    if sub = 0xB then (if v = 1 then periodicWrite c s else if v = 2 then fullTrainWrite c s else badRequest (fullTrainWrite c s) s)
    else if sub = 0xC then (if v = 1 then rfmWrite c s else badRequest (rfmWrite c s) s)
    else (if v = 1 then sweepWrite c s else if v = 2 then initialiseWrite c s else badRequest (initialiseWrite c s) s)

/-- Workers seen from a manager; relay data is no object of the manager's own. -/
def writeWorker (w sub v : Nat) (s : State) : Nat × State :=
  if sub = 7 then remoteResetWrite w v s
  else (0, s.setWorker w { s.worker w with target := v / 256 * 256 })

/-- A write of an object that is neither staged nor cleared by ones. -/
def writeNow (path idx sub v : Nat) (data : List Byte) (s : State) : Nat × State :=
  if idx < 0x2000 then writeCommunication path idx sub v s
  else if idx = 0x2200 then writeResets path sub v data s
  else if idx = 0x2300 then storeObject idx sub v s
  else if idx < 0x2600 then writeClocksPins path idx sub v data s
  else if idx = 0x2600 then writeSecurity sub v data s
  else if idx = 0x2800 then writeConfig sub v s
  else if idx = 0x3200 then writeHold sub v data s
  else if idx < 0x3700 then writeLanes idx sub v data s
  else if idx < 0x3900 then writeArchive idx sub v data s
  else if idx < 0x3904 then (if sub = 1 then keeperCommandWrite (idx - 0x3900) v s else storeObject idx sub v s)
  else if idx < 0x4100 then (0, mailboxWrite (idx - 0x4000) v s)
  else writeWorker (idx - 0x5000) sub v s

/-! Every write. -/

/-- The object is staged. -/
def isStaged (idx sub : Nat) : Bool :=
  match objRow idx sub with
  | some r => decide (r.acc = .rws)
  | none => false

/-- The object is a worker's relay data, which its transfer answers. -/
def isRelayData (idx sub : Nat) : Bool := decide (0x5000 ≤ idx) && decide (idx < 0x5020) && decide (sub = 0x11)

/-- A write of an object that exists and may be written in this device state. -/
def writeRow (r : ObjRow) (path idx sub : Nat) (data : List Byte) (s : State) : Nat × State :=
  let v := ofBytes data
  match r.acc with
  | .rws =>
    if idx = 0x2500 then timerConfigWrite path (sub - 0x10) (toBytes 8 (dropReserved idx sub v)) s
    else stageWrite path idx sub r.len v s
  | .w1c => (0, clearWrite idx sub v s)
  | _ => writeNow path idx sub v data s

/-- A length that is not the object's own is refused, but for a state that refuses first (Table 13-2). -/
def checkLength (r : ObjRow) (data : List Byte) (s : State) (w : Nat × State) : Nat × State :=
  if r.len ≠ 0 ∧ data.length ≠ r.len ∧ w.1 ≠ abortState then (abortLength, s) else w

/-- A write submitted on a path: its abort code, or 0, and the state after it (R337, Table 13-2). -/
def submitWrite (path idx sub : Nat) (data : List Byte) (s : State) : Nat × State :=
  let c := s.objectCode idx sub
  if c ≠ 0 then (c, s)
  else match objRow idx sub with
    | none => (abortNoSub, s)
    | some r =>
      if r.acc = .ro then (abortReadOnly, s)
      else if r.cls = .service ∧ s.dev ≠ .service then (abortState, s)
      else checkLength r data s (writeRow r path idx sub data s)

/-- Sequence number that the answer of a write carries. -/
def writeSeq (idx sub : Nat) (r : Nat × State) : Nat := if r.1 = 0 ∧ isStaged idx sub = true then r.2.stg.lastSeq else 0

/-- A write on a path, answered: relay data by the end of its transfer, any other at once. -/
def writeOnPath (p : Path) (idx sub : Nat) (data : List Byte) (s : State) : State :=
  if !s.served then s
  else if isRelayData idx sub then
    match relayStart p (idx - 0x5000) (some data) s with
    | (some c, t) => answered p idx sub (c, t)
    | (none, t) => t
  else
    let r := submitWrite p.code idx sub data (if idx = 0x1F82 then freshTx s else s)
    reply p.code idx sub r.1 (writeSeq idx sub r) [] r.2

end Sys2Proof.Machine
end

