-- ==== Sys2Proof/Machine/Dictionary.lean ====
section
/-! DEFINITION. The dictionary's commands: writes of objects, the Survey port's DICT and PROBE_SEL instructions, the window of the
NoC, the relay path of a worker, and the end of an engine operation (R7 to R10, R44, R45, R93, R333 to R337, R355 to R358,
R364). -/

namespace Sys2Proof.Machine

/-! Writes. -/

/-- STAGED_WRITE: a write of a Boundary-class object is validated, numbered, recorded and placed in a shadow, or refused with
event 21 (R44 to R46, R51). -/
def execStagedWrite (path : Path) (index : BitVec 16) (sub : BitVec 8) (data : List Byte) (s : State) :
    Host.Outcome State Fault Refusal :=
  done (writeOnPath path index.toNat sub.toNat data s)

/-- OBJECT_WRITE: a write of an object takes effect by its access code and apply class (R7 to R10). -/
def execObjectWrite (path : Path) (index : BitVec 16) (sub : BitVec 8) (data : List Byte) (s : State) :
    Host.Outcome State Fault Refusal :=
  done (writeOnPath path index.toNat sub.toNat data s)

/-- KEEPER_MAILBOX_WRITE: the value shows from the next beat (R93). -/
def execKeeperMailboxWrite (path : Path) (st : Fin 256) (value : BitVec 16) (s : State) : Host.Outcome State Fault Refusal :=
  done (onPath path (0x4000 + st.val) 0x11 s (0, mailboxWrite st.val value.toNat s))

/-! The Survey port (R355, R356, R364). -/

/-- The two parts of a PROBE_SEL write: the channel's override enable bit, and its override selection. -/
def probeParts (word : Nat) : List StagePart :=
  let c := bitsAt word 32 5
  let sel := word % 2 ^ 28
  [⟨okey 0x3000 1, 2 ^ c, bitsAt word 37 1 * 2 ^ c, 2 ^ c⟩,
   ⟨okey 0x3000 2, lowMask 32 * 2 ^ (32 * c), sel * 2 ^ (32 * c), lowMask 32 * 2 ^ (32 * c)⟩]

/-- A PROBE_SEL write: staged whole as one write of two fields, or refused with event 21 (R48, R364). -/
def probeWrite (word : Nat) (s : State) : Nat × State :=
  let parts := probeParts word
  if s.stagedOk (s.atBoundary parts) 0x3000 2 then (0, acceptStaged 0 parts s) else (abortRange, raise 21 s)

/-- The Survey port runs, and it is this device's own (R363). -/
def State.surveyOpen (s : State) : Bool := s.tapRuns && decide (s.cfg.splice = none)

/-- PROBE_SEL: Capture-DR shows the selection in force of the channel of the last update, and Update-DR stages the write (R84, R364). -/
def execProbeSel (word : BitVec 40) (s : State) : Host.Outcome State Fault Refusal :=
  if s.surveyOpen then
    let s1 := selectTap 0x15 (s.probeSelection s.cfg.probeChannel) s
    let s2 := { s1 with cfg := { s1.cfg with probeChannel := bitsAt word.toNat 32 5 } }
    if s2.served then
      let r := probeWrite word.toNat s2
      done (reply 0 0x3000 1 r.1 (if r.1 = 0 then r.2.stg.lastSeq else 0) [] r.2)
    else done s2
  else done s

/-- The DICT instruction: Capture-DR loads the last response, Update-DR makes a request while the dictionary serves. -/
def onDict (f : State → State) (s : State) : State :=
  if s.surveyOpen then
    let s1 := selectTap 0x13 s.surveyWord s
    if s1.served then f s1 else s1
  else s

/-- The DICT register at Update-DR (Table 13-10). -/
structure DictWord where
  index : Nat
  sub : Nat
  /-- 0 read, 1 write segment, 2 write final, 3 poll. -/
  op : Nat
  offset : Nat
  /-- The LEN + 1 bytes of a write, the first from bits [7:0]. -/
  data : List Byte
  deriving DecidableEq, Repr

/-- The fields of the DICT register (Table 13-10). -/
def dictWord (w : BitVec 128) : DictWord :=
  let n := w.toNat
  { index := bitsAt n 112 16, sub := bitsAt n 104 8, op := bitsAt n 102 2, offset := bitsAt n 64 32,
    data := (toBytes 8 n).take (bitsAt n 99 3 + 1) }

/-- Update-DR of DICT: OP 3 polls, so that only Capture-DR's response counts; any other word is a request (R355). -/
def dictUpdate (w : BitVec 128) (f : DictWord → State → State) (s : State) : State :=
  let d := dictWord w
  onDict (fun t => if d.op = 3 then t else surveyRequest d.index d.sub (f d) t) s

/-- DICT_READ: the word's OP is 0, or 3 to poll (R355, R356). -/
def execDictRead (word : BitVec 128) (s : State) : Host.Outcome State Fault Refusal :=
  done (dictUpdate word (fun d => readRequest 0 d.index d.sub d.offset 8) s)

/-- DICT_WRITE_SEGMENT: the word's OP is 1, or 3 to poll (R355, R356). -/
def execDictWriteSegment (word : BitVec 128) (s : State) : Host.Outcome State Fault Refusal :=
  done (dictUpdate word (fun d => segmentRequest 0 d.index d.sub d.offset d.data) s)

/-- DICT_WRITE_FINAL: the word's OP is 2, or 3 to poll (R355, R356). -/
def execDictWriteFinal (word : BitVec 128) (s : State) : Host.Outcome State Fault Refusal :=
  done (dictUpdate word (fun d => finalRequest 0 d.index d.sub d.offset d.data) s)

/-! The window (R357). -/

/-- A request line by its fields (Table 13-12). -/
def requestLine (op idx sub off len : Nat) (data : List Byte) : Line :=
  BitVec.ofNat 512 (idx % 65536 + sub % 256 * 2 ^ 16 + op % 4 * 2 ^ 24 + off % 2 ^ 32 * 2 ^ 32 + len % 256 * 2 ^ 64 +
    ofBytes (data.take 48) * 2 ^ 128)

/-- A write of slot `k`'s request line reaches the base die; over an asynchronous SVC_NOC crossing it comes to the engine later (R395). -/
def windowArrives (req : ReqId) (k op idx sub off len : Nat) (data : List Byte) (s : State) : State :=
  let a := 0x070000000000 + 0x100 * k
  if !s.l0Runs then s
  else if s.beatsRun && decide (s.entryDelay a ≠ 0) then
    enterTarget { req := some req, flit := lineFlit a (some (requestLine op idx sub off len data)) false } s
  else windowWrite req k op idx sub off len data (openTxn req a true s)

/-- WINDOW_READ (R357). -/
def execWindowRead (req : ReqId) (slot : Fin 4) (index : BitVec 16) (sub : BitVec 8) (offset : BitVec 32) (len : BitVec 8)
    (s : State) : Host.Outcome State Fault Refusal :=
  done (windowArrives req slot.val 0 index.toNat sub.toNat offset.toNat len.toNat [] s)

/-- WINDOW_WRITE_SEGMENT (R357). -/
def execWindowWriteSegment (req : ReqId) (slot : Fin 4) (index : BitVec 16) (sub : BitVec 8) (offset : BitVec 32)
    (len : BitVec 8) (data : List Byte) (s : State) : Host.Outcome State Fault Refusal :=
  done (windowArrives req slot.val 1 index.toNat sub.toNat offset.toNat len.toNat data s)

/-- WINDOW_WRITE_FINAL (R357). -/
def execWindowWriteFinal (req : ReqId) (slot : Fin 4) (index : BitVec 16) (sub : BitVec 8) (offset : BitVec 32)
    (len : BitVec 8) (data : List Byte) (s : State) : Host.Outcome State Fault Refusal :=
  done (windowArrives req slot.val 2 index.toNat sub.toNat offset.toNat len.toNat data s)

/-! The relay path (R358). -/

/-- A transfer that is open on a worker's relay path is aborted with 0x0504_0001, and event 1155 + 4w (R248, R358). -/
def abortRelaySession (s : State) : State :=
  if s.clientBusy 2 then
    raise (1155 + 4 * (s.mer.wnum % 32))
      (dropJobs 2 { s with mer := { s.mer with relayOut := s.mer.relayOut ++ [relayAbortWord (s.session 2).pos abortCommand] } })
  else s

/-- RELAY_REQUEST_RECEIVED: a worker's engine takes a transfer as a session of the relay path; an open one is aborted (R358). -/
def execRelayRequestReceived (txn : Fin 16) (index : BitVec 16) (sub : BitVec 8) (write : Option (List Byte)) (s : State) :
    Host.Outcome State Fault Refusal :=
  if s.manager = false ∧ s.served = true then
    let kind := match write with
      | some d => JobKind.write d
      | none => JobKind.readRest
    done (enqueue 2 index.toNat sub.toNat kind ((abortRelaySession s).setSession 2 { pos := txn.val }))
  else done s

/-! The engine (R335 to R337). -/

/-- A client's path, for the relay. -/
def clientOrigin (c : Nat) : Path :=
  match clientPath c with
  | 0 => .survey
  | 1 => .can
  | 2 => .relay
  | _ => .keeper

/-- The request waits for the end of a relay transfer. -/
def waitRelay (j : Job) (s : State) : State :=
  { s with eng := { s.eng with jobs := s.eng.jobs ++ [{ j with started := true, opsLeft := 0 }] } }

/-- An access to relay data: refused at once, or it waits. -/
def relayJob (j : Job) (write : Option (List Byte)) (s : State) : State :=
  match relayStart (clientOrigin j.client) (j.index - 0x5000) write s with
  | (some c, t) => finishCode j c 0 0 t
  | (none, t) => if 16 ≤ j.client then t else waitRelay j t

/-- The end of a write, answered unless it ended its own session. -/
def finishWrite (j : Job) (data : List Byte) (s : State) : State :=
  let r := submitWrite (clientPath j.client) j.index j.sub data s
  if r.2.served then finishCode j r.1 (writeSeq j.index j.sub r) data.length r.2 else r.2

/-- The end of a read. -/
def finishAnyRead (j : Job) (s : State) : State :=
  let r := readOp j.index j.sub s
  if r.1 = 0 then finishCopy j r.2.1 r.2.2 else finishCode j r.1 0 0 r.2.2

/-- The last operation of a request is done. -/
def finishJob (j : Job) (s : State) : State :=
  match j.kind with
  | .write d => if isRelayData j.index j.sub && s.manager then relayJob j (some d) s else finishWrite j d s
  | _ => if isRelayData j.index j.sub && s.manager then relayJob j none s else finishAnyRead j s

/-- DICT_OPERATION_DONE: the engine completes one operation; the last one of a request answers its path; the next is granted
(R335). -/
def execDictOperationDone (s : State) : Host.Outcome State Fault Refusal :=
  match s.eng.current with
  | none => done s
  | some j =>
    let idle := { s with eng := { s.eng with current := none } }
    if s.served = false then done s
    else if 1 < j.opsLeft then
      done (grantNext { idle with eng := { idle.eng with jobs := { j with opsLeft := j.opsLeft - 1 } :: idle.eng.jobs } })
    else done (takeFrames fifoDepth (grantNext (finishJob j (freshTx idle))))

/-! The end of a relay transfer, which may end a request of the CAN path (R243, R348). -/

/-- RELAY_RESPONSE: the worker's response completes the transfer: its abort code, or the bytes read (R243). -/
def execRelayResponse (w : Fin 32) (code : BitVec 32) (data : List Byte) (s : State) : Host.Outcome State Fault Refusal :=
  if (s.worker w.val).relayOpen.isSome then
    done (takeFrames fifoDepth (relayResponse w.val code.toNat data (freshTx s)))
  else done s

/-- RELAY_TIMEOUT: 10 ms without a response (R243). -/
def execRelayTimeout (w : Fin 32) (s : State) : Host.Outcome State Fault Refusal :=
  if (s.worker w.val).relayOpen.isSome then
    done (takeFrames fifoDepth (relayAbortWith w.val abortTimeout (freshTx s)))
  else done s

end Sys2Proof.Machine
end

