-- ==== Sys2Proof/Machine/Dispatch.lean ====
section
/-! DEFINITION. The dispatch: one arm per command, each one direct call of its meaning. -/

namespace Sys2Proof.Machine

def exec (i : Instr) (s : State) : Host.Outcome State Fault Refusal :=
  match i with
  | .datumBeat ecc => Sys2Proof.Machine.execDatumBeat ecc s
  | .releaseWriteEnables => Sys2Proof.Machine.execReleaseWriteEnables s
  | .releaseStationReset => Sys2Proof.Machine.execReleaseStationReset s
  | .datumMarker => Sys2Proof.Machine.execDatumMarker s
  | .stagedWrite path index sub data => Sys2Proof.Machine.execStagedWrite path index sub data s
  | .objectWrite path index sub data => Sys2Proof.Machine.execObjectWrite path index sub data s
  | .keeperMailboxWrite path cs value => Sys2Proof.Machine.execKeeperMailboxWrite path cs value s
  | .probeSel word => Sys2Proof.Machine.execProbeSel word s
  | .probeLogDrop => Sys2Proof.Machine.execProbeLogDrop s
  | .patternLineRead req addr size => Sys2Proof.Machine.execPatternLineRead req addr size s
  | .patternLineWrite req addr data => Sys2Proof.Machine.execPatternLineWrite req addr data s
  | .patternParityCheck cs flips => Sys2Proof.Machine.execPatternParityCheck cs flips s
  | .patternBankClearDone cs => Sys2Proof.Machine.execPatternBankClearDone cs s
  | .patternLayerOn => Sys2Proof.Machine.execPatternLayerOn s
  | .holdNocReadRow req addr size ecc => Sys2Proof.Machine.execHoldNocReadRow req addr size ecc s
  | .holdNocWriteRow req addr data sched => Sys2Proof.Machine.execHoldNocWriteRow req addr data sched s
  | .holdNocWriteWord req addr data be => Sys2Proof.Machine.execHoldNocWriteWord req addr data be s
  | .holdStarved u => Sys2Proof.Machine.execHoldStarved u s
  | .holdPushWaitExpired u => Sys2Proof.Machine.execHoldPushWaitExpired u s
  | .fillRequest path word => Sys2Proof.Machine.execFillRequest path word s
  | .fillDone u => Sys2Proof.Machine.execFillDone u s
  | .queueResetRequest path unit => Sys2Proof.Machine.execQueueResetRequest path unit s
  | .marchRequest path word => Sys2Proof.Machine.execMarchRequest path word s
  | .marchDone group fails => Sys2Proof.Machine.execMarchDone group fails s
  | .queueGroupResetDone group => Sys2Proof.Machine.execQueueGroupResetDone group s
  | .ringOwnerWrite path data => Sys2Proof.Machine.execRingOwnerWrite path data s
  | .routerFlitIn router port flit slot err target => Sys2Proof.Machine.execRouterFlitIn router port flit slot err target s
  | .nocResponse req outside => Sys2Proof.Machine.execNocResponse req outside s
  | .nocTimeout req => Sys2Proof.Machine.execNocTimeout req s
  | .fenceRequest path word => Sys2Proof.Machine.execFenceRequest path word s
  | .fenceLift path word => Sys2Proof.Machine.execFenceLift path word s
  | .fenceAck n => Sys2Proof.Machine.execFenceAck n s
  | .fenceDrainForced n => Sys2Proof.Machine.execFenceDrainForced n s
  | .moveSubmit engine origin descriptor => Sys2Proof.Machine.execMoveSubmit engine origin descriptor s
  | .moveDone engine met => Sys2Proof.Machine.execMoveDone engine met s
  | .laneFrameReceived lane bits margin => Sys2Proof.Machine.execLaneFrameReceived lane bits margin s
  | .remoteResetCommand multi => Sys2Proof.Machine.execRemoteResetCommand multi s
  | .laneClockOk g => Sys2Proof.Machine.execLaneClockOk g s
  | .laneAdaptDone g steps => Sys2Proof.Machine.execLaneAdaptDone g steps s
  | .laneLockTimeout g => Sys2Proof.Machine.execLaneLockTimeout g s
  | .laneDeskewDone g measured => Sys2Proof.Machine.execLaneDeskewDone g measured s
  | .merigAlignTimeout g => Sys2Proof.Machine.execMerigAlignTimeout g s
  | .laneAutoRetrain g => Sys2Proof.Machine.execLaneAutoRetrain g s
  | .laneShallowTimeout g => Sys2Proof.Machine.execLaneShallowTimeout g s
  | .laneTrainingRequest path g value => Sys2Proof.Machine.execLaneTrainingRequest path g value s
  | .eyeScanRequest path g data => Sys2Proof.Machine.execEyeScanRequest path g data s
  | .eyeScanPointDone g counts => Sys2Proof.Machine.execEyeScanPointDone g counts s
  | .eyeScanRecordWriteDone g status => Sys2Proof.Machine.execEyeScanRecordWriteDone g status s
  | .laneLoopLocked loop => Sys2Proof.Machine.execLaneLoopLocked loop s
  | .laneLoopUnlock loop => Sys2Proof.Machine.execLaneLoopUnlock loop s
  | .carriageFlitReceived g err => Sys2Proof.Machine.execCarriageFlitReceived g err s
  | .carriageResendTimeout g => Sys2Proof.Machine.execCarriageResendTimeout g s
  | .remoteResetOrder path w value => Sys2Proof.Machine.execRemoteResetOrder path w value s
  | .relayTransfer path w write => Sys2Proof.Machine.execRelayTransfer path w write s
  | .relayResponse w code data => Sys2Proof.Machine.execRelayResponse w code data s
  | .relayTimeout w => Sys2Proof.Machine.execRelayTimeout w s
  | .relayRequestReceived txn index sub write => Sys2Proof.Machine.execRelayRequestReceived txn index sub write s
  | .chainLoadRequest path data answering => Sys2Proof.Machine.execChainLoadRequest path data answering s
  | .chainLoadDone results => Sys2Proof.Machine.execChainLoadDone results s
  | .dramRead req addr errA errB => Sys2Proof.Machine.execDramRead req addr errA errB s
  | .dramWriteLine req addr data bad => Sys2Proof.Machine.execDramWriteLine req addr data bad s
  | .dramWriteWord req addr data be err bad => Sys2Proof.Machine.execDramWriteWord req addr data be err bad s
  | .dataRateWrite path code => Sys2Proof.Machine.execDataRateWrite path code s
  | .retrainPeriodicRequest path c => Sys2Proof.Machine.execRetrainPeriodicRequest path c s
  | .retrainFullRequest path c => Sys2Proof.Machine.execRetrainFullRequest path c s
  | .dramPeriodicRetrainDue c => Sys2Proof.Machine.execDramPeriodicRetrainDue c s
  | .dramTrainingDone c success => Sys2Proof.Machine.execDramTrainingDone c success s
  | .dramRefreshDue c bank => Sys2Proof.Machine.execDramRefreshDue c bank s
  | .dramSelfRefreshEntry c => Sys2Proof.Machine.execDramSelfRefreshEntry c s
  | .dramSelfRefreshExit c => Sys2Proof.Machine.execDramSelfRefreshExit c s
  | .dramParityAlert c replaysAlerting => Sys2Proof.Machine.execDramParityAlert c replaysAlerting s
  | .rfmSweepRequest path c => Sys2Proof.Machine.execRfmSweepRequest path c s
  | .rfmSweepDone c => Sys2Proof.Machine.execRfmSweepDone c s
  | .rescrambleSweepRequest path c => Sys2Proof.Machine.execRescrambleSweepRequest path c s
  | .dramInitialiseRequest path c => Sys2Proof.Machine.execDramInitialiseRequest path c s
  | .sweepDone c errs => Sys2Proof.Machine.execSweepDone c errs s
  | .dramRekeyRequest path c healthy => Sys2Proof.Machine.execDramRekeyRequest path c healthy s
  | .archiveFlitCommit c => Sys2Proof.Machine.execArchiveFlitCommit c s
  | .archiveRelease path data => Sys2Proof.Machine.execArchiveRelease path data s
  | .add ci kd ka kb => Sys2Proof.Machine.execAdd ci kd ka kb s
  | .sub ci kd ka kb => Sys2Proof.Machine.execSub ci kd ka kb s
  | .and ci kd ka kb => Sys2Proof.Machine.execAnd ci kd ka kb s
  | .or ci kd ka kb => Sys2Proof.Machine.execOr ci kd ka kb s
  | .xor ci kd ka kb => Sys2Proof.Machine.execXor ci kd ka kb s
  | .sll ci kd ka kb => Sys2Proof.Machine.execSll ci kd ka kb s
  | .srl ci kd ka kb => Sys2Proof.Machine.execSrl ci kd ka kb s
  | .sra ci kd ka kb => Sys2Proof.Machine.execSra ci kd ka kb s
  | .slt ci kd ka kb => Sys2Proof.Machine.execSlt ci kd ka kb s
  | .sltu ci kd ka kb => Sys2Proof.Machine.execSltu ci kd ka kb s
  | .mul ci kd ka kb => Sys2Proof.Machine.execMul ci kd ka kb s
  | .mulhu ci kd ka kb => Sys2Proof.Machine.execMulhu ci kd ka kb s
  | .nld ci kd ka kb => Sys2Proof.Machine.execNld ci kd ka kb s
  | .nst ci kd ka kb ecc => Sys2Proof.Machine.execNst ci kd ka kb ecc s
  | .nstw ci kd ka kb => Sys2Proof.Machine.execNstw ci kd ka kb s
  | .watch ci kd => Sys2Proof.Machine.execWatch ci kd s
  | .srd ci kd sel => Sys2Proof.Machine.execSrd ci kd sel s
  | .round ci => Sys2Proof.Machine.execRound ci s
  | .halt ci => Sys2Proof.Machine.execHalt ci s
  | .addi ci kd ka imm => Sys2Proof.Machine.execAddi ci kd ka imm s
  | .andi ci kd ka imm => Sys2Proof.Machine.execAndi ci kd ka imm s
  | .ori ci kd ka imm => Sys2Proof.Machine.execOri ci kd ka imm s
  | .xori ci kd ka imm => Sys2Proof.Machine.execXori ci kd ka imm s
  | .slli ci kd ka imm => Sys2Proof.Machine.execSlli ci kd ka imm s
  | .srli ci kd ka imm => Sys2Proof.Machine.execSrli ci kd ka imm s
  | .srai ci kd ka imm => Sys2Proof.Machine.execSrai ci kd ka imm s
  | .slti ci kd ka imm => Sys2Proof.Machine.execSlti ci kd ka imm s
  | .sltiu ci kd ka imm => Sys2Proof.Machine.execSltiu ci kd ka imm s
  | .ld ci kd ka imm ecc => Sys2Proof.Machine.execLd ci kd ka imm ecc s
  | .ldw ci kd ka imm ecc => Sys2Proof.Machine.execLdw ci kd ka imm ecc s
  | .st ci kd ka imm => Sys2Proof.Machine.execSt ci kd ka imm s
  | .stw ci kd ka imm ecc => Sys2Proof.Machine.execStw ci kd ka imm ecc s
  | .pld ci kd ka imm ecc => Sys2Proof.Machine.execPld ci kd ka imm ecc s
  | .pst ci kd ka imm => Sys2Proof.Machine.execPst ci kd ka imm s
  | .pxchg ci kd ka imm ecc => Sys2Proof.Machine.execPxchg ci kd ka imm ecc s
  | .beq ci kd ka imm => Sys2Proof.Machine.execBeq ci kd ka imm s
  | .bne ci kd ka imm => Sys2Proof.Machine.execBne ci kd ka imm s
  | .blt ci kd ka imm => Sys2Proof.Machine.execBlt ci kd ka imm s
  | .bge ci kd ka imm => Sys2Proof.Machine.execBge ci kd ka imm s
  | .bltu ci kd ka imm => Sys2Proof.Machine.execBltu ci kd ka imm s
  | .bgeu ci kd ka imm => Sys2Proof.Machine.execBgeu ci kd ka imm s
  | .nwait ci kd ka imm => Sys2Proof.Machine.execNwait ci kd ka imm s
  | .nwaitTimeout core => Sys2Proof.Machine.execNwaitTimeout core s
  | .wbeat ci kd ka imm => Sys2Proof.Machine.execWbeat ci kd ka imm s
  | .wbeatReturn core => Sys2Proof.Machine.execWbeatReturn core s
  | .evpost ci ka n => Sys2Proof.Machine.execEvpost ci ka n s
  | .emcy ci kd ka n => Sys2Proof.Machine.execEmcy ci kd ka n s
  | .jalr ci kd ka imm => Sys2Proof.Machine.execJalr ci kd ka imm s
  | .lui ci kd imm => Sys2Proof.Machine.execLui ci kd imm s
  | .j ci off => Sys2Proof.Machine.execJ ci off s
  | .jal ci off => Sys2Proof.Machine.execJal ci off s
  | .keeperRun path core => Sys2Proof.Machine.execKeeperRun path core s
  | .keeperStop path core => Sys2Proof.Machine.execKeeperStop path core s
  | .keeperCodeStoreWrite req addr data be => Sys2Proof.Machine.execKeeperCodeStoreWrite req addr data be s
  | .nmtStart newMs => Sys2Proof.Machine.execNmtStart newMs s
  | .nmtStop newMs => Sys2Proof.Machine.execNmtStop newMs s
  | .nmtEnterPreOperational newMs => Sys2Proof.Machine.execNmtEnterPreOperational newMs s
  | .nmtResetNode newMs multi => Sys2Proof.Machine.execNmtResetNode newMs multi s
  | .nmtResetCommunication newMs => Sys2Proof.Machine.execNmtResetCommunication newMs s
  | .usdoDownloadInitiate newMs index sub size expedited => Sys2Proof.Machine.execUsdoDownloadInitiate newMs index sub size expedited s
  | .usdoDownloadSegment newMs toggle data last => Sys2Proof.Machine.execUsdoDownloadSegment newMs toggle data last s
  | .usdoUploadInitiate newMs index sub => Sys2Proof.Machine.execUsdoUploadInitiate newMs index sub s
  | .usdoUploadSegment newMs toggle => Sys2Proof.Machine.execUsdoUploadSegment newMs toggle s
  | .usdoSessionTimeout => Sys2Proof.Machine.execUsdoSessionTimeout s
  | .heartbeatSend => Sys2Proof.Machine.execHeartbeatSend s
  | .heartbeatReceived newMs node state => Sys2Proof.Machine.execHeartbeatReceived newMs node state s
  | .heartbeatTimeout entry => Sys2Proof.Machine.execHeartbeatTimeout entry s
  | .heartbeatTimeWrite path value => Sys2Proof.Machine.execHeartbeatTimeWrite path value s
  | .consumerHeartbeatWrite path entry value => Sys2Proof.Machine.execConsumerHeartbeatWrite path entry value s
  | .errorFieldClear path value => Sys2Proof.Machine.execErrorFieldClear path value s
  | .emcySend => Sys2Proof.Machine.execEmcySend s
  | .canBusOffRecovery => Sys2Proof.Machine.execCanBusOffRecovery s
  | .canRxOverrun dropped newMillisecond => Sys2Proof.Machine.execCanRxOverrun dropped newMillisecond s
  | .dictOperationDone => Sys2Proof.Machine.execDictOperationDone s
  | .dictRead word => Sys2Proof.Machine.execDictRead word s
  | .dictWriteSegment word => Sys2Proof.Machine.execDictWriteSegment word s
  | .dictWriteFinal word => Sys2Proof.Machine.execDictWriteFinal word s
  | .windowRead req slot index sub offset len => Sys2Proof.Machine.execWindowRead req slot index sub offset len s
  | .windowWriteSegment req slot index sub offset len data => Sys2Proof.Machine.execWindowWriteSegment req slot index sub offset len data s
  | .windowWriteFinal req slot index sub offset len data => Sys2Proof.Machine.execWindowWriteFinal req slot index sub offset len data s
  | .extest => Sys2Proof.Machine.execExtest s
  | .idcode => Sys2Proof.Machine.execIdcode s
  | .samplePreload => Sys2Proof.Machine.execSamplePreload s
  | .clamp => Sys2Proof.Machine.execClamp s
  | .highz => Sys2Proof.Machine.execHighz s
  | .bypass => Sys2Proof.Machine.execBypass s
  | .testLogicReset => Sys2Proof.Machine.execTestLogicReset s
  | .cfgLoad bits => Sys2Proof.Machine.execCfgLoad bits s
  | .cfgWide bytes => Sys2Proof.Machine.execCfgWide bytes s
  | .cfgStatus => Sys2Proof.Machine.execCfgStatus s
  | .chainSel word => Sys2Proof.Machine.execChainSel word s
  | .imageHeader wide header => Sys2Proof.Machine.execImageHeader wide header s
  | .imageFrame wide address payload => Sys2Proof.Machine.execImageFrame wide address payload s
  | .slotClearDone => Sys2Proof.Machine.execSlotClearDone s
  | .imageTrailer wide crc block => Sys2Proof.Machine.execImageTrailer wide crc block s
  | .imageCheckDone => Sys2Proof.Machine.execImageCheckDone s
  | .scrubFrameRead scrubber peerCorrected peerFatal flips found multi => Sys2Proof.Machine.execScrubFrameRead scrubber peerCorrected peerFatal flips found multi s
  | .scrubRequest path slot => Sys2Proof.Machine.execScrubRequest path slot s
  | .regionInvalidate path word => Sys2Proof.Machine.execRegionInvalidate path word s
  | .xoWindowEnd count => Sys2Proof.Machine.execXoWindowEnd count s
  | .refWindowEnd count => Sys2Proof.Machine.execRefWindowEnd count s
  | .missingEdge => Sys2Proof.Machine.execMissingEdge s
  | .lanternLock => Sys2Proof.Machine.execLanternLock s
  | .lanternLockTimeout => Sys2Proof.Machine.execLanternLockTimeout s
  | .daymarkLock => Sys2Proof.Machine.execDaymarkLock s
  | .multiplierWrite path value => Sys2Proof.Machine.execMultiplierWrite path value s
  | .referenceFrequencyWrite path value => Sys2Proof.Machine.execReferenceFrequencyWrite path value s
  | .regulatorFault regulator multi role => Sys2Proof.Machine.execRegulatorFault regulator multi role s
  | .sectorRampDone k => Sys2Proof.Machine.execSectorRampDone k s
  | .upperLayersReady => Sys2Proof.Machine.execUpperLayersReady s
  | .sensorSample n reading pL2 => Sys2Proof.Machine.execSensorSample n reading pL2 s
  | .sensorSelfCheck failing => Sys2Proof.Machine.execSensorSelfCheck failing s
  | .thermalShutdownExit multi role => Sys2Proof.Machine.execThermalShutdownExit multi role s
  | .pmbusPoll entry answer mirror fails => Sys2Proof.Machine.execPmbusPoll entry answer mirror fails s
  | .pmbusAlert address level => Sys2Proof.Machine.execPmbusAlert address level s
  | .powerGoodSample entry ball => Sys2Proof.Machine.execPowerGoodSample entry ball s
  | .powerOnRelease resetLow multi roleHigh backupLost options => Sys2Proof.Machine.execPowerOnRelease resetLow multi roleHigh backupLost options s
  | .resetPin low multi role => Sys2Proof.Machine.execResetPin low multi role s
  | .wresetPin multi => Sys2Proof.Machine.execWresetPin multi s
  | .resetRequestWarm path => Sys2Proof.Machine.execResetRequestWarm path s
  | .resetRequestCold path => Sys2Proof.Machine.execResetRequestCold path s
  | .dictResetTakesEffect multi role => Sys2Proof.Machine.execDictResetTakesEffect multi role s
  | .railOutOfWindow multi => Sys2Proof.Machine.execRailOutOfWindow multi s
  | .optionShadowParity multi role => Sys2Proof.Machine.execOptionShadowParity multi role s
  | .clockStateParity multi role => Sys2Proof.Machine.execClockStateParity multi role s
  | .dictEngineStateError multi => Sys2Proof.Machine.execDictEngineStateError multi s
  | .nocTableParity multi => Sys2Proof.Machine.execNocTableParity multi s
  | .enterService => Sys2Proof.Machine.execEnterService s
  | .stationResetWrite path data => Sys2Proof.Machine.execStationResetWrite path data s
  | .laneGroupResetWrite path value => Sys2Proof.Machine.execLaneGroupResetWrite path value s
  | .dramChannelResetWrite path value => Sys2Proof.Machine.execDramChannelResetWrite path value s
  | .keeperResetWrite path value => Sys2Proof.Machine.execKeeperResetWrite path value s
  | .patternBankResetWrite path data => Sys2Proof.Machine.execPatternBankResetWrite path data s
  | .queueGroupResetWrite path data => Sys2Proof.Machine.execQueueGroupResetWrite path data s
  | .dictEngineReset path value => Sys2Proof.Machine.execDictEngineReset path value s
  | .blockResetDone block => Sys2Proof.Machine.execBlockResetDone block s
  | .optionWrite path data verifyB => Sys2Proof.Machine.execOptionWrite path data verifyB s
  | .gpioOutputWrite path data => Sys2Proof.Machine.execGpioOutputWrite path data s
  | .bankRailMeasure bank millivolts => Sys2Proof.Machine.execBankRailMeasure bank millivolts s
  | .consoleTransmit path core data => Sys2Proof.Machine.execConsoleTransmit path core data s
  | .consoleReceive path core => Sys2Proof.Machine.execConsoleReceive path core s
  | .consoleByteReceived core byte => Sys2Proof.Machine.execConsoleByteReceived core byte s
  | .pinWatchMatch w => Sys2Proof.Machine.execPinWatchMatch w s
  | .pinWatchWindowExpired w => Sys2Proof.Machine.execPinWatchWindowExpired w s
  | .beatTimerFire ci => Sys2Proof.Machine.execBeatTimerFire ci s
  | .timerOwnerWrite path data => Sys2Proof.Machine.execTimerOwnerWrite path data s
  | .timerConfigWrite path ci data => Sys2Proof.Machine.execTimerConfigWrite path ci data s
  | .counterClear path word => Sys2Proof.Machine.execCounterClear path word s
  | .logClear path value => Sys2Proof.Machine.execLogClear path value s
  | .lcRequestDeployed path data => Sys2Proof.Machine.execLcRequestDeployed path data s
  | .lcRequestReturned path data => Sys2Proof.Machine.execLcRequestReturned path data s
  | .lcRequestScrapped path data => Sys2Proof.Machine.execLcRequestScrapped path data s
  | .lifeCycleReset multi role => Sys2Proof.Machine.execLifeCycleReset multi role s
  | .attestationRequest path nonce => Sys2Proof.Machine.execAttestationRequest path nonce s
  | .attestationDone => Sys2Proof.Machine.execAttestationDone s
  | .tamperLatch pin => Sys2Proof.Machine.execTamperLatch pin s
  | .glitchDetected voltage => Sys2Proof.Machine.execGlitchDetected voltage s
  | .secureSramWipeDone => Sys2Proof.Machine.execSecureSramWipeDone s
  | .linkKeyLoad path data => Sys2Proof.Machine.execLinkKeyLoad path data s
  | .entropyRetry c healthy => Sys2Proof.Machine.execEntropyRetry c healthy s
  | .fabCycle ecc early pins floating => Sys2Proof.Machine.execFabCycle ecc early pins floating s
  | .beat ecc => Sys2Proof.Machine.execBeat ecc s
  | .streamSlot cs slot ecc => Sys2Proof.Machine.execStreamSlot cs slot ecc s
  | .fenceLiftDone n => Sys2Proof.Machine.execFenceLiftDone n s
  | .canBusError tx rx => Sys2Proof.Machine.execCanBusError tx rx s
  | .canRejoin => Sys2Proof.Machine.execCanRejoin s
  | .memoryLoopLock => Sys2Proof.Machine.execMemoryLoopLock s
  | .illegalInstruction ci => Sys2Proof.Machine.execIllegalInstruction ci s

end Sys2Proof.Machine
end

