-- ==== Sys2Proof/Safety.lean ====
section
/-! DEFINITION. What a safe run is: no step of it stops with a fault or a refusal; and what it means that a command leaves a
state unchanged but for what the event block records. -/

namespace Sys2Proof

/-- The step answers a next state. -/
def Answers (o : Host.Outcome Machine.State Machine.Fault Machine.Refusal) (t : Machine.State) : Prop := o = .next t

/-- The machine goes on for `n` steps from `s`. -/
def GoesOn (n : Nat) (s : Machine.State) : Prop := ∃ t, core.run n s = .next t

/-- A state without what the event block may change when it samples raised events (R483 to R485, R325, R351, R452, R453, R487): its
counters and log, the EMCY queue with its counter and error bit, the two pin latches, the Keepers, and the model's counter of
free values. -/
def calm (s : Machine.State) : Machine.State :=
  { s with
    ev := { desc := s.ev.desc, timerOwner := s.ev.timerOwner }
    can := { s.can with emcyQueue := [], emcyDropped := 0, manufacturerBit := false }
    keep := []
    pins := { s.pins with busyLatch := false, stopLatch := false }
    freeCtr := 0 }

/-- A Keeper without its mailbox and its EMCY queue. -/
def calmKeeper (c : Machine.Keeper) : Machine.Keeper := { c with mailbox := [], mboxDrops := 0, mboxOvf := false, emcy := [] }

/-- `t` is `s` but for what the event block may change. -/
def SameBut (s t : Machine.State) : Prop := calm t = calm s ∧ ∀ k, calmKeeper (t.keeper k) = calmKeeper (s.keeper k)

/-- Nothing waits for the event block, and no Keeper holds an EMCY message. -/
def Quiet (s : Machine.State) : Prop := s.ev.waiting = [] ∧ ∀ k < 4, (s.keeper k).emcy = []

end Sys2Proof
end

