-- ==== Sys2Proof/Certificates/Slice0/Obligations.lean ====
section
/-! DEFINITION. The statements of this model for the provers. -/

open Sys2Proof Sys2Proof.Machine

/-! The block as a whole. -/

/-- A step takes the front command and runs it on the state with the rest of the queue (the row's frame: a queue, first in, first
out). -/
def Obligations.StepRunsFront : Prop :=
  ∀ (c : Instr) (rest : List Instr) (s : State),
    step { s with pending := c :: rest } = exec c { s with pending := rest }

/-- An empty queue leaves the block idle (the model's choice, notes/assumptions/2.md), and no word spells a command. -/
def Obligations.IdleAndNoWords : Prop :=
  (∀ s : State, s.pending = [] → step s = .next s) ∧
  ∀ (s : State) (nbits w : Nat), decodeTableWord nbits w = none ∧ s.withFetchWord nbits w = s

/-- The answer on a path is 0, with an effect. -/
def Acked (p : Path) (idx sub : Nat) (s : State) : State := reply p.code idx sub 0 0 [] s

/-- The answer on a path is an abort code (Table 13-2). -/
def Aborted (p : Path) (idx sub code : Nat) (s : State) : State := reply p.code idx sub code 0 [] s

/-- What the spec states of the machine while power-on reset is held: objects at their Defaults, every sector at no context, memory
and queues empty (R426, Tables 2-9, 13-5, 13-15, 14-8, 15-6 and 17-6). -/
def Obligations.ResetState : Prop :=
  let s := State.reset
  s.rst.phase = .powerOn ∧ s.pending = [] ∧ s.mem = [] ∧ s.time.rot = 0 ∧ s.time.beat = 0 ∧ s.dev = .service ∧
  (∀ k, k < 16 → s.ctxOf k = 8) ∧ s.can.nmt = .initialisation ∧ s.can.nodeId = 127 ∧ s.clk.lantern = .off ∧
  s.cfg.load = .idle ∧ s.ev.log = [] ∧ (∀ e, s.eventCount e = 0) ∧ (∀ g, (s.group g).rx = .deep) ∧
  (∀ k, (s.keeper k).state = .stopped) ∧ s.obj 0x2000 0x10 = 2880 ∧ s.obj 0x2000 0x11 = 16 ∧
  s.obj 0x2100 1 = 80000 ∧ s.obj 0x2100 2 = 96 ∧ s.obj 0x1017 0 = 100

/-- Memory at reset is in its canonical form. -/
def Obligations.ResetMemoryCanonical : Prop := Memory.wf State.reset = true

/-- Every step keeps memory in its canonical form: addresses rise strictly, and no entry equals what an unlisted address reads as. -/
def Obligations.StepKeepsMemoryCanonical : Prop :=
  ∀ s t : State, Memory.wf s = true → step s = .next t → Memory.wf t = true

/-- The grade, the speed bin and the absent banks are reported by the identity objects, and no command changes what the factory
fixed (R1); nor does a command change the queue that it was taken from. -/
def Obligations.CommandsKeepFactoryAndQueue : Prop :=
  (∀ (c : Instr) (s t : State), exec c s = .next t → t.part = s.part ∧ t.pending = s.pending) ∧
  ∀ s : State,
    readOp 0x2000 3 s = (0, [match s.part.grade with | .p => 0 | .h => 1 | .n => 2], s) ∧
    readOp 0x2000 4 s = (0, [BitVec.ofNat 8 s.part.binCode], s) ∧
    ∃ l, readOp 0x2000 5 s = (0, l, s) ∧ l.length = 32 ∧
      ∀ st, st < 256 → (l.getD (st / 8) 0).getLsbD (st % 8) = s.part.absent.getLsbD st

/-- Every command answers a next state on every state: ordinary data ends no run. The spec gives no state of the machine from which a
command stops; that a command which cannot happen in a state is answered there too, and leaves it unchanged, is the model's choice
(notes/assumptions/3.md, DESIGN CHOICE). -/
def Obligations.EveryCommandAnswers : Prop := ∀ (c : Instr) (s : State), ∃ t, exec c s = .next t

/-- Sampling raised events changes nothing but the event block's counters and log, the EMCY queue, the Keepers' mailboxes and EMCY
queues and the two pin latches (R483, R485). -/
def Obligations.EventBlockFrame : Prop := ∀ s : State, SameBut s (settle s)

/-- A raised event that is enabled and selects no mailbox, EMCY or pin is counted, and is entered in the log when its severity is 2 or
3 (R483, R487); one that is not enabled leaves no trace, but for event 99. A raised event enters each mailbox that its descriptor
selects and that has room, with the entry of Table 12-6, and sets the BUSY latch when its descriptor asks for it (R325, R452). -/
def Obligations.EventsCountedAndRouted : Prop :=
  (∀ (s : State) (e : Nat), Quiet s →
      (bitOf (s.desc e) 15 = true → s.desc e % 128 = 0 →
        let t := settle (raise e s)
        let r := s.stampOf e
        t.eventCount e = satInc 16 (s.eventCount e) ∧ (∀ f, f ≠ e → t.eventCount f = s.eventCount f) ∧
        t.ev.total = wrapInc 64 s.ev.total ∧ t.ev.last = mailboxEntry r (descSev (s.desc e)) ∧
        (∀ k, t.keeper k = s.keeper k) ∧ t.can = s.can ∧ t.pins = s.pins ∧
        (descSev (s.desc e) < 2 → e ≠ 99 → t.ev.log = s.ev.log) ∧
        (2 ≤ descSev (s.desc e) → ∃ b, t.ev.log = (⟨r.rot, b, false, descSev (s.desc e), e⟩ :: s.ev.log).take 64)) ∧
      (bitOf (s.desc e) 15 = false → e ≠ 99 → settle (raise e s) = s)) ∧
  ∀ (s : State) (e : Nat), Quiet s → bitOf (s.desc e) 15 = true → bitOf (s.desc e) 4 = false → bitOf (s.desc e) 6 = false →
    (∀ k, k < 4 → (s.keeper k).mailbox.length < 64) →
      let t := settle (raise e s)
      (∀ k, k < 4 → (t.keeper k).mailbox = if bitOf (s.desc e) k then
        (s.keeper k).mailbox ++ [2 ^ 63 + descSev (s.desc e) * 2 ^ 61 + e % 2048 * 2 ^ 50 + (s.stampOf e).beat % 4096 * 2 ^ 38 +
          (s.stampOf e).rot % 2 ^ 32] else (s.keeper k).mailbox) ∧
      t.pins.busyLatch = (s.pins.busyLatch || bitOf (s.desc e) 5) ∧ t.pins.stopLatch = s.pins.stopLatch ∧ t.can = s.can

/-! Hold memory (chapter 6). -/

/-- The NoC port of unit `u` serves a request for `n` words from word `w` in this cycle, in RAM mode: L0 runs, the domain is open, the
unit is powered and out of reset, HOLD_NOC is synchronous, the shaft has room, no claim opens the array or tests the row, the station
port and the feeder leave the cycle free, and no one waits (R145, R146, R159, R163, R164, R177, R267). -/
def HoldPortFree (s : State) (u w n : Nat) : Prop :=
  s.l0Runs = true ∧ s.fenced (unitFence u) = false ∧ s.unitActive u = true ∧ s.queueInReset (unitGroup u) = false ∧
  (s.beatsRun && s.crossesAsync 2 u) = false ∧ s.guardFull u = false ∧
  s.unitMode u = 0 ∧ claimOpen (s.unit u).claim = false ∧ s.underTest u w n = false ∧
  (s.portAsk u).write = false ∧ (s.portAsk u).read = false ∧ s.ringBusy u = false ∧
  (s.unit u).feeder = [] ∧ (s.unit u).waiting = [] ∧ (s.beatsRun = false ∨ (s.unit u).grantedTo ≠ s.time.tick + 1)

/-- The request reaches its target, no router corrected a flit of it, and its transaction has not ended before (R177, R255, R258, R265). -/
def CleanRequest (s : State) (q : ReqId) : Prop := s.reaches q = true ∧ q ∉ s.noc.pathCorrected ∧ q.isStale = false

/-- NoC accesses to a bank in RAM mode (R145): a row read answers OK with the row's 64 bytes; a row write and a word write store their
bytes (those that the requester posted with its transaction, where it posted one), and no other byte of memory changes; each is
answered OK, a scheduled write not at all.
Any other size or alignment is answered BUSERR and has no effect on memory (R145). -/
def Obligations.HoldNocAccesses : Prop :=
  (∀ (q : ReqId) (addr : BitVec 48) (s : State), holdBase ≤ addr.toNat → addr.toNat < holdEnd →
    HoldPortFree s (unitAt addr.toNat).1 (unitAt addr.toNat).2 16 → CleanRequest s q →
    (addr.toNat % 64 = 0 → ∃ t d, exec (.holdNocReadRow q addr 64 []) s = .next t ∧
      t.noc.answers = s.noc.answers ++ [⟨q, .ok, d⟩] ∧ t.isOpen q = true ∧
      (∀ i, i < 64 → byteAt d.toNat i = (s.readByte (addr.toNat + i)).toNat) ∧ ∀ a, t.readByte a = s.readByte a) ∧
    (∀ data : List Byte, addr.toNat % 64 = 0 → data.length = 64 →
      ∃ t, exec (.holdNocWriteRow q addr data false) s = .next t ∧ t.noc.answers = s.noc.answers ++ [⟨q, .ok, 0⟩] ∧
      ∀ a, t.readByte a = if addr.toNat ≤ a ∧ a < addr.toNat + 64 then
        BitVec.ofNat 8 (byteAt (s.carries q (ofBytes data)) (a - addr.toNat)) else s.readByte a) ∧
    (∀ data : List Byte, addr.toNat % 64 = 0 → data.length = 64 → 2 ≤ s.time.relStep →
      ∃ t, exec (.holdNocWriteRow q addr data true) s = .next t ∧ t.noc.answers = s.noc.answers ∧ t.noc.txns = s.noc.txns ∧
      ∀ a, t.readByte a = if addr.toNat ≤ a ∧ a < addr.toNat + 64 then data.getD (a - addr.toNat) 0 else s.readByte a)) ∧
  (∀ (q : ReqId) (addr : BitVec 48) (s : State) (data : BitVec 32) (be : BitVec 4), holdBase ≤ addr.toNat → addr.toNat < holdEnd →
    HoldPortFree s (unitAt addr.toNat).1 (unitAt addr.toNat).2 1 → CleanRequest s q → addr.toNat % 4 = 0 →
      ∃ t, exec (.holdNocWriteWord q addr data be) s = .next t ∧ t.noc.answers = s.noc.answers ++ [⟨q, .ok, 0⟩] ∧
      ∀ a, t.readByte a = if addr.toNat ≤ a ∧ a < addr.toNat + 4 ∧ be.getLsbD (a - addr.toNat) = true then
        BitVec.ofNat 8 (byteAt (s.carries q data.toNat) (a - addr.toNat)) else s.readByte a) ∧
  ∀ (q : ReqId) (addr : BitVec 48) (s : State), holdBase ≤ addr.toNat → addr.toNat < holdEnd →
    s.fenced (unitFence (unitAt addr.toNat).1) = false → s.unitActive (unitAt addr.toNat).1 = true →
    s.queueInReset (unitGroup (unitAt addr.toNat).1) = false → CleanRequest s q →
    (∀ (size : Nat) (ecc : List EccClass), (size ≠ 64 ∨ addr.toNat % 64 ≠ 0) →
      ∃ t, exec (.holdNocReadRow q addr size ecc) s = .next t ∧ t.noc.answers = s.noc.answers ++ [⟨q, .buserr, 0⟩] ∧
        ∀ a, t.readByte a = s.readByte a) ∧
    (∀ data : List Byte, (data.length ≠ 64 ∨ addr.toNat % 64 ≠ 0) →
      ∃ t, exec (.holdNocWriteRow q addr data false) s = .next t ∧ t.noc.answers = s.noc.answers ++ [⟨q, .buserr, 0⟩] ∧
        ∀ a, t.readByte a = s.readByte a) ∧
    (∀ (data : BitVec 32) (be : BitVec 4), addr.toNat % 4 ≠ 0 →
      ∃ t, exec (.holdNocWriteWord q addr data be) s = .next t ∧ t.noc.answers = s.noc.answers ++ [⟨q, .buserr, 0⟩] ∧
        ∀ a, t.readByte a = s.readByte a)

/-- The three maintenance requests at the dictionary (R161): each takes or uses the free claim of its units, and changes nothing else;
one whose unit's claim is held is refused with 0x0800_0020, recorded, and raises event 33. -/
def Obligations.HoldMaintenanceRequests : Prop :=
  ∀ (p : Path) (s : State), s.served = true →
    (∀ w : BitVec 64, bitsAt w.toNat 32 13 < 4160 → (s.unit (bitsAt w.toNat 32 13)).claim = .none →
      exec (.fillRequest p w) s = .next (settle (Acked p 0x3200 1 (s.setUnit (bitsAt w.toNat 32 13)
        { s.unit (bitsAt w.toNat 32 13) with claim := .fill (w.toNat % 2 ^ 32), disturbed := false, touched := [] })))) ∧
    (∀ u : BitVec 16, u.toNat < 4160 → (s.unit u.toNat).claim = .none →
      exec (.queueResetRequest p u) s = .next (settle (Acked p 0x3200 2 (s.setUnit u.toNat { s.unit u.toNat with
        head := 0, tail := 0, fill := 0, fillHalf := 0, overwrote := false, marks := [], markOpen := false, ringWords := 0,
        recWait := [], causes := 0 })))) ∧
    (∀ w : BitVec 32, w.toNat % 512 < 260 → (∀ i, i < 16 → (s.unit (16 * (w.toNat % 512) + i)).claim = .none) →
      ∃ t, exec (.marchRequest p w) s = .next t ∧ (∀ a, t.readByte a = s.readByte a) ∧
        (∀ u, (t.unit u).claim = if u / 16 = w.toNat % 512 then .march (bitOf w.toNat 16) else (s.unit u).claim) ∧
        SameBut s { t with hold := { t.hold with units := s.hold.units }, eng := s.eng }) ∧
    (∀ u : BitVec 16, u.toNat < 4160 → (s.unit u.toNat).claim ≠ .none →
      exec (.queueResetRequest p u) s = .next (settle (Aborted p 0x3200 2 abortBusy (raise 33 { s with hold := { s.hold with
        lastRefusal := u.toNat + claimCode (s.unit u.toNat).claim * 2 ^ 13 + 2 * 2 ^ 16 } }))))

/-- How maintenance ends (R159 to R163): a fill has written its pattern into every word that no one wrote meanwhile, and its claim is
free; a march of a group leaves its results (Table 6-11) and free claims, and a preserving one leaves memory as it was; the group of a
per-block reset serves again. -/
def Obligations.HoldMaintenanceEnds : Prop :=
  ∀ s : State,
    (∀ (u : Fin 4160) (pat : Nat), (s.unit u.val).claim = .fill pat → (s.unit u.val).touched = [] →
      ∃ t, exec (.fillDone u) s = .next t ∧ (t.unit u.val).claim = .none ∧
        ∀ a, t.readByte a = if unitBase u.val ≤ a ∧ a < unitBase u.val + 4 * unitWords u.val then
          BitVec.ofNat 8 (byteAt pat ((a - unitBase u.val) % 4)) else s.readByte a) ∧
    (∀ (n : Fin 260) (fails : List (Fin 16 × Nat)), (∀ i, i < 16 → (s.unit (16 * n.val + i)).claim = .march true) →
      ∃ t, exec (.marchDone n fails) s = .next t ∧ (∀ a, t.readByte a = s.readByte a) ∧
        ∀ i : Fin 16, (t.unit (16 * n.val + i.val)).claim = .none ∧
          (t.unit (16 * n.val + i.val)).march = 2 ^ 31 + (if fails.any (fun f => decide (f.1.val = i.val)) then 2 ^ 30 else 0) +
            (if (s.unit (16 * n.val + i.val)).disturbed then 2 ^ 29 else 0) + 2 ^ 28 +
            ((fails.find? (fun f => decide (f.1.val = i.val))).map Prod.snd).getD 0 % 2 ^ 19) ∧
    (∀ n : Fin 260, exec (.queueGroupResetDone n) s =
      .next (settle { s with hold := { s.hold with resetting := s.hold.resetting.filter (fun m => decide (m ≠ n.val)) } }))

/-- Nothing is on its way in the network and no request waits at a shaft guard. -/
def NetworkQuiet (s : State) : Prop := s.noc.waiting = [] ∧ s.noc.flying = [] ∧ s.noc.atTarget = [] ∧ s.hold.guard = []

/-- A word as its error class delivers it: a double-bit error delivers it as stored (R140). -/
def Delivered (e : EccClass) (v : Nat) : Nat :=
  match e with
  | .double m => v ^^^ m % 2 ^ 32
  | _ => v

/-- What the station port of hold bank `h` of station `st` asks for in the FAB cycle in progress: the strobes, 0 in station reset, the
address and the data (R95, R141, Table 4-3). -/
def PortAsks (s : State) (st h : Nat) (write read : Bool) (addr data : Nat) : Prop :=
  let w := (s.station st).sinks.toNat
  write = (!s.stationReset st && bitOf w (5621 + 48 * h + 46)) ∧ read = (!s.stationReset st && bitOf w (5621 + 48 * h + 47)) ∧
  addr = bitsAt w (5621 + 48 * h + 32) 14 ∧ data = bitsAt w (5621 + 48 * h) 32

/-- What a station-port access of unit `u` leaves (R141 to R153, Table 6-3): the word that it reads, in `v`; the word at `a` written,
or none, with every other word of the unit as it was; the pointers, fill level and bookmark; and that a refusal is counted (other ports of the station may add to the count). -/
def StationPort (s t : State) (u : Nat) (write read : Bool) (addr data : Nat) (e : EccClass) (v : Nat) : Prop :=
  let x := s.unit u
  let y := t.unit u
  let c := s.unitCfg u
  let mine := c / 8 % 4 = 0
  let words := fun (a : Option Nat) => ∀ w, w < unitWords u → t.word u w = if a = some w then data else s.word u w
  let pointers := fun (head tail fill : Nat) => y.head = head ∧ y.tail = tail ∧ y.fill = fill ∧ y.fillHalf = x.fillHalf
  let refused := satInc 32 (s.holdCount (u / 16)).writesRefused ≤ (t.holdCount (u / 16)).writesRefused
  match s.unitMode u with
  | 0 => (read = true → v = Delivered e (s.word u addr)) ∧ words (if write then some addr else none) ∧ pointers x.head x.tail x.fill
  | 1 =>
    if mine then
      (read = true → v = Delivered e (s.word u addr)) ∧
      (write = true → x.fill ≠ unitWords u → words (some (x.tail % unitWords u)) ∧
        pointers x.head ((x.tail + 1) % unitWords u) (x.fill + 1) ∧
        bitOf y.causes 0 = (bitOf x.causes 0 || decide (x.fill + 1 = unitWords u)) ∧
        bitOf y.causes 2 = (bitOf x.causes 2 || (decide (c / 2 ^ 8 % 2 ^ 20 ≠ 0) && decide (x.fill + 1 = c / 2 ^ 8 % 2 ^ 20)))) ∧
      (write = true → x.fill = unitWords u → words none ∧ pointers x.head x.tail x.fill ∧ bitOf y.causes 4 = true ∧ refused) ∧
      (write = false → words none ∧ pointers x.head x.tail x.fill)
    else
      words none ∧ (write = true → bitOf y.causes 11 = true ∧ refused) ∧
      (read = true → x.fill ≠ 0 → v = Delivered e (s.word u x.head) ∧
        pointers ((x.head + 1) % unitWords u) x.tail (x.fill - 1) ∧
        bitOf y.causes 1 = (bitOf x.causes 1 || decide (x.fill = 1)) ∧
        bitOf y.causes 3 = (bitOf x.causes 3 || (decide (c / 2 ^ 28 % 2 ^ 20 ≠ 0) && decide (x.fill = c / 2 ^ 28 % 2 ^ 20 + 1)))) ∧
      (read = true → x.fill = 0 → v = 0 ∧ pointers x.head x.tail x.fill ∧ bitOf y.causes 5 = true ∧
        satInc 32 (s.holdCount (u / 16)).popsRefused ≤ (t.holdCount (u / 16)).popsRefused) ∧
      (read = false → pointers x.head x.tail x.fill)
  | 2 =>
    (read = true → v = Delivered e (s.word u addr)) ∧
    (if mine ∧ write = true then
      words (some (x.tail % unitWords u)) ∧ pointers x.head ((x.tail + 1) % unitWords u) x.fill ∧
      (∀ m ms, x.markOpen = true → x.marks = m :: ms → y.marks = { m with empty := false, addr := x.tail } :: ms ∧ y.markOpen = false) ∧
      (unitWords u < x.ringWords + 1 → y.overwrote = true ∧ (x.overwrote = false → bitOf y.causes 0 = true))
    else words none ∧ pointers x.head x.tail x.fill ∧ (write = true → bitOf y.causes 11 = true ∧ refused))
  | 3 =>
    let half := if mine then x.fillHalf % 2 else 1 - x.fillHalf
    (read = true → v = Delivered e (s.word u (addr % 8192 + 8192 * half))) ∧
    words (if mine ∧ write = true then some (addr % 8192 + 8192 * half) else none) ∧ pointers x.head x.tail x.fill ∧
    (¬mine → write = true → bitOf y.causes 11 = true ∧ refused)
  | _ => True

/-- A request that has waited 1,024 HOLD cycles sets STARVED once and keeps waiting (R146); a push that has waited its WAIT cycles at a
full FIFO is answered BUSERR and sets OVERFLOW (R148).
A host claims free output rings with 2 and releases the dictionary's with 0; equal bytes change nothing (R157). A byte of 1 that is
no ring's owner now, or of 3 or more, is out of range; a claim or release of an image's ring is refused with 0x0800_0020 and event 34.
The station port of a bank acts in the FAB cycle in which its strobes are 1, in each of the four modes, and presents what it reads two
cycles later (R141, R142, R147 to R153), while nothing else is on its way to the bank. -/
def Obligations.HoldWaitingAndRings : Prop :=
  (∀ (u : Fin 4160) (r : HoldReq) (rs : List HoldReq) (s : State), (s.unit u.val).waiting = r :: rs →
    (1024 ≤ r.waited → r.starved = false → exec (.holdStarved u) s = .next (settle (deferRaises (unitCauses u.val causeStarved
      (s.setUnit u.val { s.unit u.val with waiting := { r with starved := true } :: rs }))))) ∧
    (s.unitMode u.val = 1 → r.kind = 2 → s.nocProduces u.val = true → (s.unit u.val).fill = unitWords u.val → r.sched = false →
      cfgWait (s.unitCfg u.val) ≤ r.blocked → exec (.holdPushWaitExpired u) s = .next (settle (deferRaises (answerStatus r.req .buserr
        (unitCauses u.val causeOverflow (s.setUnit u.val { s.unit u.val with waiting := rs })))))) ∧
    (u.val < 4096 → ∀ bits, bits < 64 → bits ≠ 0 → (256 + 2 * (u.val / 16)) ∉ s.ev.thisBeat →
      (unitCauses u.val bits s).hold.units = (s.setUnit u.val { s.unit u.val with causes := (s.unit u.val).causes ||| bits }).hold.units ∧
      (unitCauses u.val bits s).ev.waiting = s.ev.waiting ++ [s.stampOf (256 + 2 * (u.val / 16))])) ∧
  (∀ (p : Path) (s : State) (data : List Byte), s.served = true → data.length = 32 →
    ((∀ g, g < 32 → ((data.getD g 0).toNat = s.hold.owners.getD g 0 ∨
        (s.hold.owners.getD g 0 = 0 ∧ (data.getD g 0).toNat = 2) ∨ (s.hold.owners.getD g 0 = 2 ∧ (data.getD g 0).toNat = 0))) →
      exec (.ringOwnerWrite p data) s = .next (settle (Acked p 0x3200 0x15 { s with hold := { s.hold with
        owners := (List.range 32).map (fun g => (data.getD g 0).toNat) } }))) ∧
    ((∃ g, g < 32 ∧ s.hold.owners.getD g 0 = 1 ∧ ((data.getD g 0).toNat = 0 ∨ (data.getD g 0).toNat = 2)) →
      (∀ g, g < 32 → (data.getD g 0).toNat = s.hold.owners.getD g 0 ∨ (data.getD g 0).toNat = 0 ∨ (data.getD g 0).toNat = 2) →
      exec (.ringOwnerWrite p data) s = .next (settle (Aborted p 0x3200 0x15 abortBusy (raise 34 s)))) ∧
    ((∃ g, g < 32 ∧ (data.getD g 0).toNat ≠ s.hold.owners.getD g 0 ∧ ((data.getD g 0).toNat = 1 ∨ 3 ≤ (data.getD g 0).toNat)) →
      exec (.ringOwnerWrite p data) s = .next (settle (Aborted p 0x3200 0x15 abortRange s)))) ∧
  ∀ (ecc : List PortEcc) (early : List EarlyPair) (pins floating : BitVec 96) (s : State) (st h : Nat) (write read : Bool)
    (addr data : Nat), s.cycleRuns = true → s.fabricRuns = true → NetworkQuiet s → st < 256 → h < 16 → s.ctxOf (sectorOf st) < 8 →
    s.unitActive (16 * st + h) = true → claimOpen (s.unit (16 * st + h)).claim = false → PortAsks s st h write read addr data →
    (write || read) = true →
      ∃ t, exec (.fabCycle ecc early pins floating) s = .next t ∧
        StationPort s t (16 * st + h) write read addr data (portEcc ecc st h)
          (bitsAt (holdValue (s.time.tick + 2) (t.station st).holdHeld.toNat (t.station st).hold) (32 * h) 32)

/-! The pattern layer (chapter 5). -/

/-- The entry line at `addr` can be loaded at once: the layer and the sector are open, the bank is there, out of reset and does not
search the entry's page, and PAT_NOC is synchronous there (R125, R126, R177, Table 5-4). -/
def PatternLoads (s : State) (addr : Nat) : Prop :=
  let st := (addr - patBase) / 0x40000
  patBase ≤ addr ∧ addr < patEnd ∧ addr % 64 = 0 ∧ s.pat.layer = .on ∧ s.fenced 16 = false ∧
  s.fenced (sectorOf st) = false ∧ s.bankInReset st = false ∧ s.bankPresent st = true ∧
  s.pageActive st ((addr - patBase) % 0x40000 / 64) = false ∧ (s.beatsRun && s.crossesAsync 6 st) = false

/-- What a bank's strobe in the FAB cycle in progress is: 0 accepted, 1 refused over the cap, 2 refused for spacing, with the cap of the
context in force (R119, R120, Table 5-2). -/
def StrobeCase (s : State) (st : Nat) : Nat :=
  let cap := match s.stationFrame (s.ctxOf (sectorOf st)) st 0 4 0 % 4 with
    | 1 => 2
    | 2 => 4
    | _ => 1
  if (s.bank st).lastAccepted then 2 else if cap ≤ (s.bank st).accepted then 1 else 0

/-- The listed entries of the bank of `st` that a search for `key` matches, in the order of their numbers: those of the page searched, or
all in one-page mode, that are valid and equal to the key in every bit that they care for (R111, R113, R122). -/
def SearchHits (s : State) (st key : Nat) : List (Nat × PatEntry) :=
  let base := s.physOf st * 4096
  let one := s.obj (0x4100 + st) 1 = 1
  let page := s.obj (0x4100 + st) 2 % 2
  s.pat.entries.filter (fun x => decide (base ≤ x.1) && decide (x.1 < base + 4096) && decide (one ∨ (x.1 - base) / 2048 = page) &&
    x.2.valid && (List.range 144).all (fun k => !x.2.care.getLsbD k || (bitOf key k == x.2.value.getLsbD k)))

/-- The result word of a strobe (R115 to R117, R131, R133, Table 5-1): ABSENT where the bank is not on (that this comes before per-block
reset is the model's choice, notes/assumptions/145.md), 0 in per-block reset, else PAGE, and for an accepted strobe what it matched. -/
def SearchResult (s : State) (st key : Nat) : Nat :=
  let page := if s.obj (0x4100 + st) 1 = 1 then 0 else s.obj (0x4100 + st) 2 % 2
  if !s.bankOn st then 2 ^ 30
  else if s.bankInReset st then 0
  else if StrobeCase s st ≠ 0 then page * 2 ^ 31
  else match SearchHits s st key with
    | [] => page * 2 ^ 31
    | h :: rest => page * 2 ^ 31 + h.2.tag.toNat * 2 ^ 22 + min (rest.length + 1) 255 * 2 ^ 14 + (h.1 - s.physOf st * 4096) * 2 ^ 2 +
        (if rest = [] then 0 else 2) + 1

/-- Loading entries (R112, R126, R127, R130): a write stores the value, care, tag and valid fields of its line, a don't-care bit with
value 0, with parity bits that hold, and changes no other entry; the line is the one that the requester posted, where it posted one; a read answers OK with the entry's line; an access of another size is answered BUSERR, counted and recorded.
A search strobe of a station (R113 to R121): its result is due 6 FAB cycles later, or 10 or 11 over an asynchronous PATTERN crossing; it
is accepted and counted, refused over the cap or refused for spacing; a cycle without a strobe ends the spacing interval. -/
def Obligations.PatternEntryLines : Prop :=
  (∀ (q : ReqId) (addr : BitVec 48) (s : State), PatternLoads s addr.toNat → CleanRequest s q →
    let st := (addr.toNat - patBase) / 0x40000
    let e := (addr.toNat - patBase) % 0x40000 / 64
    (∀ data : List Byte, data.length = 64 →
      let d := s.carries q (ofBytes data)
      ∃ t, exec (.patternLineWrite q addr data) s = .next t ∧ t.noc.answers = s.noc.answers ++ [⟨q, .ok, 0⟩] ∧
        (t.patEntry st e).care.toNat = d / 2 ^ 144 % 2 ^ 144 ∧
        (t.patEntry st e).value.toNat = d % 2 ^ 144 &&& (d / 2 ^ 144 % 2 ^ 144) ∧
        (t.patEntry st e).tag.toNat = d / 2 ^ 288 % 2 ^ 8 ∧
        ((t.patEntry st e).valid = true ↔ d / 2 ^ 296 % 2 = 1) ∧ (t.patEntry st e).parityHolds = true ∧
        (∀ st' e', e' < 4096 → (st', e') ≠ (st, e) → t.patEntry st' e' = s.patEntry st' e') ∧
        SameBut s { t with pat := { t.pat with entries := s.pat.entries }, noc := s.noc }) ∧
    (∃ t, exec (.patternLineRead q addr 64) s = .next t ∧ t.pat = s.pat ∧
      t.noc.answers = s.noc.answers ++ [⟨q, .ok, BitVec.ofNat 512 ((s.patEntry st e).value.toNat +
        (s.patEntry st e).care.toNat * 2 ^ 144 + (s.patEntry st e).tag.toNat * 2 ^ 288 +
        (if (s.patEntry st e).valid then 2 ^ 296 else 0))⟩] ∧ SameBut s { t with noc := s.noc }) ∧
    (∀ size : Nat, size ≠ 64 → ∃ t, exec (.patternLineRead q addr size) s = .next t ∧
      t.noc.answers = s.noc.answers ++ [⟨q, .buserr, 0⟩] ∧ t.pat.entries = s.pat.entries ∧
      (t.bank st).refused = satInc 32 (s.bank st).refused ∧ (t.bank st).refusedAddr = addr.toNat)) ∧
  ∀ (ecc : List PortEcc) (early : List EarlyPair) (pins floating : BitVec 96) (s : State) (st : Nat), s.cycleRuns = true →
    s.fabricRuns = true → st < 256 → s.ctxOf (sectorOf st) < 8 →
      let b := s.bank st
      let strobed := !s.stationReset st && (s.station st).sinks.getLsbD 5620
      ∃ t, exec (.fabCycle ecc early pins floating) s = .next t ∧
        (strobed = true → StrobeCase s st = 0 → (t.bank st).accepted = b.accepted + 1 ∧ (t.bank st).lastAccepted = true ∧
          (t.bank st).searches = (if s.bankOn st then wrapInc 64 b.searches else b.searches) ∧
          (t.bank st).overCap = b.overCap ∧ (t.bank st).spacing = b.spacing) ∧
        (strobed = true → StrobeCase s st = 1 → (t.bank st).accepted = b.accepted ∧ (t.bank st).lastAccepted = false ∧
          (t.bank st).overCap = satInc 32 b.overCap ∧ bitOf (t.bank st).causes 0 = true ∧
          (t.bank st).searches = b.searches ∧ (t.bank st).spacing = b.spacing) ∧
        (strobed = true → StrobeCase s st = 2 → (t.bank st).accepted = b.accepted ∧ (t.bank st).lastAccepted = false ∧
          (t.bank st).spacing = satInc 32 b.spacing ∧ bitOf (t.bank st).causes 1 = true ∧
          (t.bank st).searches = b.searches ∧ (t.bank st).overCap = b.overCap) ∧
        (strobed = false → (t.bank st).lastAccepted = false ∧ (t.bank st).accepted = b.accepted ∧
          (t.bank st).searches = b.searches ∧ (t.bank st).overCap = b.overCap ∧ (t.bank st).spacing = b.spacing) ∧
        (strobed = true → ∃ d l, (t.station st).pat = l ++ [⟨s.time.tick + d, 0,
          SearchResult s st (bitsAt (s.station st).sinks.toNat 5476 144)⟩] ∧
          (bitOf (s.obj 0x2100 4) 1 = false → d = 6) ∧ (bitOf (s.obj 0x2100 4) 1 = true → d = 10 ∨ d = 11))

/-- The checker, the clear of a bank and the layer's return (R130, R131, R132, R134), which also ends an exit to RUN that
waited for it alone (R410; that the exit lasts until then is the model's reading, notes/assumptions/114.md). The checker reads its next entry, in whose stored bits
`flips` were upset since it was last looked at; the entry keeps its bits, and a mismatch of its parity is counted and recorded. -/
def Obligations.PatternMaintenance : Prop :=
  ∀ s : State,
    (∀ (st : Fin 256) (flips : BitVec 301), s.bankPresent st.val = true → s.pat.layer = .on → s.bankInReset st.val = false →
      s.l0Runs = true →
      let b := s.bank st.val
      let e := (s.patEntry st.val b.checkPos).upset flips
      ∃ t, exec (.patternParityCheck st flips) s = .next t ∧ (t.bank st.val).checkPos = (b.checkPos + 1) % 4096 ∧
        (t.bank st.val).passes = (if b.checkPos = 4095 then wrapInc 32 b.passes else b.passes) ∧
        t.patEntry st.val b.checkPos = e ∧
        (∀ st' e', s.physOf st' * 4096 + e' ≠ s.physOf st.val * 4096 + b.checkPos → t.patEntry st' e' = s.patEntry st' e') ∧
        (e.parityHolds = true → (t.bank st.val).parityCount = b.parityCount ∧ (t.bank st.val).causes = b.causes ∧
          SameBut s { t with pat := s.pat }) ∧
        (e.parityHolds = false → (t.bank st.val).parityEntry = b.checkPos ∧ (t.bank st.val).parityCount = satInc 16 b.parityCount ∧
          (t.bank st.val).causes = b.causes ||| 8)) ∧
    (∀ st : Fin 256, (s.bank st.val).clearing = true →
      ∃ t, exec (.patternBankClearDone st) s = .next t ∧ (t.bank st.val).clearing = false ∧
        (∀ e, e < 4096 → t.patEntry st.val e = {}) ∧
        (∀ st' e, e < 4096 → st' ≠ st.val → t.patEntry st' e = s.patEntry st' e) ∧
        SameBut s { t with pat := s.pat }) ∧
    (s.pat.layer = .ramping ∨ s.pat.layer = .clearing → ¬(s.rst.phase = .starting ∧ s.rst.warmStart = false) →
      ∃ t, exec .patternLayerOn s = .next t ∧ t.pat.layer = .on ∧ t.pat.dark = true ∧ t.pat.entries = [] ∧
        (s.pwr.state = 0 → t.noc.deviceFence.getLsbD 16 = false) ∧
        t.pwr.transition = (if s.pwr.transition = 5 ∧ s.pwr.state = 0 ∧ s.pwr.ramping = [] then 0 else s.pwr.transition) ∧
        SameBut s { t with pat := s.pat, noc := s.noc, pwr := { t.pwr with transition := s.pwr.transition } }) ∧
    (s.pat.layer = .ramping ∨ s.pat.layer = .clearing → s.rst.phase = .starting → s.rst.warmStart = false →
      exec .patternLayerOn s = .next (settle { s with pat := { s.pat with entries := [], layer := .on, dark := false } }))

/-! Beats and rotations (chapters 2, 3 and 14). -/

/-- The staged global release goes on: write enables in beat d + 1 or later, station reset in d + 2 or later with event 1351, and
nothing else changes (R377, Table 14-9; the order of the commands is the model's choice, notes/assumptions/7.md). A due word of the
probe log is dropped: counted, with event 24 once in the beat and the causes of the unit that refuses it (R83, R148). -/
def Obligations.ReleaseStepsAndLogDrops : Prop :=
  (∀ s : State,
    (s.time.relStep = 1 → 1 ≤ s.time.beat →
      exec .releaseWriteEnables s = .next (settle { s with time := { s.time with relStep := 2 } })) ∧
    (s.time.relStep = 2 → 2 ≤ s.time.beat →
      exec .releaseStationReset s = .next (settle (deferRaises (raise 1351 { s with time := { s.time with relStep := 3 } }))))) ∧
  ∀ s : State,
    (∀ u bits, s.fab.logDue = some (u, bits) → exec .probeLogDrop s = .next (settle (deferRaises (raiseOnce 24 (unitCauses u bits { s with
      fab := { s.fab with logDue := none, logDropped := satInc 32 s.fab.logDropped } }))))) ∧
    (s.fab.logDue = none → exec .probeLogDrop s = .next (settle (deferRaises s)))

/-- A beat that is not a datum beat begins (R36, R39): the index rises by 1, the rotation counter and every staged setting and object
stay. -/
def Obligations.BeatAdvances : Prop :=
  ∀ (ecc : List RingEcc) (s : State), s.beatsRun = true → s.time.freshLock = false → s.mer.renumber = none →
    s.mer.adoptDue = false → s.time.beat + 1 < s.B →
      ∃ t, exec (.beat ecc) s = .next t ∧
        t.time = { s.time with tick := s.nextBeat, cyc := 0, beat := s.time.beat + 1 } ∧ t.dict = s.dict ∧ t.stg = s.stg ∧
        t.fab.mailShown = s.fab.mailAccepted

/-- No power state, gate or device fence of a sector changes at the coming datum beat: RUN stays, and no sector is gated, off, ramping or
fenced by the device. -/
def PowerSteady (s : State) : Prop :=
  s.pwr.state = 0 ∧ s.pwr.transition = 0 ∧ s.pwr.vl3Off = [] ∧ s.pwr.ramping = [] ∧ s.pwr.restart = [] ∧
  s.projected false 0x2300 1 = 0 ∧
  ∀ k, k < 16 → bitOf (s.obj 0x2300 3) k = false ∧ bitOf (s.projected false 0x2300 3) k = false ∧ s.noc.deviceFence.getLsbD k = false

/-- The selection of sector `k` that the coming datum beat acts on was made by the safe action (R381). -/
def SafeSelection (s : State) (k : Nat) : Bool :=
  match (s.nearWrites.filter (fun w => w.selects k)).getLast? with
  | some w => w.safe || (s.stg.safeSel.erase k).contains k
  | none => s.stg.safeSel.contains k

/-- The first loop of R53 for sector `k`, under the settings `x` in force after the near values: the result code of Table 2-6 and the
sector's context. -/
def SwapResult (s : State) (x : Settings) (k : Nat) : Nat × Nat :=
  let old := s.ctxOf k
  let v := byteAt (s.projected false 0x2000 0x16) k
  let refused := fun (code : Nat) => if SafeSelection s k = true ∧ old < 8 then (5, 8) else (code, old)
  if v = old then (0, old)
  else if 8 ≤ v then (if SafeSelection s k then 5 else 1, 8)
  else if s.fenced k then refused 4
  else if s.region v k ≠ .valid then refused 2
  else if (x.mismatch (s.contract v k) k).isSome then refused 3
  else (1, v)

/-- Both loops of R53 (R181, R182): a context that no longer matches the settings is voided with code 5. -/
def BoundaryResult (s : State) (x : Settings) (k : Nat) : Nat × Nat :=
  let r := SwapResult s x k
  if r.2 < 8 ∧ (x.mismatch (s.contract r.2 k) k).isSome = true then (5, 8) else r

/-- A datum beat (R39, R47, R53, R181, R182, R376, R377) on a manager: the index returns to 0, the counter counts once it is released,
every object takes the value that the near writes give it, no near write is left, and far ones are near. Where no power state or gate
changes, each sector gets the context and the code of R53, with event 18 where some sector swapped, 16 where one was refused and 17 where
one was voided; and a start that is due begins step 1 of the release where some sector then has a context. -/
def Obligations.DatumBeatApplies : Prop :=
  ∀ (ecc : List RingEcc) (s : State), s.beatsRun = true → s.time.freshLock = false → s.mer.renumber = none →
    s.mer.adoptDue = false → s.rst.roleManager = true → s.clk.crossClear = false → s.B ≤ s.time.beat + 1 →
      ∃ t, exec (.datumBeat ecc) s = .next t ∧ t.time.beat = 0 ∧ t.time.cyc = 0 ∧
        t.time.rot = (if s.released then (s.time.rot + 1) % 2 ^ 64 else if s.time.adopted then (s.time.rot + 1) % 2 ^ 64 else s.time.rot) ∧
        (∀ idx sub, t.obj idx sub = s.projected false idx sub) ∧
        t.stg.pend = (s.stg.pend.filter (fun w => w.far)).map (fun w => { w with far := false }) ∧
        (s.time.startPending = false → t.time.relStep = s.time.relStep) ∧
        (PowerSteady s →
          (∀ k, k < 16 → t.ctxOf k = (BoundaryResult s t.settings k).2 ∧
            t.stg.swapCode.getD k 0 = (BoundaryResult s t.settings k).1) ∧
          ((∃ r ∈ t.ev.fabDue, r.event = 18) ↔ ∃ k, k < 16 ∧ (SwapResult s t.settings k).1 = 1) ∧
          ((∃ r ∈ t.ev.fabDue, r.event = 16) ↔ ∃ k, k < 16 ∧ 2 ≤ (SwapResult s t.settings k).1 ∧ (SwapResult s t.settings k).1 ≤ 4) ∧
          ((∃ r ∈ t.ev.fabDue, r.event = 17) ↔ ∃ k, k < 16 ∧ (BoundaryResult s t.settings k).1 = 5) ∧
          (s.dev = .configured → s.time.startPending = true → s.time.startFar = false → s.time.relStep = 0 → s.warmPass = false →
            (∃ k, k < 16 ∧ t.ctxOf k < 8) →
            t.dev = .run ∧ t.time.relStep = 1 ∧ t.time.startPending = false ∧ t.can.nmt = .operational))

/-- Input `i` of plot `p`: the macrocell of the plot where LOCAL is 1, else the crossbar sink (R59, Table 3-4). -/
def PlotInput (s : State) (st p i : Nat) : Bool :=
  if i < 64 ∧ bitOf (s.stationFrame (s.ctxOf (sectorOf st)) st p 1 0) (2368 + i) = true then (s.station st).q.getLsbD (64 * p + i)
  else (s.station st).sinks.getLsbD (160 * p + i)

/-- Term `n` of plot `p` is 1: its mask selects some literal, and every literal that it selects is 1 (R60, R61, Table 3-3). -/
def TermIsOne (s : State) (st p n : Nat) : Prop :=
  let mask := bitsAt (s.stationFrame (s.ctxOf (sectorOf st)) st p 0 (n / 8)) (320 * (n % 8)) 320
  mask ≠ 0 ∧ ∀ j, j < 320 → bitOf mask j = true → PlotInput s st p (j / 2) = decide (j % 2 = 0)

/-- The sum of macrocell `m`: some term of a group that is used and steered to it is 1 (R62, R65). -/
def SumIsOne (s : State) (st p m : Nat) : Prop :=
  let f := s.stationFrame (s.ctxOf (sectorOf st)) st p 1 0
  ∃ g w, g < 64 ∧ w < 4 ∧ bitOf f (2048 + 5 * g + 4) = true ∧ g + bitsAt f (2048 + 5 * g) 4 = m + 7 ∧ TermIsOne s st p (4 * g + w)

/-- Macrocell `m` of plot `p` loads `b` (R64 to R66, Tables 3-2 and 3-5). -/
def MacrocellLoads (s : State) (st p m : Nat) (b : Bool) : Prop :=
  let c := bitsAt (s.stationFrame (s.ctxOf (sectorOf st)) st p 1 0) (32 * m) 32
  let q := (s.station st).q.getLsbD (64 * p + m)
  ∃ sum pol clear hold : Bool, (sum = true ↔ SumIsOne s st p m) ∧
    (pol = true ↔ bitsAt c 24 2 = 1 ∨ (bitsAt c 24 2 = 2 ∧ TermIsOne s st p (bitsAt c 0 8))) ∧
    (clear = true ↔ bitOf c 28 = true ∧ TermIsOne s st p (bitsAt c 16 8)) ∧
    (hold = true ↔ bitOf c 27 = true ∧ ¬TermIsOne s st p (bitsAt c 8 8)) ∧
    b = (if s.stationReset st then bitOf c 29 else if clear then false else if hold then q
      else if bitOf c 26 then q != (sum != pol) else sum != pol)

/-- What sink register `i` loads: the source that its index selects (R91, R92, R94, Tables 4-2 and 4-4); the pipelines of the SSU, the
pattern bank and the hold ports give what is due in the cycle, and 0 for the first two in station reset (R107, R118). -/
def SinkLoads (s : State) (st i : Nat) : Bool :=
  let x := s.station st
  let n := bitsAt (s.stationFrame (s.ctxOf (sectorOf st)) st 0 2 (i / 213)) (12 * (i % 213)) 12
  if n < 2048 then x.q.getLsbD n
  else if n < 2080 then bitOf (s.lanePortIn st) (n - 2048)
  else if n < 2144 then
    let line := bitsAt (s.stationFrame (s.ctxOf (sectorOf st)) st 0 3 0) (14 * (n - 2080)) 14
    let d := s.traverseDelay st (n - 2080)
    decide (x.travFrom + d ≤ s.time.tick) && ((s.station (line / 64)).lines.getD (d - 1) 0).getLsbD (line % 64)
  else if n < 2208 then !s.stationReset st && bitOf (ssuValue s.time.tick x.ssu) (n - 2144)
  else if n < 2240 then !s.stationReset st && bitOf (lastValue s.time.tick x.patHeld.toNat x.pat) (n - 2208)
  else if n < 2752 then bitOf (holdValue s.time.tick x.holdHeld.toNat x.hold) (n - 2240)
  else if n < 2756 then bitOf s.time.cyc (n - 2752)
  else if n < 2768 then bitOf s.time.beat (n - 2756)
  else if n = 2768 then decide (s.time.rot % 2 = 1)
  else if n = 2769 then decide (s.time.beat = 0 ∧ s.time.cyc = 0)
  else if n < 2786 then bitOf (Tbl.at 0 s.fab.mailShown st) (n - 2770)
  else decide (n = 4095)

/-- Operand `k` takes part under QUAL (R102, R103). -/
def SsuTakes (op th : Nat) (a : Nat → Nat) (k : Nat) : Bool := !bitOf op 3 || decide (th < a k)

/-- Operand `k` counts as above in CNTGT and MASKGT (Table 4-7). -/
def SsuAbove (op th : Nat) (a : Nat → Nat) (k : Nat) : Bool :=
  if bitOf op 3 then decide (th < a k) else decide (k < 15) && decide (a 15 < a k)

/-- Rank of operand `k` among those that take part: how many of them come before it (R103). -/
def SsuRank (op th : Nat) (a : Nat → Nat) (k : Nat) : Nat :=
  (List.range 16).countP (fun j => SsuTakes op th a j && (decide (a k < a j) || (decide (a j = a k) && decide (j < k))))

/-- `r` is the Sum-and-Sort result of opcode `op` on the operands `a` with the threshold `th`, or the q-th of a PREFIX (R101 to R104, Tables
4-7 and 4-8). -/
def SsuGives (op th : Nat) (a : Nat → Nat) (q r : Nat) : Prop :=
  let taken := (List.range 16).filter (SsuTakes op th a)
  let above := (List.range 16).filter (SsuAbove op th a)
  match op % 8 with
  | 1 => r = a 0 + a 1 * 2 ^ 16 + a 2 * 2 ^ 32 + a 3 * 2 ^ 48
  | 2 => r = (taken.map a).sum + taken.length * 2 ^ 20
  | 3 => r = ((taken.filter (fun k => decide (SsuRank op th a k < 4))).map
      (fun k => (k * 2 ^ 12 + min (a k) 0xFFF) * 2 ^ (16 * SsuRank op th a k))).sum
  | 4 => (taken = [] → r = 2 ^ 40 + 0xFFFF) ∧
      (taken ≠ [] → ∃ lo ∈ taken, ∃ hi ∈ taken, (∀ k ∈ taken, a lo ≤ a k ∧ (a k = a lo → lo ≤ k) ∧ a k ≤ a hi ∧ (a k = a hi → hi ≤ k)) ∧
        r = a lo + a hi * 2 ^ 16 + lo * 2 ^ 32 + hi * 2 ^ 36)
  | 5 => r = above.length
  | 6 => r = (above.map (fun k => 2 ^ k)).sum + above.length * 2 ^ 16
  | 7 => r = ((List.range 4).map (fun j => min (((List.range (4 * q + j + 1)).map a).sum) 0xFFFF * 2 ^ (16 * j))).sum
  | _ => r = 0

/-- One FAB cycle (R36, R65, R94, R99 to R106): tick and cycle rise by 1 and no object changes. In a station whose sector has a context,
while the FAB clock runs, every macrocell and every sink register loads its value, the traverse lines move on by one cycle (a fenced
sector's carry 0), and the Sum-and-Sort unit takes the opcode: its result is due 4 cycles later, a PREFIX's in 4 cycles, and an opcode
in the three cycles after a PREFIX is dropped and counted unless it is NOP. Every other station keeps its registers. `early` holds the
lane words that are due before their frame is complete. A traverse input shows its line 3 cycles later, 7 or 8 over an asynchronous
TRAVERSE crossing. -/
def Obligations.FabCycleLoads : Prop :=
  ∀ (ecc : List PortEcc) (early : List EarlyPair) (pins floating : BitVec 96) (s : State), s.cycleRuns = true →
    ∃ t, exec (.fabCycle ecc early pins floating) s = .next t ∧ t.time = { s.time with tick := s.time.tick + 1, cyc := s.time.cyc + 1 } ∧
      t.dict = s.dict ∧
      ∀ st, st < 256 →
        (¬(s.fabricRuns = true ∧ s.ctxOf (sectorOf st) < 8) →
          (t.station st).q = (s.station st).q ∧ (t.station st).sinks = (s.station st).sinks) ∧
        (s.fabricRuns = true → s.ctxOf (sectorOf st) < 8 →
          (∀ p m, p < 32 → m < 64 → MacrocellLoads s st p m ((t.station st).q.getLsbD (64 * p + m))) ∧
          (∀ i, i < 6389 → (t.station st).sinks.getLsbD i = SinkLoads { s with lan := { s.lan with early := early } } st i) ∧
          (∀ n, n < 64 → ((t.station st).lines.getD 0 0).getLsbD n =
            (!s.fenced (sectorOf st) && !s.stationReset st && (s.station st).sinks.getLsbD (5120 + n))) ∧
          (∀ n, n < 7 → (t.station st).lines.getD (n + 1) 0 = (s.station st).lines.getD n 0) ∧
          (∀ n, n < 64 → (bitOf (s.obj 0x2100 4) 0 = false → s.traverseDelay st n = 3) ∧
            (bitOf (s.obj 0x2100 4) 0 = true → s.traverseDelay st n = 7 ∨ s.traverseDelay st n = 8)) ∧
          (s.stationReset st = false →
            let op := bitsAt (s.station st).sinks.toNat 5472 4
            let gives := SsuGives op (s.obj (0x4000 + st) 0x10) (fun k => bitsAt (s.station st).sinks.toNat (5216 + 16 * k) 16)
            ((s.station st).ssuBusy = 0 → op % 8 ≠ 0 → op % 8 ≠ 7 →
              gives 0 (ssuValue (s.time.tick + 4) (t.station st).ssu) ∧ (t.station st).ssuBusy = 0) ∧
            ((s.station st).ssuBusy = 0 → op % 8 = 7 →
              (∀ q, q < 4 → gives q (ssuValue (s.time.tick + 4 + q) (t.station st).ssu)) ∧ (t.station st).ssuBusy = 3) ∧
            ((s.station st).ssuBusy ≠ 0 → (t.station st).ssuBusy = (s.station st).ssuBusy - 1 ∧
              (t.station st).ssuDrops = (if op % 8 = 0 then (s.station st).ssuDrops else satInc 32 (s.station st).ssuDrops) ∧
              (t.station st).ssu = (s.station st).ssu.filter (fun f => decide (s.time.tick < f.due)))))

/-- A datum marker (R41, R236, R400, Table 2-3), by the rows of the table: ignored while the loop coasts or relocks; in ALIGN it aligns
and ends the coast, with event 69; it aligns a device that is not yet aligned, on beat 0 without moving the datum, on another beat by
making that beat a datum beat with event 20; on another beat of a released device it raises event 19 and moves nothing. A worker hears
the DATUM bit of its lowest-numbered trained link, on the beat for which its manager sent it (the model's reading,
notes/assumptions/180.md), and takes its manager's counter from a later frame at each alignment. -/
def Obligations.DatumMarkers : Prop :=
  (∀ (g : Nat) (s : State), s.beatsRun = true → s.time.freshLock = false → s.rst.roleManager = false →
    (s.trainedLinks 0).head? = some g → (s.group g).datumHeard = true →
    (s.clk.lantern = .locked → s.mer.own = 1 → (s.group g).datumIndex = 0 →
      exec .datumMarker s = .next (settle (deferRaises { s.setGroup g { s.group g with datumHeard := false } with
        time := { s.time with aligned := true }, mer := { s.mer with own := 2, adoptDue := true } }))) ∧
    (s.clk.lantern = .locked → s.mer.own = 1 ∨ (s.mer.own = 4 ∧ s.mer.resumeAtDatum = false) ∨ s.released = false →
      (s.group g).datumIndex ≠ 0 →
      ∃ t, exec .datumMarker s = .next t ∧ t.time.aligned = true ∧ t.time.beat = 0 ∧ t.mer.adoptDue = true ∧
        t.mer.own = (if s.mer.own = 1 then 2 else t.mer.own) ∧ ∃ r ∈ t.ev.fabDue, r.event = 20) ∧
    (s.clk.lantern = .locked → s.released = true → s.mer.own ≠ 1 → s.mer.own ≠ 4 →
      exec .datumMarker s = .next (settle (deferRaises (raiseIf (decide ((s.group g).datumIndex ≠ 0)) 19
        (s.setGroup g { s.group g with datumHeard := false })))))) ∧
  ∀ s : State, s.beatsRun = true → s.time.freshLock = false → s.rst.roleManager = true → s.hearsMarkers = true →
    (s.clk.lantern = .coast ∨ s.clk.lantern = .relock → exec .datumMarker s = .next (settle (deferRaises s))) ∧
    (s.clk.lantern = .align → ∃ t, exec .datumMarker s = .next t ∧ t.clk.lantern = .locked ∧ t.time.aligned = true ∧ t.time.beat = 0 ∧
      (∃ r ∈ t.ev.fabDue, r.event = 69) ∧ (s.time.beat ≠ 0 → ∃ r ∈ t.ev.fabDue, r.event = 20)) ∧
    (s.clk.lantern = .locked → s.time.relStep = 0 → s.time.beat = 0 →
      exec .datumMarker s = .next (settle (deferRaises { s with time := { s.time with aligned := true } }))) ∧
    (s.clk.lantern = .locked → s.time.relStep = 0 → s.time.beat ≠ 0 →
      ∃ t, exec .datumMarker s = .next t ∧ t.time.aligned = true ∧ t.time.beat = 0 ∧ (∃ r ∈ t.ev.fabDue, r.event = 20) ∧
        t.time.rot = (if s.time.adopted then (s.time.rot + 1) % 2 ^ 64 else s.time.rot) ∧
        (s.clk.crossClear = false → ∀ idx sub, t.obj idx sub = s.projected false idx sub)) ∧
    (s.clk.lantern = .locked → 1 ≤ s.time.relStep → s.time.beat ≠ 0 →
      exec .datumMarker s = .next (settle (deferRaises (raise 19 s)))) ∧
    (s.clk.lantern = .locked → 1 ≤ s.time.relStep → s.time.beat = 0 → exec .datumMarker s = .next (settle (deferRaises s)))

/-! The on-chip network (chapters 7 and 10). -/

/-- A flit at a router input (R186 to R188, R253, R265): with a header double-bit error it is discarded with event 1281, one on its way
between two routers too; a scheduled flit in its slot goes on over its free link, to leave the next router two NOC cycles later; one that
comes outside its slot, or from a bank or ring over an asynchronous HOLD_NOC boundary (R178), is a slot miss, counted with event 35. That
such a flit is counted at the router at which it enters or leaves is the model's choice (notes/assumptions/44.md). -/
def Obligations.RouterFlits : Prop :=
  ∀ (r : Fin 64) (p : Fin 16) (f : Flit) (j : Fin 64) (e : EccClass) (s : State), s.l0Runs = true → portExists r.val p.val = true →
    (f.req = none → s.inFlight r.val p.val f = none → s.inputFull r.val p.val f = false →
      exec (.routerFlitIn r p f j .header e) s = .next (settle (raise 1281 { s with noc := { s.noc with
        discarded := satInc 32 s.noc.discarded } }))) ∧
    (∀ x, s.inFlight r.val p.val f = some x → x.owner = none →
      exec (.routerFlitIn r p f j .header e) s = .next (settle (raise 1281 { s with noc := { s.noc with
        flying := s.noc.flying.erase x, discarded := satInc 32 s.noc.discarded } }))) ∧
    (f.kind = 5 → f.sched = true → s.inFlight r.val p.val f = none → s.placeFenced (s.place f.addr) = false →
      portExists r.val (routeOut r.val f.dstRouter f.dstPort) = true → routeOut r.val f.dstRouter f.dstPort < 4 →
      let out := routeOut r.val f.dstRouter f.dstPort
      let before := Tbl.at [] s.noc.granted (16 * r.val + out)
      (j.val < s.M / 4 → bitOf (s.slotEntry r.val out j.val) 7 = true → s.slotEntry r.val out j.val % 16 = p.val →
        s.holdLate p.val out f = false → (s.beatsRun = true → s.nocCycle j.val ∉ before) →
        exec (.routerFlitIn r p f j .clean e) s = .next (settle { s with noc := { s.noc with
          flying := s.noc.flying ++ [⟨(neighbour r.val out).1, (neighbour r.val out).2, 0, f, 0, e,
            if s.beatsRun then s.nocCycle j.val + 2 else 0, false⟩]
          granted := if s.beatsRun then Tbl.upd [] s.noc.granted (16 * r.val + out)
              (s.nocCycle j.val :: before.filter (fun c => decide (s.nocCycle 0 ≤ c)))
            else s.noc.granted
          sent := Tbl.upd none s.noc.sent (16 * r.val + out) (some f) } })) ∧
      (bitOf (s.slotEntry r.val out j.val) 7 = false ∨ s.holdLate p.val out f = true →
        ∃ t, exec (.routerFlitIn r p f j .clean e) s = .next t ∧ t.con.slotMisses = satInc 32 s.con.slotMisses ∧
          t.con.lastMiss = r.val % 8 + r.val / 8 * 8 + out * 64 + j.val % 64 * 1024 ∧ ∀ a, t.readByte a = s.readByte a))

/-- A transaction ends (R258, R259), for a requester of the dictionary, configuration or security: a response that has crossed frees its tag
and changes nothing else; the answer of a transaction that has ended is discarded and counted, and so is a response for a tag that is free;
a response that never comes ends the transaction by timeout, with event 1282, and from then on no answer, no flit and no waiting request
belongs to the tag, so that a late answer cannot complete a later transaction. -/
def Obligations.TransactionsEnd : Prop :=
  ∀ (q : ReqId) (s : State), q.src = .dict ∨ q.src = .config ∨ q.src = .security → q.isStale = false →
    (∀ a, s.firstAnswer q = some a →
      (a.req = q → s.isOpen q = true → s.answerCrosses q = false →
        exec (.nocResponse q none) s = .next (settle { s with noc := { s.noc with
          txns := s.noc.txns.filter (fun t => decide (t.req ≠ q)), crossing := s.noc.crossing.filter (fun c => decide (c.1 ≠ q))
          answers := dropAnswer q s.noc.answers } })) ∧
      (a.req = q.stale → exec (.nocResponse q none) s = .next (settle { s with noc := { s.noc with
        late := satInc 32 s.noc.late, answers := dropAnswer q.stale s.noc.answers } }))) ∧
    (∀ x, s.firstAnswer q = none → s.isOpen q = false →
      exec (.nocResponse q (some x)) s = .next (settle { s with noc := { s.noc with late := satInc 32 s.noc.late } })) ∧
    (s.isOpen q = true → ∃ u, exec (.nocTimeout q) s = .next (settle (raise 1282 u)) ∧
      u.noc.timedOut = satInc 32 s.noc.timedOut ∧ u.noc.txns = s.noc.txns.filter (fun t => decide (t.req ≠ q)) ∧
      (∀ a ∈ u.noc.answers, a.req ≠ q) ∧ (∀ x ∈ u.meshFlits, x.owner ≠ some q) ∧
      (∀ h ∈ u.hold.units, ∀ x ∈ h.2.waiting, x.req = q → x.sched = true) ∧
      (∀ c ∈ u.dram.channels, ∀ x ∈ c.2.held ++ c.2.queued, x.req ≠ q) ∧
      u.dict = s.dict ∧ ∀ a, u.readByte a = s.readByte a)

/-- Fences of the host and their life (R264 to R266, Table 10-7): a request of a domain that the host may fence begins to drain; a drained
one is fenced with event 1285; a lift of a fenced one begins to lift, and is refused while the device holds the domain; the last
router's step opens it, and what the domain's requesters posted while it was fenced is issued. -/
def Obligations.FenceLife : Prop :=
  ∀ (p : Path) (s : State),
    (∀ w : BitVec 16, s.served = true → hostMayFence (bitsAt w.toNat 8 7) = true → bitOf w.toNat 0 = true →
      s.fenceState (bitsAt w.toNat 8 7) = 0 →
      exec (.fenceRequest p w) s = .next (settle (Acked p 0x3700 0x10 { s with noc := { s.noc with
        hostFence := setFenceBit s.noc.hostFence (bitsAt w.toNat 8 7) true
        fenceState := Tbl.upd 0 s.noc.fenceState (bitsAt w.toNat 8 7) 1 } }))) ∧
    (∀ w : BitVec 16, s.served = true → hostMayFence (bitsAt w.toNat 8 7) = true → bitOf w.toNat 0 = false →
      (s.noc.deviceFence.getLsbD (bitsAt w.toNat 8 7) = false → s.fenceState (bitsAt w.toNat 8 7) = 2 →
        exec (.fenceLift p w) s = .next (settle (Acked p 0x3700 0x10 { s with noc := { s.noc with
          hostFence := setFenceBit s.noc.hostFence (bitsAt w.toNat 8 7) false
          fenceState := Tbl.upd 0 s.noc.fenceState (bitsAt w.toNat 8 7) 4 } }))) ∧
      (s.noc.deviceFence.getLsbD (bitsAt w.toNat 8 7) = true →
        exec (.fenceLift p w) s = .next (settle (Aborted p 0x3700 0x10 abortBusy (raise 1287 s))))) ∧
    (∀ n : Fin 101, 17 ≤ n.val → n.val < 65 → s.pwr.transition ≠ 4 → s.fenceState n.val = 1 →
      (s.drained n.val = true → exec (.fenceAck n) s = .next (settle (raise 1285 { s with noc := { s.noc with
        fenceState := Tbl.upd 0 s.noc.fenceState n.val 2 } }))) ∧
      (s.drained n.val = false → (∀ x ∈ s.noc.txns, outbound n.val x = false) →
        ∃ t, exec (.fenceDrainForced n) s = .next t ∧ t.fenceState n.val = 3 ∧
          (∀ x ∈ s.noc.txns, s.inbound n.val x = true → ⟨x.req, .fenced, 0⟩ ∈ t.noc.answers) ∧
          ∀ a, t.readByte a = s.readByte a)) ∧
    (∀ n : Fin 101, s.fenceState n.val = 4 → exec (.fenceLiftDone n) s = .next (settle { s with noc := { s.noc with
      fenceState := Tbl.upd 0 s.noc.fenceState n.val 0
      txns := s.noc.txns.map (fun t => if requesterDomain t.req.src = some n.val then { t with held := false } else t) } }))

/-- Bulk moves (R268, R269, Tables 10-8 and 10-9a): a legal descriptor is queued, an illegal one refused; a move of one line within the
Keepers' pool copies it, changes no other byte, and leaves its completion record, with event 1288 when it asks for one. -/
def Obligations.BulkMoves : Prop :=
  ∀ (e : Fin 4) (s : State),
    (∀ (p : Path) (d : Line), s.served = true → moveLegal d.toNat = true → (s.mover e.val).queue.length < 16 →
      exec (.moveSubmit e (.path p) d) s = .next (settle (Acked p 0x3700 (0x20 + e.val)
        (s.setMover e.val { s.mover e.val with queue := (s.mover e.val).queue ++ [d] })))) ∧
    (∀ (p : Path) (d : Line), s.served = true → moveLegal d.toNat = false →
      exec (.moveSubmit e (.path p) d) s = .next (settle (Aborted p 0x3700 (0x20 + e.val) abortRange s))) ∧
    (∀ (d : Line) (rest : List Line), (s.mover e.val).queue = d :: rest → s.l0Runs = true → moveLength d.toNat = 64 →
      (∃ o, s.place (moveSrc d.toNat) = .pool o) → (∃ o, s.place (moveDst d.toNat) = .pool o) →
      s.placeFenced (s.place (moveSrc d.toNat)) = false → s.placeFenced (s.place (moveDst d.toNat)) = false →
      moveSrc d.toNat + 64 ≤ moveDst d.toNat ∨ moveDst d.toNat + 64 ≤ moveSrc d.toNat →
      CleanRequest s ⟨.move e, 0⟩ → (∀ a ∈ s.noc.answers, a.req ≠ ⟨.move e, 0⟩) →
      s.waitsAtTarget ⟨.move e, 0⟩ = false →
      ∃ u, exec (.moveDone e []) s = .next (settle (if moveNotify d.toNat then raise 1288 u else u)) ∧ (u.mover e.val).queue = rest ∧
        (u.mover e.val).records = (s.mover e.val).records.set (moveId d.toNat % 16) (moveId d.toNat * 2 ^ 112 + 2 ^ 22 + 8) ∧
        ∀ a, u.readByte a = if moveDst d.toNat ≤ a ∧ a < moveDst d.toNat + 64 then
          s.readByte (moveSrc d.toNat + (a - moveDst d.toNat)) else s.readByte a)

/-! The lanes (chapter 8). -/

/-- `u` is `s` but for group `g` and its lanes. -/
def LaneOnly (g : Nat) (s u : State) : Prop :=
  u = { s with lan := u.lan } ∧ (∀ h, h ≠ g → u.group h = s.group h) ∧ ∀ i, i / 8 ≠ g → u.lane i = s.lane i

/-- A training that fails: FAULT, TRAIN_FAIL, event 128 + 4g, and the claim of the training free. -/
def TrainingFails (g : Nat) (s : State) (o : Host.Outcome State Fault Refusal) : Prop :=
  let x := s.group g
  ∃ u, o = .next (settle u) ∧ LaneOnly g (raise (128 + 4 * g) s) u ∧ u.group g = { x with
    rx := .fault, causes := x.causes ||| 64
    claim := if x.claim = .adaptation then .none else x.claim
    adaptAsked := if x.claim = .adaptation then false else x.adaptAsked }

/-- Training starts without a claim held: CLOCK, the trained relation ended, and adaptation claimed if asked for. A carriage keeps its
sequence numbers, and expects the next one only where the group was in UP (the model's choice, log 159). -/
def TrainingStarts (g : Nat) (adapt : Bool) (s : State) (o : Host.Outcome State Fault Refusal) : Prop :=
  let x := s.group g
  ∃ u, o = .next (settle u) ∧ LaneOnly g s u ∧ u.group g = { x with
    rx := .clock, trained := false, datumSeen := false, datumHeard := false, wake := 0, keepSeen := false
    carKnown := x.carKnown && decide (x.rx = .up), carBeatFlit := none, adaptAsked := adapt
    claim := if adapt then .adaptation else .none }

/-- Receive training of a lane group without a scan (R209 to R212, R214, R218, Table 8-5): CLOCK goes to LOCK, or to ADAPT which writes
the best equaliser combination; LOCK, DESKEW and SHALLOW end by their timeouts; a deskewed detector group reaches UP within
the skew limit and fails beyond it; a request or auto-retrain starts training. -/
def Obligations.LaneTraining : Prop :=
  ∀ (g : Fin 32) (s : State), s.laneServes g.val = true → (s.group g.val).scanning = false →
    let x := s.group g.val
    (x.rx = .clock → x.adaptAsked = false → ∃ u, exec (.laneClockOk g) s = .next (settle u) ∧ LaneOnly g.val s u ∧
      u.group g.val = { x with rx := .lock } ∧ ∀ l, l < 8 → (u.lane (8 * g.val + l)).run = 0) ∧
    (x.rx = .clock → x.adaptAsked = true → x.claim = .adaptation →
      exec (.laneClockOk g) s = .next (settle (s.setGroup g.val { x with rx := .adapt }))) ∧
    (∀ steps, x.rx = .adapt → ∃ u words, exec (.laneAdaptDone g steps) s = .next (settle u) ∧
      LaneOnly g.val (s.setObj (0x3500 + g.val) 9 words) u ∧ u.group g.val = { x with rx := .lock } ∧
      ∀ (l : Nat) (tried : List Nat), l < 8 → s.laneEnabled g.val l = true → steps[l]? = some tried →
        ∃ best < 64, bitsAt words (16 * l) 4 = best / 4 ∧ bitsAt words (16 * l + 4) 2 = best % 4 ∧
          (∀ k < 64, tried.getD k 0 ≤ tried.getD best 0) ∧ ∀ k < best, tried.getD k 0 < tried.getD best 0) ∧
    (x.rx = .lock → TrainingFails g.val s (exec (.laneLockTimeout g) s)) ∧
    (x.rx = .deskew → s.isMerig g.val = true → s.manager = true → TrainingFails g.val s (exec (.merigAlignTimeout g) s)) ∧
    (∀ m : Deskew, x.rx = .deskew →
      let arrive := arrivalsOf (s.laneObj g.val 6) m.arrival
      (128 < highInt arrive - lowInt arrive → TrainingFails g.val s (exec (.laneDeskewDone g m) s)) ∧
      (highInt arrive - lowInt arrive ≤ 128 → s.isMerig g.val = false → ∃ u y, exec (.laneDeskewDone g m) s = .next (settle u) ∧
        LaneOnly g.val (raise (130 + 4 * g.val) s) u ∧ y = u.group g.val ∧ y.rx = .up ∧ y.trained = true ∧
        y.trainings = wrapInc 32 x.trainings ∧ (0 < s.fabPerBeat → 4 ≤ y.marginTrained) ∧
        ∀ l, l < 8 → s.laneEnabled g.val l = true →
          y.deskew.getD l 0 = m.arrival.getD l 0 - (lowInt arrive + highInt arrive) / 2)) ∧
    (x.rx = .lost → s.laneObj g.val 0xB = 1 → x.claim = .none →
      TrainingStarts g.val (decide (s.laneObj g.val 0xC = 1)) s (exec (.laneAutoRetrain g) s)) ∧
    (x.rx = .shallow → s.lanePower g.val = 0 → s.isMerig g.val = false → ∃ u, exec (.laneShallowTimeout g) s = .next (settle u) ∧
      LaneOnly g.val (raise (128 + 4 * g.val) s) u ∧
      u.group g.val = { x with rx := .lost, causes := x.causes ||| 16 }) ∧
    (∀ p : Path, s.served = true → x.rx ≠ .deep →
      (x.claim = .none → TrainingStarts g.val false (Acked p (0x3500 + g.val) 0xA s) (exec (.laneTrainingRequest p g 1) s) ∧
        TrainingStarts g.val true (Acked p (0x3500 + g.val) 0xA s) (exec (.laneTrainingRequest p g 2) s)) ∧
      (x.claim = .deepSleep → ∃ u, exec (.laneTrainingRequest p g 2) s = .next (settle u) ∧
        LaneOnly g.val (raise (131 + 4 * g.val) (Acked p (0x3500 + g.val) 0xA s)) u ∧ (u.group g.val).rx = .clock ∧
        (u.group g.val).adaptAsked = false ∧ (u.group g.val).causes = x.causes ||| 512 ∧ (u.group g.val).lastRefusal = 6))

/-- A frame of an enabled lane of a group in UP (R205 to R208, R230, Table 8-4): one that passes every check is delivered as
received; a missing frame, a failed CRC, a broken sequence or DARK is replaced by dark words (on a Merig lane a failed CRC keeps
the primitive words), counted with its cause; one with COAST is delivered and counted with its cause. No byte of memory and no object changes. -/
def Obligations.LaneFrames : Prop :=
  ∀ (i : Fin 256) (bits : Option (BitVec 400)) (margin : Nat) (s : State),
    let g := i.val / 8
    let l := i.val % 8
    let n := s.nui g
    let x := s.group g
    let f := bits.map (fun b =>
      let y := lineCode n l (decide (s.laneObj g 7 = 1)) (bitOf (s.laneObj g 8) l) (b.toNat % 2 ^ n)
      readFrame n y (framePayload n y))
    s.laneServes g = true → s.beatsRun = true → s.laneEnabled g l = true → (s.lane i.val).seen = false →
    (s.lane i.val).waits = none → x.rx = .up → s.rxMixed g = false →
    (s.isMerig g = true → ∃ k < 8, k ≠ l ∧ s.laneEnabled g k = true ∧ (s.lane (8 * g + k)).good = false) →
      (∀ r, f = some r → rxCase (s.lane i.val) f = .plain → ctlDatum r.ctl = false →
        ∃ u, exec (.laneFrameReceived i bits margin) s = .next (settle u) ∧ LaneOnly g s u ∧
          u.group g = { x with delivered := wrapInc 64 x.delivered, margin := margin, wander := x.wander || s.wanders margin } ∧
          (u.lane i.val).payload = r.payload ∧ (u.lane i.val).seen = true ∧
          ∀ j, j ≠ i.val → u.lane j = s.lane j) ∧
      (∀ r c, f = some r → rxCase (s.lane i.val) f = c → c = .dark ∨ c = .coast → ctlDatum r.ctl = false →
        ∃ t, exec (.laneFrameReceived i bits margin) s = .next t ∧ (∀ a, t.readByte a = s.readByte a) ∧ t.dict = s.dict ∧
          (t.group g).replaced = (if c = .dark then satInc 32 x.replaced else x.replaced) ∧
          (t.group g).coasted = (if c = .coast then satInc 32 x.coasted else x.coasted) ∧
          (t.group g).delivered = (if c = .coast then wrapInc 64 x.delivered else x.delivered) ∧
          (t.group g).syncErrs = x.syncErrs ∧ (t.group g).crcErrs = x.crcErrs ∧ (t.group g).seqErrs = x.seqErrs ∧
          (t.group g).causes = x.causes ||| (if c = .dark then laneDarkRx else laneCoastRx) ∧
          (t.lane i.val).payload = (if c = .dark then s.darkOf g else r.payload)) ∧
      (∀ c, rxCase (s.lane i.val) f = c → c = .sync ∨ c = .crc ∨ c = .seq →
        ∃ t, exec (.laneFrameReceived i bits margin) s = .next t ∧ (∀ a, t.readByte a = s.readByte a) ∧ t.dict = s.dict ∧
          (t.group g).replaced = satInc 32 x.replaced ∧ (t.group g).delivered = x.delivered ∧
          (t.group g).syncErrs = (if c = .sync then satInc 32 x.syncErrs else x.syncErrs) ∧
          (t.group g).crcErrs = (if c = .crc then satInc 32 x.crcErrs else x.crcErrs) ∧
          (t.group g).seqErrs = (if c = .seq then satInc 32 x.seqErrs else x.seqErrs) ∧
          (t.group g).causes = x.causes ||| (if c = .crc then 1 else if c = .sync then 2 else 4) ∧
          (t.lane i.val).bad = (s.lane i.val).bad + 1 ∧
          (t.lane i.val).payload = (if s.isMerig g = true ∧ c = .crc then
            withBits (s.darkOf g) 0 256 ((f.map (fun r => r.payload)).getD 0 % 2 ^ 256) else s.darkOf g))

/-- Loops and the eye scan of a group (R209, R215 to R218, R222, R402): a loop locks, and the second of a group in DEEP starts training;
one that unlocks silences its lanes and leaves LANE_UNLOCK and event 71; a scan request takes the claim, a point adds a record of each selected lane,
the last one ends the scan with state 3. With DEST 1 a row whose write comes to its bank is stored there and counted; a write that ends
otherwise ends the scan with state 6. -/
def Obligations.LaneLoopsAndScan : Prop :=
  (∀ (q : Fin 64) (s : State),
    let g := q.val / 2
    (s.beatsRun = true → s.l0Runs = true → s.lanePower g ≠ 2 → (s.group g).rx ≠ .deep →
      exec (.laneLoopLocked q) s = .next (settle { s with clk := { s.clk with
        loops := s.clk.loops ||| BitVec.ofNat 64 (2 ^ q.val) } })) ∧
    (s.beatsRun = true → s.laneServes g = true → s.lanePower g = 0 → (s.group g).rx = .deep → (s.group g).scanning = false →
      s.loopLocked g (1 - q.val % 2) = true → (s.group g).claim = .none ∨ (s.group g).claim = .deepSleep →
      TrainingStarts g (decide (s.laneObj g 0xC = 1))
        { s with clk := { s.clk with loops := s.clk.loops ||| BitVec.ofNat 64 (2 ^ q.val) } } (exec (.laneLoopLocked q) s)) ∧
    (s.clk.loops.getLsbD q.val = true → ∃ t, exec (.laneLoopUnlock q) s = .next (settle (raise 71 t)) ∧
      t = { s with clk := { s.clk with loops := t.clk.loops, causes := s.clk.causes ||| 16 }, lan := t.lan } ∧
      (∀ h, t.group h = s.group h) ∧
      (∀ i, t.lane i = if i / 4 = q.val then { s.lane i with txWait := [], txFrame := none } else s.lane i) ∧
      ∀ k < 64, t.clk.loops.getLsbD k = (s.clk.loops.getLsbD k && decide (k ≠ q.val)))) ∧
  (∀ (p : Path) (g : Fin 32) (data : List Byte) (s : State), s.served = true → data.length = 16 →
    (scanOk (ofBytes data) = true → (s.group g.val).claim = .none →
      exec (.eyeScanRequest p g data) s = .next (settle (Acked p (0x3500 + g.val) 0x17 (s.setGroup g.val { s.group g.val with
        claim := .eyeScan
        scan := { scanOf (ofBytes data) with state := if (s.group g.val).rx = .shallow then 2 else 1 } })))) ∧
    (scanOk (ofBytes data) = true → (s.group g.val).claim = .adaptation → (s.group g.val).scanning = false →
      ∃ u, exec (.eyeScanRequest p g data) s = .next (settle u) ∧
        LaneOnly g.val (raise (131 + 4 * g.val) (Aborted p (0x3500 + g.val) 0x17 abortBusy s)) u ∧
        (u.group g.val).claim = .adaptation ∧ (u.group g.val).lastRefusal = 1 ∧ (u.group g.val).scan.state = 5)) ∧
  (∀ (g : Fin 32) (counts : List Nat) (s : State),
    let x := s.group g.val
    let c := x.scan
    c.state = 1 → c.ph ≤ c.phMax → c.toHold = false →
      ∃ u y, exec (.eyeScanPointDone g counts) s = .next (settle u) ∧ y = u.group g.val ∧
        y.scan.results.length = c.results.length + 8 * ((List.range 8).filter (bitOf c.lanes)).length ∧
        (∃ more, y.scan.results = c.results ++ more) ∧
        (c.v + c.vStep ≤ c.vMax → LaneOnly g.val s u ∧ y.claim = x.claim ∧ y.scan.state = 1 ∧ y.scan.v = c.v + c.vStep ∧
          y.scan.ph = c.ph) ∧
        (c.vMax < c.v + c.vStep → c.phMax < c.ph + c.phStep →
          LaneOnly g.val (raise (130 + 4 * g.val) s) u ∧ y.claim = .none ∧ y.scan.state = 3)) ∧
  ∀ (g : Fin 32) (status : Status) (s : State),
    let x := s.group g.val
    let c := x.scan
    c.state = 1 → c.toHold = true → c.written < min c.total (8 * c.outRow) →
      let ends := fun (st : Status) (s1 s2 : State) =>
        if st ≠ .ok then
          LaneOnly g.val (raise (131 + 4 * g.val) s1) s2 ∧ (s2.group g.val).claim = .none ∧ (s2.group g.val).scan.state = 6
        else if c.measured = true ∧ c.total ≤ c.written + 8 then
          LaneOnly g.val (raise (130 + 4 * g.val) s1) s2 ∧ (s2.group g.val).claim = .none ∧ (s2.group g.val).scan.state = 3
        else LaneOnly g.val s1 s2 ∧ (s2.group g.val).claim = x.claim ∧
          (s2.group g.val).scan.written = min c.total (c.written + 8) ∧ (s2.group g.val).scan.state = 1
      (∀ st rest, c.answers = st :: rest → ∃ u, exec (.eyeScanRecordWriteDone g status) s = .next (settle u) ∧ ends st s u ∧
        (u.group g.val).scan.answers = rest) ∧
      (∀ tx, c.answers = [] → s.noc.txns.find? (fun y => decide (y.req.src = .eyeScan g) && !y.entered) = some tx →
        (status ≠ .ok → ∃ u, exec (.eyeScanRecordWriteDone g status) s = .next (settle u) ∧ ends status (closeTxn tx.req s) u) ∧
        (status = .ok → holdBase ≤ tx.addr → tx.addr < holdEnd → tx.addr % 64 = 0 →
          HoldPortFree s (unitAt tx.addr).1 (unitAt tx.addr).2 16 → CleanRequest s tx.req → (∀ a ∈ s.noc.answers, a.req ≠ tx.req) →
          ∃ t, exec (.eyeScanRecordWriteDone g .ok) s = .next t ∧ t.isOpen tx.req = false ∧
            (t.group g.val).scan.state = (if c.measured = true ∧ c.total ≤ c.written + 8 then 3 else 1) ∧
            ∀ a, t.readByte a = if tx.addr ≤ a ∧ a < tx.addr + 64 then BitVec.ofNat 8 (byteAt tx.data (a - tx.addr))
              else s.readByte a))

/-! Merig (chapter 9), and what a reset leaves (chapter 17). -/

/-- A warm reset with a cause, submitted on a path, leaves (R429, R434, Table 17-2): the cause logged, the part and the beat clock as
they were, objects of the classes Service and Reset as they were and the others at their Defaults, hold and Keeper memory
empty, no context selected, and the start-up begun at step 6. -/
def WarmResetLeaves (cause : Nat) (multi : Bool) (path : Nat) (s t : State) : Prop :=
  t.rst.phase = .starting ∧ t.part = s.part ∧ t.backup.resets = satInc 32 s.backup.resets ∧
  (∃ b, t.backup.causes = (⟨s.time.rot, b, cause, true, multi, path⟩ :: s.backup.causes).take 8) ∧
  t.time.beat = s.time.beat ∧ t.time.rot = 0 ∧ t.time.relStep = 0 ∧ t.dev = .service ∧ t.mem = [] ∧
  (∀ k, k < 16 → t.ctxOf k = 8) ∧ t.can.nmt = .initialisation ∧ t.stg.pend = [] ∧
  ∀ idx sub r, objRow idx sub = some r → sub < 256 → (idx, sub) ≠ (0x1F80, 0) → (idx, sub) ≠ (0x3100, 1) →
    (r.cls = .service ∨ r.cls = .reset → t.obj idx sub = s.obj idx sub) ∧
    (r.cls ≠ .service → r.cls ≠ .reset → (idx, sub) ≠ (0x2100, 4) → t.obj idx sub = State.reset.obj idx sub)

/-- A cold reset with a cause leaves (R29, R429, R434): the cause logged; the part and what lies outside the block as they were; the ROLE
ball, at `role`, sampled; everything else as power-on reset leaves it with the option image loaded, and the oscillator being judged. -/
def ColdResetLeaves (cause : Nat) (multi role : Bool) (path : Nat) (s t : State) : Prop :=
  t.rst.phase = .xoJudging ∧ t.part = s.part ∧ t.rst.roleStrap = role ∧ t.pins.ext = s.pins.ext ∧
  t.backup.resets = satInc 32 s.backup.resets ∧ t.backup.lost = false ∧ t.backup.shutdowns = 0 ∧
  (∃ b, t.backup.causes = (⟨s.time.rot, b, cause, false, multi, path⟩ :: s.backup.causes).take 8) ∧
  t.time.beat = 0 ∧ t.time.rot = 0 ∧ t.dev = .service ∧ t.mem = [] ∧ t.memGen = 0 ∧ t.noc.txns = [] ∧ t.hold = {} ∧
  t.stg = {} ∧ t.cfg.frames = [] ∧ (∀ k, k < 16 → t.ctxOf k = 8) ∧ (∀ g, t.group g = {}) ∧ t.can.nmt = .initialisation ∧
  t.sec.life = max s.nvm.otpState s.backup.lifeCopy ∧ t.nvm.otpState = t.sec.life ∧ t.backup.lifeCopy = t.sec.life

/-- The carriage, remote reset and the loss of a link (R238, R240, R242): a flit in order with no double error is acknowledged, a
response goes to its requester, or as a late one to a transaction that has ended, a double error asks for a resend; the oldest
unacknowledged flit is sent again, and dropped after four times; a reset order marks every link of the worker; a worker that has received
it performs it as a warm reset where it is allowed; the loss of the only link makes the worker DARK and fences its windows. That the flits
after a dropped one take its number, and how long a loss counts as the order's (`resetUntil`), are the model's choices
(notes/assumptions/193.md and 181.md). -/
def Obligations.MerigLink : Prop :=
  (∀ (g : Fin 32) (err : FlitErr) (s : State) (seq : Nat) (f : Flit),
    let x := s.group g.val
    x.carBeatFlit = some (seq, f) →
      (err = .header ∨ err = .payload → ∃ u, exec (.carriageFlitReceived g err) s = .next (settle u) ∧ LaneOnly g.val s u ∧
        u.group g.val = { x with carBeatFlit := none, carNak := true }) ∧
      (∀ q, err = .clean → seq = (x.carSeqRx + 1) % 16 → f.isResponse = true → f.req = some q → (q, f.addr) ∉ s.noc.absorb →
        ∃ t, exec (.carriageFlitReceived g err) s = .next t ∧
          t.group g.val = { x with carBeatFlit := none, carSeqRx := seq, carNak := false, carKnown := true } ∧
          (q ∉ s.noc.pathCorrected → (q, f.addr) ∉ s.noc.orphans → s.awaits q f.addr = true →
            t.noc.answers = s.noc.answers ++ [⟨q, statusOf f.status, f.payload⟩]) ∧
          (q.stale ∉ s.noc.pathCorrected → (q, f.addr) ∈ s.noc.orphans →
            t.noc.answers = s.noc.answers ++ [⟨q.stale, statusOf f.status, f.payload⟩] ∧
            t.noc.orphans = s.noc.orphans.erase (q, f.addr))) ∧
      (err = .clean → x.carKnown = true → seq ≠ (x.carSeqRx + 1) % 16 → ∃ u, exec (.carriageFlitReceived g err) s = .next (settle u) ∧
        LaneOnly g.val s u ∧ u.group g.val = { x with carBeatFlit := none })) ∧
  (∀ (g : Fin 32) (s : State) (seq n : Nat) (f : Flit) (rest : List (Nat × Nat × Flit)),
    let x := s.group g.val
    x.carOut = (seq, n, f) :: rest → 16 ≤ x.carIdle →
      (n < 4 → exec (.carriageResendTimeout g) s =
        .next (settle (s.setGroup g.val { x with carNext := 0, carIdle := 0 }))) ∧
      (4 ≤ n → f.isRequest = false → seq < 16 → ∃ u, exec (.carriageResendTimeout g) s = .next (settle u) ∧
        LaneOnly g.val (raise (1155 + 4 * s.linkWorker g.val)
          { s with mer := { s.mer with dropped := satInc 32 s.mer.dropped } }) u ∧
        (u.group g.val).carOut.map Prod.snd = rest.map Prod.snd ∧
        ∀ k, k < rest.length → ((u.group g.val).carOut.map Prod.fst)[k]? = some ((seq + k) % 16))) ∧
  (∀ (p : Path) (w : Fin 32) (s : State), s.served = true → s.manager = true →
    (s.workerServes w.val = true → ∃ t, exec (.remoteResetOrder p w 1) s = .next t ∧
      t.worker w.val = { s.worker w.val with resetSent := true, resetUntil := s.time.tick + 72 * s.fabPerBeat } ∧ t.dict = s.dict ∧
      ∀ g, g < 32 → t.group g = if s.linkByte g = w.val then { s.group g with cmdFrames := 8 } else s.group g) ∧
    (s.workerServes w.val = false →
      exec (.remoteResetOrder p w 1) s = .next (settle (Aborted p (0x5000 + w.val) 7 abortState s)))) ∧
  (∀ (multi : Bool) (s : State), s.manager = false →
    (s.mer.cmdDue = false → exec (.remoteResetCommand multi) s = .next (settle s)) ∧
    (s.mer.cmdDue = true → s.obj 0x3600 6 = 1 → s.rst.phase = .service →
      ∃ t, exec (.remoteResetCommand multi) s = .next t ∧ WarmResetLeaves 6 multi 0 s t) ∧
    (s.mer.cmdDue = true → s.obj 0x3600 6 ≠ 1 → exec (.remoteResetCommand multi) s =
      .next (settle (raise (1155 + 4 * (s.mer.wnum % 32)) { s with mer := { s.mer with cmdDue := false } })))) ∧
  ∀ (g : Fin 32) (w : Nat) (s : State), s.manager = true → s.isMerig g.val = true → (s.group g.val).linked = true →
    (s.group g.val).rx = .shallow → s.lanePower g.val = 0 → s.linkByte g.val = w → w < 32 → s.linkedLinks w = [g.val] →
    (s.worker w).state = 2 → (s.worker w).relayOpen = none →
      ∃ t, exec (.laneShallowTimeout g) s = .next t ∧ (t.group g.val).rx = .lost ∧ (t.group g.val).trained = false ∧ (t.group g.val).linked = false ∧
        (t.worker w).state = 4 ∧ (t.worker w).darkEntries = satInc 32 (s.worker w).darkEntries ∧ t.fenced (69 + w) = true

/-- The dictionary relay and chain loads (R243, R246, R358, Tables 9-5 and 9-6): a transfer to a worker queues its request words and
waits; its response, or the timeout, answers its path; a worker takes a received request into its idle engine; a chain load
runs on the selected workers and ends with the result of each, 6 for one without a result. -/
def Obligations.MerigRelay : Prop :=
  (∀ (p : Path) (w : Fin 32) (write : Option (List Byte)) (s : State), s.served = true → s.manager = true →
    let x := s.worker w.val
    (s.workerServes w.val = true → x.relayOpen = none →
      let txn := (x.relayTxn + 1) % 16
      let data := write.getD []
      exec (.relayTransfer p w write) s = .next (settle (s.setWorker w.val { x with
        relayOpen := some (p, write.isSome), relayTxn := txn
        relayOut := x.relayOut ++ (2 ^ 60 + txn * 2 ^ 56 + bitsAt x.target 16 16 * 2 ^ 40 + bitsAt x.target 8 8 * 2 ^ 32 +
          b2n write.isSome * 2 ^ 31 + data.length % 2 ^ 24) :: relayDataWords txn data }))) ∧
    (s.workerServes w.val = true → x.relayOpen.isSome = true →
      exec (.relayTransfer p w write) s = .next (settle (Aborted p (0x5000 + w.val) 0x11 abortBusy s)))) ∧
  (∀ (w : Fin 32) (p : Path) (write : Bool) (s : State), (s.worker w.val).relayOpen = some (p, write) → s.eng.jobs = [] → s.can.rx = [] →
    let x := s.worker w.val
    let f := { s with can := { s.can with sent := [] } }
    (∀ data, write = false → exec (.relayResponse w 0 data) s = .next (settle (reply p.code (0x5000 + w.val) 0x11 0 0 data
      (f.setWorker w.val { x with relayOpen := none, relayData := data })))) ∧
    (∀ (code : BitVec 32) (data : List Byte), code ≠ 0 → exec (.relayResponse w code data) s =
      .next (settle (raise (1155 + 4 * w.val) (Aborted p (0x5000 + w.val) 0x11 code.toNat
        (f.setWorker w.val { x with relayOpen := none, relayAbort := code.toNat }))))) ∧
    exec (.relayTimeout w) s = .next (settle (Aborted p (0x5000 + w.val) 0x11 0x05040000
      (raise (1155 + 4 * w.val) (f.setWorker w.val { x with relayOpen := none, relayAbort := 0x05040000, relayOut := [] }))))) ∧
  (∀ (txn : Fin 16) (index : BitVec 16) (sub : BitVec 8) (write : Option (List Byte)) (s : State),
    s.manager = false → s.served = true → s.eng.jobs = [] → s.eng.current = none →
      ∃ t, exec (.relayRequestReceived txn index sub write) s = .next t ∧ t.eng.jobs = [] ∧ (t.session 2).pos = txn.val ∧
        t.mer = s.mer ∧ t.eng.answers = s.eng.answers ∧ ∃ j, t.eng.current = some j ∧ j.client = 2 ∧ j.index = index.toNat ∧
          j.sub = sub.toNat ∧ j.kind = match write with
            | some d => .write d
            | none => .readRest) ∧
  (∀ (p : Path) (data : List Byte) (answering : BitVec 32) (s : State),
    let v := ofBytes data
    s.served = true → s.manager = true → s.mer.chainRunning = false → data.length = 16 → v % 2 ^ 32 ≠ 0 →
    bitsAt v 64 64 % 64 = 0 →
      (v % 2 ^ 32 &&& answering.toNat = v % 2 ^ 32 → exec (.chainLoadRequest p data answering) s =
        .next (settle (Acked p 0x3600 0x11 { s with mer := { s.mer with
          chainRunning := true, chainWorkers := v % 2 ^ 32, chainLength := bitsAt v 32 32, chainAddr := bitsAt v 64 64
          chain := (List.range 32).map (fun w => if bitOf v w then 1 else s.mer.chain.getD w 0) } }))) ∧
      (v % 2 ^ 32 &&& answering.toNat ≠ v % 2 ^ 32 → exec (.chainLoadRequest p data answering) s =
        .next (settle (Aborted p 0x3600 0x11 0x08000000 s)))) ∧
  ∀ (results : List (Fin 32 × Fin 7)) (s : State), s.mer.chainRunning = true → s.mer.chain.length = 32 →
    ∃ chain, exec (.chainLoadDone results) s =
        .next (settle { s with mer := { s.mer with chainRunning := false, chainWorkers := 0, chain := chain } }) ∧
      ∀ w : Fin 32, (bitOf s.mer.chainWorkers w.val = false → chain[w.val]? = s.mer.chain[w.val]?) ∧
        (bitOf s.mer.chainWorkers w.val = true → (∀ r ∈ results, r.1 ≠ w) → chain[w.val]? = some 6) ∧
        ∀ v, bitOf s.mer.chainWorkers w.val = true → results.find? (fun r => decide (r.1 = w)) = some (w, v) →
          chain[w.val]? = some v.val

/-! The archive (chapter 11). -/

/-- `u` is `s` but for channel `c`'s registers. -/
def ChannelOnly (c : Nat) (s u : State) : Prop :=
  u = { s with dram := { s.dram with channels := u.dram.channels } } ∧ ∀ d, d ≠ c → u.channel d = s.channel d

/-- A request at offset `off` of channel `c` is performed at once: the channel is READY with a key, open and out of reset, and has no
archive flit buffered. -/
def ChannelOpen (s : State) (c off : Nat) : Prop :=
  s.l0Runs = true ∧ s.obj 0x3800 2 ≠ 0 ∧ (s.channel c).state = .ready ∧ (s.channel c).keylessAt off = false ∧
  (s.channel c).buffer = [] ∧ s.fenced (17 + c) = false ∧ s.dramInReset c = false

/-- Reads and writes of the DRAM (R253, R278 to R282, Table 11-5): a clean line reads as its two halves; a corrected half is counted and
answered OK_CORRECTED; a half with errors in two nibbles is answered DATAERR; a line written reads back through scrambling; a word write
changes the enabled bytes alone; no other sub-burst changes. A write that arrived bad is not performed and answered DATAERR: that the
POISON which R281 gives a marked write is that of scheduled data alone is the model's reading (notes/assumptions/170.md). The data of a
write is what its requester posted, or the command's. -/
def Obligations.DramAccesses : Prop :=
  ∀ (q : ReqId) (addr : BitVec 48) (c off : Nat) (s : State),
    let o := off / 64 * 64
    let b := addr.toNat / 64 * 64
    s.place addr.toNat = .dram c off → ChannelOpen s c off → CleanRequest s q →
    (addr.toNat % 64 = 0 →
      (∀ lo hi, s.subOutcome c o b .clean = ⟨lo, .ok⟩ → s.subOutcome c (o + 32) (b + 32) .clean = ⟨hi, .ok⟩ →
        (∃ t, exec (.dramRead q addr .clean .clean) s = .next t ∧ t.noc.answers = s.noc.answers ++ [⟨q, .ok, hi ++ lo⟩] ∧
          t.dram.cells = s.dram.cells ∧ (t.channel c).corrected = (s.channel c).corrected) ∧
        (∃ t, exec (.dramRead q addr .clean .one) s = .next t ∧
          t.noc.answers = s.noc.answers ++ [⟨q, .okCorrected, hi ++ lo⟩] ∧ t.dram.cells = s.dram.cells ∧
          (t.channel c).corrected = satInc 32 (s.channel c).corrected ∧ (t.channel c).causes = (s.channel c).causes ||| 1) ∧
        ∀ m, ∃ t d, exec (.dramRead q addr (.many m) .clean) s = .next t ∧
          t.noc.answers = s.noc.answers ++ [⟨q, .dataerr, d⟩] ∧ t.dram.cells = s.dram.cells ∧
          (t.channel c).uncorrectable = satInc 32 (s.channel c).uncorrectable ∧
          (t.channel c).causes = (s.channel c).causes ||| 2 ∧ (t.channel c).lastError = b % 2 ^ 48 * 2 ^ 16 + 1) ∧
      ∀ data : Line,
        (∀ k, (s.channel c).current = some k → ∃ t, exec (.dramWriteLine q addr data false) s = .next t ∧
          t.noc.answers = s.noc.answers ++ [⟨q, .ok, 0⟩] ∧
          t.subOutcome c o b .clean = ⟨(BitVec.ofNat 512 (s.carries q data.toNat)).extractLsb' 0 256, .ok⟩ ∧
          t.subOutcome c (o + 32) (b + 32) .clean = ⟨(BitVec.ofNat 512 (s.carries q data.toNat)).extractLsb' 256 256, .ok⟩ ∧
          bitOf (t.channel c).tagMap (s.channel c).epoch = true ∧
          ∀ n, n ≠ cellKey c o → n ≠ cellKey c (o + 32) → Tbl.at none t.dram.cells n = Tbl.at none s.dram.cells n) ∧
        ∃ t, exec (.dramWriteLine q addr data true) s = .next t ∧ t.noc.answers = s.noc.answers ++ [⟨q, .dataerr, 0⟩] ∧
          t.dram.cells = s.dram.cells ∧ (t.channel c).tagMap = (s.channel c).tagMap) ∧
    (addr.toNat % 4 = 0 → ∀ (data : BitVec 32) (be : BitVec 4) (d : BitVec 256),
      s.subOutcome c (off / 32 * 32) (addr.toNat / 32 * 32) .clean = ⟨d, .ok⟩ →
        (∀ k, (s.channel c).current = some k → ∃ t e, exec (.dramWriteWord q addr data be .clean false) s = .next t ∧
          t.noc.answers = s.noc.answers ++ [⟨q, .ok, 0⟩] ∧
          t.subOutcome c (off / 32 * 32) (addr.toNat / 32 * 32) .clean = ⟨e, .ok⟩ ∧
          (∀ j, j < 32 → byteAt e.toNat j = if j / 4 = off % 32 / 4 ∧ bitOf be.toNat (j % 4) = true
            then byteAt (s.carries q data.toNat) (j % 4) else byteAt d.toNat j) ∧
          ∀ n, n ≠ cellKey c off → Tbl.at none t.dram.cells n = Tbl.at none s.dram.cells n) ∧
        ∃ t, exec (.dramWriteWord q addr data be .clean true) s = .next t ∧ t.noc.answers = s.noc.answers ++ [⟨q, .dataerr, 0⟩] ∧
          t.dram.cells = s.dram.cells)

/-- States of a channel and its claim (R275, R285 to R292, Table 11-4): a free claim is taken by a retraining, a full training or a sweep
of refresh management, a held one refuses with event 1030 + 8c; a training ends READY (in self-refresh again while the device is in QUIET
or DEEP) with event 1029 + 8c, or FAULTY and fenced; refresh, self-refresh, parity alerts and a new data rate do what their rules say, on
this channel alone; a data rate is refused while a channel that it would retrain holds a claim. -/
def Obligations.DramChannelStates : Prop :=
  ∀ (c : Fin 16) (p : Path) (s : State), s.obj 0x3800 2 ≠ 0 →
    let x := s.channel c.val
    let faulty : Host.Outcome State Fault Refusal → Prop := fun r => ∃ t, r = .next t ∧ (t.channel c.val).state = .faulty ∧
      t.fenced (17 + c.val) = true ∧ bitOf (t.channel c.val).causes 5 = true ∧ (t.channel c.val).held = [] ∧
      ∀ w ∈ x.held ++ x.queued, ⟨w.req, .dataerr, 0⟩ ∈ t.noc.answers
    (s.served = true → x.state = .ready ∨ x.state = .selfRefresh →
      (x.claim = .none →
        exec (.retrainPeriodicRequest p c) s = .next (settle (Acked p (0x3810 + c.val) 0xB
          (s.setChannel c.val { x with state := .retraining, claim := .retraining }))) ∧
        exec (.retrainFullRequest p c) s = .next (settle (Acked p (0x3810 + c.val) 0xB
          (s.setChannel c.val { x with state := .retraining, claim := .retraining }))) ∧
        (x.held = [] → x.queued = [] → exec (.rfmSweepRequest p c) s = .next (settle (Acked p (0x3810 + c.val) 0xC
          (s.setChannel c.val { x with state := .ready, claim := .rfm }))))) ∧
      (x.claim = .rescramble → ∃ u, exec (.rfmSweepRequest p c) s = .next (settle u) ∧
        ChannelOnly c.val (raise (1030 + 8 * c.val) (Aborted p (0x3810 + c.val) 0xC abortBusy s)) u ∧
        u.channel c.val = { x with causes := x.causes ||| 128, lastRefusal := 6 })) ∧
    (s.served = true → x.state = .faulty → x.claim = .none →
      exec (.retrainFullRequest p c) s = .next (settle (Acked p (0x3810 + c.val) 0xB
        (s.setChannel c.val { x with state := .training, claim := .retraining })))) ∧
    (x.claim = .rfm → exec (.rfmSweepDone c) s = .next (settle (s.setChannel c.val { x with
      claim := .none, rfmIssued := (x.rfmIssued + Config.dramBanks) % 2 ^ 64, rfmOwed := []
      retry := (x.retry ++ (List.range Config.dramBanks).map DramCommand.manage).drop (x.retry.length + Config.dramBanks - 32) }))) ∧
    (s.obj 0x3800 8 ≠ 0 → x.state = .ready ∨ x.state = .selfRefresh → x.claim = .none → exec (.dramPeriodicRetrainDue c) s =
      .next (settle (s.setChannel c.val { x with state := .retraining, claim := .retraining }))) ∧
    (x.state = .training ∨ x.state = .retraining →
      (x.held = [] → x.queued = [] → ∃ t, exec (.dramTrainingDone c true) s = .next t ∧
        (t.channel c.val).state = (if s.pwr.state = 1 ∨ s.pwr.state = 2 then .selfRefresh else .ready) ∧
        (t.channel c.val).claim = .none ∧ (t.channel c.val).trainings = wrapInc 32 x.trainings ∧
        t.noc.deviceFence.getLsbD (17 + c.val) = false ∧ t.dram.cells = s.dram.cells ∧
        (Quiet s → x.current ≠ none → bitOf (s.desc (1029 + 8 * c.val)) 15 = true →
          t.eventCount (1029 + 8 * c.val) = satInc 16 (s.eventCount (1029 + 8 * c.val))) ∧
        (x.current ≠ none → (t.channel c.val).keys = x.keys) ∧
        (x.current = none → x.noKey = false → x.waitsEntropy = false →
          (t.channel c.val).current ≠ none ∨ (t.channel c.val).waitsEntropy = true)) ∧
      faulty (exec (.dramTrainingDone c false) s)) ∧
    (∀ bank : Nat, x.state ≠ .off → x.state ≠ .none → s.dramInReset c.val = false → ∃ y, exec (.dramRefreshDue c bank) s =
      .next (settle (s.setChannel c.val y)) ∧ y = { x with
          refreshes := x.refreshes + 1, openRows := y.openRows
          retry := (x.retry ++ [DramCommand.refresh bank]).drop (x.retry.length + 1 - 32) } ∧
        ∀ n, Tbl.at 0 y.openRows n = if n = bank then 0 else Tbl.at 0 x.openRows n) ∧
    (x.state = .ready → s.chargeNow c.val = 0 → x.claim = .none → x.buffer = [] → x.held = [] → exec (.dramSelfRefreshEntry c) s =
      .next (settle (s.setChannel c.val { x with state := .selfRefresh, openRows := [] }))) ∧
    (x.state = .selfRefresh →
      (x.buffer = [] → x.held ≠ [] → ∃ t, exec (.dramSelfRefreshExit c) s = .next t ∧
        (t.channel c.val).state = .ready ∧ (t.channel c.val).held = [] ∧ (t.channel c.val).queued = []) ∧
      (x.buffer ≠ [] → exec (.dramSelfRefreshExit c) s = .next (settle (s.setChannel c.val { x with state := .ready })))) ∧
    (x.state = .ready → s.dramInReset c.val = false →
      (∀ n, n < 3 → ∃ u, exec (.dramParityAlert c n) s = .next (settle u) ∧
        ChannelOnly c.val (raise (1027 + 8 * c.val) s) u ∧ u.channel c.val = { x with
          alerts := satInc 32 x.alerts, replays := satAdd 32 x.replays (n + 1), causes := x.causes ||| 16 }) ∧
      faulty (exec (.dramParityAlert c 3) s)) ∧
    ∀ code : BitVec 8, s.served = true → s.dev = .service → code.toNat < 8 →
      (s.rateTooLow code.toNat = true →
        exec (.dataRateWrite p code) s = .next (settle (Aborted p 0x3800 1 abortRange (raise 21 s)))) ∧
      (s.rateTooLow code.toNat = false → (∀ d ∈ s.rateChannels, (s.channel d).claim = .none) →
        ∃ t, exec (.dataRateWrite p code) s = .next t ∧ t.obj 0x3800 1 = code.toNat ∧
          ∀ d, d < 16 → t.channel d = if (s.channel d).state = .off ∨ (s.channel d).state = .none then s.channel d
            else { s.channel d with state := .training, claim := .retraining }) ∧
      (s.rateTooLow code.toNat = false → (∃ d ∈ s.rateChannels, (s.channel d).claim ≠ .none) →
        ∃ t, exec (.dataRateWrite p code) s = .next t ∧ t.obj 0x3800 1 = s.obj 0x3800 1 ∧
          ∀ d, (t.channel d).state = (s.channel d).state ∧ (t.channel d).claim = (s.channel d).claim)

/-- Keys, epochs and sweeps (R282, R283, R289, R471, R477): a sweep or an initialise takes the claim; at its end the claim is free and the
current epoch alone has a tag and a key; a channel initialised from its first line reads 0, a swept one reads what it held; a rekey takes
the next free epoch, busy while its tag stands; a retried draw fills the current slot, or fails with the ENTROPY alarm. -/
def Obligations.DramKeys : Prop :=
  ∀ (c : Fin 16) (p : Path) (s : State),
    let x := s.channel c.val
    (s.served = true → s.chServes c.val = true → x.claim = .none → x.waitsEntropy = false →
      s.chState c.val = .ready ∨ x.held = [] ∧ x.queued = [] →
      (x.current.isSome = true → exec (.rescrambleSweepRequest p c) s = .next (settle (Acked p (0x3810 + c.val) 0xD
        (s.setChannel c.val { x with
          state := .ready, claim := .rescramble, initialising := false, linesDone := 0, linesPoisoned := 0, sweepPos := 0
          resweep := 0 })))) ∧
      (x.noKey = false → exec (.dramInitialiseRequest p c) s = .next (settle (Acked p (0x3810 + c.val) 0xD
        (s.setChannel c.val { x with
          state := .ready, claim := .rescramble, initialising := true, linesDone := 0, linesPoisoned := 0, sweepPos := 0
          resweep := 0 }))))) ∧
    (∀ key, x.claim = .rescramble → x.current = some key → ∃ t, exec (.sweepDone c []) s = .next t ∧
      (t.channel c.val).claim = .none ∧ (t.channel c.val).epoch = x.epoch ∧ (t.channel c.val).tagMap = 2 ^ x.epoch ∧
      (∀ e, (t.channel c.val).key e = if e = x.epoch then some key else none) ∧
      (x.initialising = true → x.sweepPos = 0 → x.resweep = 0 → ∀ off, off < 64 * s.linesOfChannel → off < 2 ^ 38 →
        t.subOutcome c.val off (s.dramAddr c.val (off / 32 * 32)) .clean = ⟨0, .ok⟩) ∧
      (x.initialising = false → x.sweepPos = 0 → x.resweep = 0 → ∀ l h, l < s.linesOfChannel → 64 * l < 2 ^ 38 → h < 2 →
        let read := fun (u : State) => u.subOutcome c.val (64 * l + 32 * h) (s.dramAddr c.val (64 * l) + 32 * h) .clean
        (s.lineGood c.val l = true → read t = read s) ∧
        (s.lineGood c.val l = false → (∃ n ∈ s.cellKeys c.val 0 (64 * s.linesOfChannel), n % 2 ^ 33 / 2 = l) →
          (read t).status = .dataerr))) ∧
    (s.served = true → x.noKey = false → s.chState c.val ≠ .none →
      let e := (x.epoch + 1) % 16
      (bitOf x.tagMap e = true → ∀ healthy, exec (.dramRekeyRequest p (BitVec.ofNat 8 c.val) healthy) s =
        .next (settle (Aborted p 0x2600 0x31 abortBusy (raise (1030 + 8 * c.val) s)))) ∧
      (bitOf x.tagMap e = false →
        (∃ k y, exec (.dramRekeyRequest p (BitVec.ofNat 8 c.val) true) s =
            .next (settle (Acked p 0x2600 0x31 (s.draw.setChannel c.val y))) ∧ y.epoch = e ∧ y.current = some k ∧
            y = { x with epoch := e, keys := y.keys, resweep := x.lineToResweep } ∧ ∀ n, n ≠ e → y.key n = x.key n) ∧
        ∃ t, exec (.dramRekeyRequest p (BitVec.ofNat 8 c.val) false) s = .next t ∧ t.channel c.val = x ∧
          t.sec.alarms = satInc 32 s.sec.alarms ∧ t.sec.causes = s.sec.causes ||| 0x80)) ∧
    (x.waitsEntropy = true →
      (∃ k y, exec (.entropyRetry c true) s = .next (settle (s.draw.setChannel c.val y)) ∧ y.current = some k ∧
        y.waitsEntropy = false ∧ y.epoch = x.epoch ∧ ∀ n, n ≠ x.epoch → y.key n = x.key n) ∧
      ∃ t, exec (.entropyRetry c false) s = .next t ∧ (t.channel c.val).waitsEntropy = true ∧
        (t.channel c.val).keys = x.keys ∧ t.sec.alarms = satInc 32 s.sec.alarms ∧ t.sec.causes = s.sec.causes ||| 0x80)

/-- Streams and retention (R261, R294, R298 to R300): the oldest buffered flit is committed and reads back; a release drops the recorded
segments up to its rotation, oldest first, and is refused with event 37 while frozen; a stream whose slot comes presents one
flit with the 16 oldest words of its ring, and its write pointer moves on within its region. -/
def Obligations.ArchiveStreams : Prop :=
  (∀ (c : Fin 16) (s : State) (f : ArchiveFlit) (rest : List ArchiveFlit) (key : BitVec 128) (off : Nat),
    s.chState c.val = .ready → (s.channel c.val).current = some key → s.dramInReset c.val = false →
    (s.channel c.val).buffer = f :: rest → f.size = 64 → s.place f.addr = .dram c.val off →
      ∃ t, exec (.archiveFlitCommit c) s = .next t ∧ (t.channel c.val).buffer = rest ∧
        (∀ r ∈ (t.channel c.val).held ++ (t.channel c.val).queued, r.precedes f = false) ∧
        ((s.channel c.val).held = [] → (s.channel c.val).queued = [] → t.subOutcome c.val (off / 64 * 64) (f.addr / 64 * 64) .clean =
          ⟨f.data.extractLsb' 0 256, if f.poison then .dataerr else .ok⟩ ∧
        t.subOutcome c.val (off / 64 * 64 + 32) (f.addr / 64 * 64 + 32) .clean =
          ⟨f.data.extractLsb' 256 256, if f.poison then .dataerr else .ok⟩)) ∧
  (∀ (p : Path) (data : List Byte) (s : State),
    let i := ofBytes data % 256
    s.served = true → data.length = 9 → i < 32 →
      ((s.stream i).frozen = false → ∃ t dropped, exec (.archiveRelease p data) s = .next t ∧
        (s.stream i).segs = dropped ++ (t.stream i).segs ∧
        (∀ g ∈ dropped, g.recorded = true ∧ g.rot ≤ ofBytes data / 256) ∧
        (∀ g, (t.stream i).segs.head? = some g → g.recorded = true → ofBytes data / 256 < g.rot) ∧
        (t.stream i).rel = (match (t.stream i).segs with
          | [] => (s.stream i).wp
          | g :: _ => g.start) ∧ (t.stream i).wp = (s.stream i).wp ∧ ∀ j, j ≠ i → t.stream j = s.stream j) ∧
      ((s.stream i).frozen = true →
        exec (.archiveRelease p data) s = .next (settle (Aborted p 0x3800 0x12 abortState (raise 37 s))))) ∧
  ∀ (i : Fin 32) (j : Fin 64) (s : State), s.offers i.val j.val = true → claimOpen (s.unit (4128 + i.val)).claim = false →
    let u := 4128 + i.val
    let d := s.descOf i.val
    ∃ t h, exec (.streamSlot i j []) s = .next t ∧
      t.noc.flying = s.noc.flying ++ [⟨(lanePort i.val).1, (lanePort i.val).2, 0,
        ⟨h, BitVec.ofNat 512 (packFields 32 ((List.range 16).map (fun k => s.word u (((s.unit u).head + k) % unitWords u))))⟩, 0,
        .clean, s.nocCycle j.val, false⟩] ∧
      (t.stream i.val).sent = (s.stream i.val).sent + 1 ∧
      (t.stream i.val).wp = (if (s.stream i.val).wp + 64 = descBase d + descSize d then descBase d
        else (s.stream i.val).wp + 64) ∧
      (t.unit u).fill = (s.unit u).fill - 16 ∧ (t.unit u).head = ((s.unit u).head + 16) % unitWords u ∧
      (∀ k, k ≠ i.val → t.stream k = s.stream k) ∧ ∀ a, t.readByte a = s.readByte a

/-! The Keepers (chapter 12). -/

/-- Core `i.core` issues the word at its PC without a parity error, below the last PC and with no range fault due. -/
def KeeperIssues (i : Issue) (word : Nat) (s : State) : Prop :=
  s.mayIssue i.core.val = true ∧ i.parityError = false ∧ s.fetched i.core.val = word ∧
  (s.keeper i.core.val).pc < 65535 ∧ (s.keeper i.core.val).pcOver = false

/-- `u` is `s` but for core `k`. -/
def KeeperOnly (k : Nat) (s u : State) : Prop := u = { s with keep := u.keep } ∧ ∀ j, j ≠ k → u.keeper j = s.keeper j

/-- Core `k` goes on with register `kd` holding `v`: k0 reads 0, every other register stays, the PC and the cycle move, and nothing
else changes. -/
def KeeperSets (k : Nat) (kd : KReg) (v : BitVec 64) (pc cost : Nat) (s u : State) : Prop :=
  let c := s.keeper k
  KeeperOnly k s u ∧ u.keeper k = { c with regs := (u.keeper k).regs, pc := pc, cycle := c.cycle + cost } ∧
  ∀ r : KReg, (u.keeper k).reg r = if r.val = 0 then 0 else if r = kd then v else c.reg r

/-- An instruction writes one register and goes on in sequence. -/
def KeeperResult (i : Issue) (word cost : Nat) (kd : KReg) (v : BitVec 64) (s : State)
    (o : Host.Outcome State Fault Refusal) : Prop :=
  KeeperIssues i word s → ∃ u, o = .next (settle u) ∧
    KeeperSets i.core.val kd v ((s.keeper i.core.val).pc + 1) cost s u

/-- A fault before any effect (R329): recorded, the core FAULTED and its domain fenced with event 1472 + 4k, by the device until the fence
is acknowledged (at once where a fence of the host stands acknowledged); the tags whose transactions are open are marked for that;
registers, PC and memory are as they were. -/
def KeeperFaults (k cause word addr : Nat) (s : State) (o : Host.Outcome State Fault Refusal) : Prop :=
  let c := s.keeper k
  ∃ u, o = .next (settle u) ∧ KeeperOnly k (raise (1472 + 4 * k) { s with noc := u.noc }) u ∧ u.fenced (65 + k) = true ∧
    u.keeper k = { c with
      state := .faulted, wait := .none, pcOver := false, tags := (u.keeper k).tags
      faultRecord := word % 2 ^ 32 * 2 ^ 32 + c.pc % 65536 * 2 ^ 8 + cause, faultAddr := addr } ∧
    (s.fenceState (65 + k) ≠ 2 → s.fenceState (65 + k) ≠ 3 → u.noc.deviceFence.getLsbD (65 + k) = true ∧
      (u.keeper k).tags = c.tags.map (fun g => { g with draining := decide (g.ended = none) }))

/-- Arithmetic instructions (Tables 12-2 and 12-3): each writes its one register with the value that its row gives, takes its cycles,
and changes nothing else. -/
def Obligations.KeeperArithmetic : Prop :=
  ∀ (i : Issue) (kd ka kb : KReg) (s : State),
    let a := (s.keeper i.core.val).reg ka
    let b := (s.keeper i.core.val).reg kb
    let word := fun (func : Nat) => kd.val * 2 ^ 21 + ka.val * 2 ^ 16 + kb.val * 2 ^ 11 + func
    KeeperResult i (word 0) 1 kd (a + b) s (exec (.add i kd ka kb) s) ∧
    KeeperResult i (word 1) 1 kd (a - b) s (exec (.sub i kd ka kb) s) ∧
    KeeperResult i (word 2) 1 kd (a &&& b) s (exec (.and i kd ka kb) s) ∧
    KeeperResult i (word 3) 1 kd (a ||| b) s (exec (.or i kd ka kb) s) ∧
    KeeperResult i (word 4) 1 kd (a ^^^ b) s (exec (.xor i kd ka kb) s) ∧
    KeeperResult i (word 5) 1 kd (BitVec.ofNat 64 (a.toNat * 2 ^ (b.toNat % 64))) s (exec (.sll i kd ka kb) s) ∧
    KeeperResult i (word 6) 1 kd (BitVec.ofNat 64 (a.toNat / 2 ^ (b.toNat % 64))) s (exec (.srl i kd ka kb) s) ∧
    KeeperResult i (word 7) 1 kd (BitVec.ofInt 64 (a.toInt / 2 ^ (b.toNat % 64))) s (exec (.sra i kd ka kb) s) ∧
    KeeperResult i (word 8) 1 kd (if a.toInt < b.toInt then 1 else 0) s (exec (.slt i kd ka kb) s) ∧
    KeeperResult i (word 9) 1 kd (if a.toNat < b.toNat then 1 else 0) s (exec (.sltu i kd ka kb) s) ∧
    KeeperResult i (word 10) 3 kd (BitVec.ofNat 64 (a.toNat * b.toNat)) s (exec (.mul i kd ka kb) s) ∧
    KeeperResult i (word 11) 3 kd (BitVec.ofNat 64 (a.toNat * b.toNat / 2 ^ 64)) s (exec (.mulhu i kd ka kb) s)

/-- Arithmetic with an immediate (Tables 12-2 and 12-3): sign-extended for ADDI, SLTI, SLTIU and LUI, zero-extended for the logic ones. -/
def Obligations.KeeperImmediates : Prop :=
  ∀ (i : Issue) (kd ka : KReg) (imm : BitVec 16) (n : BitVec 6) (up : BitVec 21) (s : State),
    let a := (s.keeper i.core.val).reg ka
    let word := fun (op v : Nat) => op * 2 ^ 26 + kd.val * 2 ^ 21 + ka.val * 2 ^ 16 + v
    KeeperResult i (word 4 imm.toNat) 1 kd (BitVec.ofInt 64 (a.toInt + imm.toInt)) s (exec (.addi i kd ka imm) s) ∧
    KeeperResult i (word 5 imm.toNat) 1 kd (BitVec.ofNat 64 (a.toNat &&& imm.toNat)) s (exec (.andi i kd ka imm) s) ∧
    KeeperResult i (word 6 imm.toNat) 1 kd (BitVec.ofNat 64 (a.toNat ||| imm.toNat)) s (exec (.ori i kd ka imm) s) ∧
    KeeperResult i (word 7 imm.toNat) 1 kd (BitVec.ofNat 64 (a.toNat ^^^ imm.toNat)) s (exec (.xori i kd ka imm) s) ∧
    KeeperResult i (word 8 n.toNat) 1 kd (BitVec.ofNat 64 (a.toNat * 2 ^ n.toNat)) s (exec (.slli i kd ka n) s) ∧
    KeeperResult i (word 9 n.toNat) 1 kd (BitVec.ofNat 64 (a.toNat / 2 ^ n.toNat)) s (exec (.srli i kd ka n) s) ∧
    KeeperResult i (word 10 n.toNat) 1 kd (BitVec.ofInt 64 (a.toInt / 2 ^ n.toNat)) s (exec (.srai i kd ka n) s) ∧
    KeeperResult i (word 11 imm.toNat) 1 kd (if a.toInt < imm.toInt then 1 else 0) s (exec (.slti i kd ka imm) s) ∧
    KeeperResult i (word 12 imm.toNat) 1 kd (if a.toNat < (imm.signExtend 64).toNat then 1 else 0) s
      (exec (.sltiu i kd ka imm) s) ∧
    KeeperResult i (0x28 * 2 ^ 26 + kd.val * 2 ^ 21 + up.toNat) 1 kd (BitVec.ofInt 64 (up.toInt * 65536)) s
      (exec (.lui i kd up) s)

/-- A store changes the bytes that it writes and no other, and no register. -/
def KeeperStores (i : Issue) (word cost at_ n : Nat) (v : BitVec 64) (s : State)
    (o : Host.Outcome State Fault Refusal) : Prop :=
  KeeperIssues i word s → ∃ u, o = .next (settle u) ∧ u.memGen = s.memGen ∧
    KeeperSets i.core.val 0 0 ((s.keeper i.core.val).pc + 1) cost { s with mem := u.mem } u ∧
    ∀ x, u.readByte x = if at_ ≤ x ∧ x < at_ + n then BitVec.ofNat 8 (byteAt v.toNat (x - at_)) else s.readByte x

/-- A load of `n` bytes at `a`, in a line in which an NLD may land, gives its register those bytes of an old or a new value of the 64-bit
word, and goes on (R319). -/
def KeeperLoadsOpen (i : Issue) (word a n : Nat) (kd : KReg) (s : State) (o : Host.Outcome State Fault Refusal) : Prop :=
  KeeperIssues i word s → ∃ w ∈ s.wordChoices i.core.val (a / 8 * 8), ∃ u, o = .next (settle u) ∧
    KeeperSets i.core.val kd (BitVec.ofNat 64 (w / 256 ^ (a % 8) % 256 ^ n)) ((s.keeper i.core.val).pc + 1) 2
      { s with freeCtr := s.freeCtr + 1 } u

/-- A store of `n` bytes of `v` at `a` of the data store, in such a line, leaves its 64-bit word as it was, where the landing line
overwrites it, or stores its bytes beside the rest of an old or a new value; no byte outside the word and no register changes (R319). -/
def KeeperStoresOpen (i : Issue) (word a n v : Nat) (s : State) (o : Host.Outcome State Fault Refusal) : Prop :=
  let lo := 0x060000080000 + i.core.val * 0x100000 + a / 8 * 8
  KeeperIssues i word s → ∃ u, o = .next (settle u) ∧ u.memGen = s.memGen ∧
    (u.keeper i.core.val).pc = (s.keeper i.core.val).pc + 1 ∧
    (∀ r : KReg, (u.keeper i.core.val).reg r = (s.keeper i.core.val).reg r) ∧
    (u.readNat lo 8 = s.readNat lo 8 ∨ ∃ w ∈ s.wordChoices i.core.val (a / 8 * 8), ∀ j, j < 8 →
      (u.readByte (lo + j)).toNat = if a % 8 ≤ j ∧ j < a % 8 + n then byteAt v (j - a % 8) else byteAt w j) ∧
    ∀ x, x < lo ∨ lo + 8 ≤ x → u.readByte x = s.readByte x

/-- `s` with core `k`'s next pool slot taken: the first KEEP cycle t from its own with t mod 4 = k (R311). -/
def InPoolSlot (k : Nat) (s : State) : State :=
  let c := s.keeper k
  s.setKeeper k { c with poolSlot := c.cycle + (k + 4 - c.cycle % 4) % 4 + 1 }

/-- Data store and pool accesses (R309, R311, R313, Table 12-3): an aligned access within its store loads or stores its bytes, little-endian,
and PXCHG exchanges; in a line in which an NLD may land each 64-bit
word is the old or the new one (R319); a pool access takes its core's slot (R311); past the end, misaligned, or with a double-bit error
it faults with cause 4, 3 or 6 and has no effect. That an address both past the end and misaligned is cause 4 is the model's choice
(notes/assumptions/203.md). -/
def Obligations.KeeperMemory : Prop :=
  ∀ (i : Issue) (kd ka : KReg) (imm : BitVec 16) (s : State),
    let k := i.core.val
    let a := ((s.keeper k).reg ka + imm.signExtend 64).toNat
    let d := 0x060000080000 + k * 0x100000 + a
    let p := 0x060001000000 + a
    let v := (s.keeper k).reg kd
    let word := fun (op : Nat) => op * 2 ^ 26 + kd.val * 2 ^ 21 + ka.val * 2 ^ 16 + imm.toNat
    let faults := fun (op cause : Nat) (c : Instr) => KeeperIssues i (word op) s → KeeperFaults k cause (word op) a s (exec c s)
    (a ≤ 0x3FFFF → a % 8 = 0 →
      ((s.keeper k).landsAt a = false →
        KeeperResult i (word 0x10) 2 kd (BitVec.ofNat 64 (s.readNat d 8)) s (exec (.ld i kd ka imm .clean) s) ∧
        KeeperStores i (word 0x12) 2 d 8 v s (exec (.st i kd ka imm) s)) ∧
      ((s.keeper k).landsAt a = true → KeeperLoadsOpen i (word 0x10) a 8 kd s (exec (.ld i kd ka imm .clean) s) ∧
        KeeperStoresOpen i (word 0x12) a 8 v.toNat s (exec (.st i kd ka imm) s)) ∧
      ∀ b, faults 0x10 6 (.ld i kd ka imm (.double b))) ∧
    (a ≤ 0x3FFFF → a % 4 = 0 →
      ((s.keeper k).landsAt a = false →
        KeeperResult i (word 0x11) 2 kd (BitVec.ofNat 64 (s.readNat d 4)) s (exec (.ldw i kd ka imm .clean) s) ∧
        KeeperStores i (word 0x13) 2 d 4 v s (exec (.stw i kd ka imm .clean) s)) ∧
      ((s.keeper k).landsAt a = true → KeeperLoadsOpen i (word 0x11) a 4 kd s (exec (.ldw i kd ka imm .clean) s) ∧
        KeeperStoresOpen i (word 0x13) a 4 v.toNat s (exec (.stw i kd ka imm .clean) s)) ∧
      ∀ b, faults 0x11 6 (.ldw i kd ka imm (.double b)) ∧ faults 0x13 6 (.stw i kd ka imm (.double b))) ∧
    (a ≤ 0x3FFFFF → a % 8 = 0 →
      KeeperResult i (word 0x14) 4 kd (BitVec.ofNat 64 (s.readNat p 8)) (InPoolSlot k s) (exec (.pld i kd ka imm .clean) s) ∧
      KeeperStores i (word 0x15) 4 p 8 v (InPoolSlot k s) (exec (.pst i kd ka imm) s) ∧
      (KeeperIssues i (word 0x16) s → ∃ u, exec (.pxchg i kd ka imm .clean) s = .next (settle u) ∧ u.memGen = s.memGen ∧
        KeeperSets k kd (BitVec.ofNat 64 (s.readNat p 8)) ((s.keeper k).pc + 1) 4 { InPoolSlot k s with mem := u.mem } u ∧
        ∀ x, u.readByte x = if p ≤ x ∧ x < p + 8 then BitVec.ofNat 8 (byteAt v.toNat (x - p)) else s.readByte x) ∧
      ∀ b, faults 0x14 6 (.pld i kd ka imm (.double b)) ∧ faults 0x16 6 (.pxchg i kd ka imm (.double b))) ∧
    ∀ e,
      (0x3FFFF < a → faults 0x10 4 (.ld i kd ka imm e) ∧ faults 0x11 4 (.ldw i kd ka imm e) ∧ faults 0x12 4 (.st i kd ka imm) ∧
        faults 0x13 4 (.stw i kd ka imm e)) ∧
      (0x3FFFFF < a → faults 0x14 4 (.pld i kd ka imm e) ∧ faults 0x15 4 (.pst i kd ka imm) ∧
        faults 0x16 4 (.pxchg i kd ka imm e)) ∧
      (a ≤ 0x3FFFF → a % 8 ≠ 0 → faults 0x10 3 (.ld i kd ka imm e) ∧ faults 0x12 3 (.st i kd ka imm)) ∧
      (a ≤ 0x3FFFF → a % 4 ≠ 0 → faults 0x11 3 (.ldw i kd ka imm e) ∧ faults 0x13 3 (.stw i kd ka imm e)) ∧
      (a ≤ 0x3FFFFF → a % 8 ≠ 0 → faults 0x14 3 (.pld i kd ka imm e) ∧ faults 0x15 3 (.pst i kd ka imm) ∧
        faults 0x16 3 (.pxchg i kd ka imm e))

/-- Control flow and illegal words (R314, R316, R329): a branch whose condition holds, J, JAL and JALR move the PC to their target in 2
cycles, a branch that is not taken goes on in 1; a target outside 0 to 65,535 faults with cause 2 before any effect, a word that
the table does not list with cause 1, and one that fails its parity with cause 5. -/
def Obligations.KeeperControlFlow : Prop :=
  ∀ (i : Issue) (kd ka : KReg) (imm : BitVec 16) (off : BitVec 26) (s : State),
    let k := i.core.val
    let c := s.keeper k
    let x := c.reg kd
    let y := c.reg ka
    let word := fun (op : Nat) => op * 2 ^ 26 + kd.val * 2 ^ 21 + ka.val * 2 ^ 16 + imm.toNat
    let goes := fun (w : Nat) (target : Int) (link : KReg) (o : Host.Outcome State Fault Refusal) => KeeperIssues i w s →
      (0 ≤ target ∧ target ≤ 65535 → ∃ u, o = .next (settle u) ∧
        KeeperSets k link (BitVec.ofNat 64 (c.pc + 1)) target.toNat 2 s u) ∧
      (target < 0 ∨ 65535 < target → KeeperFaults k 2 w 0 s o)
    let branches := fun (op : Nat) (p : Prop) (o : Host.Outcome State Fault Refusal) =>
      (p → goes (word op) (c.pc + imm.toInt) 0 o) ∧ (¬p → KeeperResult i (word op) 1 0 0 s o)
    branches 0x18 (x = y) (exec (.beq i kd ka imm) s) ∧
    branches 0x19 (x ≠ y) (exec (.bne i kd ka imm) s) ∧
    branches 0x1A (x.toInt < y.toInt) (exec (.blt i kd ka imm) s) ∧
    branches 0x1B (y.toInt ≤ x.toInt) (exec (.bge i kd ka imm) s) ∧
    branches 0x1C (x.toNat < y.toNat) (exec (.bltu i kd ka imm) s) ∧
    branches 0x1D (y.toNat ≤ x.toNat) (exec (.bgeu i kd ka imm) s) ∧
    goes (0x30 * 2 ^ 26 + off.toNat) (c.pc + off.toInt) 0 (exec (.j i off) s) ∧
    goes (0x31 * 2 ^ 26 + off.toNat) (c.pc + off.toInt) 31 (exec (.jal i off) s) ∧
    goes (word 0x24) ((y + imm.signExtend 64).toNat : Int) kd (exec (.jalr i kd ka imm) s) ∧
    (s.mayIssue k = true → legalWord (s.fetched k) = false →
      KeeperFaults k (if i.parityError then 5 else 1) (s.fetched k) 0 s (exec (.illegalInstruction i) s)) ∧
    (s.mayIssue k = true → i.parityError = true → s.fetched k = word 0x18 →
      KeeperFaults k 5 (word 0x18) 0 s (exec (.beq i kd ka imm) s))

/-- The lowest of a core's 512 tags that is free. -/
def LowestFreeTag (c : Keeper) (n : Nat) : Prop :=
  n < 512 ∧ (∀ g ∈ c.tags, g.number ≠ n) ∧ ∀ m, m < n → ∃ g ∈ c.tags, g.number = m

/-- A posted transaction: its tag in the destination register, the tag taken, the transaction open, to be sent (R317). -/
def KeeperPosts (i : Issue) (word n : Nat) (kd : KReg) (x : Txn) (landing : Nat) (s : State)
    (o : Host.Outcome State Fault Refusal) : Prop :=
  let k := i.core.val
  let c := s.keeper k
  KeeperIssues i word s → LowestFreeTag c n → ∃ u, o = .next (settle u) ∧
    u = { s with keep := u.keep, noc := { s.noc with
      txns := s.noc.txns ++ [x], peakTags := max s.noc.peakTags (s.tagsInUse + 1) } } ∧
    (∀ j, j ≠ k → u.keeper j = s.keeper j) ∧
    u.keeper k = { c with
      regs := (u.keeper k).regs, pc := c.pc + 1, cycle := c.cycle + 1, tagsOut := false
      tags := c.tags ++ [{ number := n, read := !x.write, landing := landing, ended := none, abandoned := false }] } ∧
    ∀ r : KReg, (u.keeper k).reg r = if r.val = 0 then 0 else if r = kd then BitVec.ofNat 64 n else c.reg r

/-- Transactions of a core and its waits (R317 to R321): NLD, NST and NSTW post under the lowest free tag; NWAIT of an ended tag returns its
status and frees it, of no tag 9, of an open one at once 8 or waits, and its timeout returns 8 and abandons the tag; WBEAT returns
the beat index once it has reached its argument, which never exceeds B − 1, and waits before. -/
def Obligations.KeeperTransactions : Prop :=
  ∀ (i : Issue) (kd ka kb : KReg) (imm : BitVec 16) (n : Nat) (s : State),
    let k := i.core.val
    let c := s.keeper k
    let a := (c.reg ka).toNat
    let b := (c.reg kb).toNat
    let line := s.readNat (0x060000080000 + k * 0x100000 + b) 64
    let txn := fun (write : Bool) (size data : Nat) =>
      ({ req := ⟨.keeper i.core, n⟩, addr := a, write := write, size := size, data := data, entered := false
         fromCycle := s.postedFrom ⟨.keeper i.core, n⟩, held := s.fenced (65 + k) } : Txn)
    let wordA := fun (func : Nat) => 2 ^ 26 + kd.val * 2 ^ 21 + ka.val * 2 ^ 16 + kb.val * 2 ^ 11 + func
    let wordB := fun (op : Nat) => op * 2 ^ 26 + kd.val * 2 ^ 21 + ka.val * 2 ^ 16 + imm.toNat
    (a % 64 = 0 → b % 64 = 0 → b ≤ 0x3FFFF →
      KeeperPosts i (wordA 0) n kd (txn false 64 0) b s
        (exec (.nld i kd ka kb) s) ∧
      (c.landsAt b = false → KeeperPosts i (wordA 1) n kd
        (txn true 64 line) b s (exec (.nst i kd ka kb .clean) s)) ∧
      (c.landsAt b = true → ∃ v, KeeperPosts i (wordA 1) n kd
        (txn true 64 v) b { s with freeCtr := s.freeCtr + 1 }
        (exec (.nst i kd ka kb .clean) s)) ∧
      (∀ m x, c.freeTag = some x → KeeperIssues i (wordA 1) s →
        KeeperFaults k 6 (wordA 1) b s (exec (.nst i kd ka kb (.double m)) s))) ∧
    (a % 4 = 0 → KeeperPosts i (wordA 2) n kd (txn true 4 (b % 2 ^ 32)) 0 s
      (exec (.nstw i kd ka kb) s)) ∧
    (a % 64 ≠ 0 → KeeperIssues i (wordA 0) s → KeeperFaults k 3 (wordA 0) a s (exec (.nld i kd ka kb) s)) ∧
    (a % 4 = 0 → (∀ m, m < 512 → ∃ g ∈ c.tags, g.number = m) → KeeperIssues i (wordA 2) s →
      ∃ u, exec (.nstw i kd ka kb) s = .next (settle u) ∧ KeeperOnly k s u ∧ (u.keeper k).tagsOut = true ∧
        (u.keeper k).tags = c.tags ∧ (kd.val ≠ 0 → (u.keeper k).reg kd = BitVec.allOnes 64)) ∧
    (KeeperIssues i (wordB 0x20) s →
      ((∀ g ∈ c.tags, g.number = a → g.abandoned = true) → ∃ u, exec (.nwait i kd ka imm) s = .next (settle u) ∧
        KeeperSets k kd 9 (c.pc + 1) 1 s u) ∧
      (∀ g st, c.tags.find? (fun g => g.number == a && !g.abandoned) = some g → g.ended = some st →
        ∃ u, exec (.nwait i kd ka imm) s = .next (settle u) ∧ KeeperOnly k s u ∧ (u.keeper k).pc = c.pc + 1 ∧
          (∀ r : KReg, (u.keeper k).reg r =
            if r.val = 0 then 0 else if r = kd then BitVec.ofNat 64 (statusCode st) else c.reg r) ∧
          ∀ x, x ∈ (u.keeper k).tags ↔ x ∈ c.tags ∧ x.number ≠ a) ∧
      (∀ g, c.tags.find? (fun g => g.number == a && !g.abandoned) = some g → g.ended = none → imm ≠ 0 →
        ∃ u, exec (.nwait i kd ka imm) s = .next (settle u) ∧ KeeperOnly k s u ∧
          u.keeper k = { c with pc := c.pc + 1, wait := .nwait kd.val a, waitLimit := imm.toNat }) ∧
      (∀ g, c.tags.find? (fun g => g.number == a && !g.abandoned) = some g → g.ended = none → imm = 0 →
        ∃ u, exec (.nwait i kd ka imm) s = .next (settle u) ∧ KeeperSets k kd 8 (c.pc + 1) 1
          (s.setKeeper k { c with tags := c.tags.map (fun x => if x.number = a then { x with abandoned := true } else x) }) u)) ∧
    (c.wait = .nwait kd.val n → c.state = .running → c.pcOver = false →
      ∃ u, exec (.nwaitTimeout i.core) s = .next (settle u) ∧ KeeperOnly k s u ∧ (u.keeper k).wait = .none ∧
        (u.keeper k).pc = c.pc ∧
        (∀ r : KReg, (u.keeper k).reg r = if r.val = 0 then 0 else if r = kd then 8 else c.reg r) ∧
        ∀ g ∈ (u.keeper k).tags, g.number = n → g.abandoned = true) ∧
    (KeeperIssues i (wordB 0x21) s →
      let at_ := min ((c.reg ka).toInt + imm.toInt) (s.B - 1)
      (at_ ≤ s.time.beat → 0 < s.B → ∃ u, exec (.wbeat i kd ka imm) s = .next (settle u) ∧
        KeeperSets k kd (BitVec.ofNat 64 s.time.beat) (c.pc + 1) 1 s u) ∧
      (s.time.beat < at_ → 0 < s.B → ∃ u, exec (.wbeat i kd ka imm) s = .next (settle u) ∧ KeeperOnly k s u ∧
        u.keeper k = { c with pc := c.pc + 1, wait := .wbeat kd.val at_.toNat })) ∧
    (c.wait = .wbeat kd.val n → c.state = .running → c.pcOver = false → n ≤ s.time.beat →
      ∃ u, exec (.wbeatReturn i.core) s = .next (settle u) ∧ KeeperOnly k s u ∧ (u.keeper k).wait = .none ∧
        (u.keeper k).pc = c.pc ∧ ∀ r : KReg, (u.keeper k).reg r =
          if r.val = 0 then 0 else if r = kd then BitVec.ofNat 64 s.time.beat else c.reg r)

/-- Mailbox, time, rounds, events and control of a core (R312, R320, R322, R325 to R328, R330): WATCH takes the oldest entry, SRD reads its
source, ROUND ends a round, HALT halts, EVPOST raises its event, EMCY queues its message or drops it; a run starts a STOPPED
core and resets a HALTED or FAULTED one, a stop stops it, and a code store takes writes while its core stands still. That each of
these instructions takes one cycle is the model's reading (notes/assumptions/97.md). -/
def Obligations.KeeperSystem : Prop :=
  ∀ (i : Issue) (kd ka : KReg) (s : State),
    let k := i.core.val
    let c := s.keeper k
    let word := fun (a func : Nat) => 2 ^ 26 + kd.val * 2 ^ 21 + a * 2 ^ 16 + func
    (KeeperIssues i (word 0 3) s →
      (c.mailbox = [] → ∃ u, exec (.watch i kd) s = .next (settle u) ∧
        KeeperSets k kd 0 (c.pc + 1) 1 (s.setKeeper k { c with mboxOvf := false }) u) ∧
      (∀ e rest, c.mailbox = e :: rest → ∃ u, exec (.watch i kd) s = .next (settle u) ∧
        KeeperSets k kd (BitVec.ofNat 64 e) (c.pc + 1) 1 (s.setKeeper k { c with mailbox := rest }) u)) ∧
    (KeeperResult i (word 0 4) 1 kd (BitVec.ofNat 64 (s.time.rot % 2 ^ 52 * 2 ^ 12 + s.time.beat)) s (exec (.srd i kd 0) s) ∧
      KeeperResult i (word 1 4) 1 kd (BitVec.ofNat 64 s.time.rot) s (exec (.srd i kd 1) s) ∧
      KeeperResult i (word 2 4) 1 kd (BitVec.ofNat 64 (s.roundCycle k)) s (exec (.srd i kd 2) s) ∧
      KeeperResult i (word 3 4) 1 kd (BitVec.ofNat 64 (s.statusWord k)) s (exec (.srd i kd 3) s) ∧
      KeeperResult i (word 4 4) 1 kd (BitVec.ofNat 64 (s.M / 4 * s.B)) s (exec (.srd i kd 4) s) ∧
      KeeperResult i (word 5 4) 1 kd (BitVec.ofNat 64 s.B) s (exec (.srd i kd 5) s) ∧
      KeeperResult i (word 6 4) 1 kd (BitVec.ofNat 64 s.M) s (exec (.srd i kd 6) s) ∧
      KeeperResult i (word 7 4) 1 kd (BitVec.ofNat 64 k) s (exec (.srd i kd 7) s)) ∧
    (KeeperIssues i (2 ^ 26 + 5) s → ∃ u, exec (.round i) s = .next (settle u) ∧ KeeperOnly k s u ∧
      (u.keeper k).rounds = wrapInc 64 c.rounds ∧ (u.keeper k).lastRound = (s.roundCycle k + 1) % 2 ^ 32 ∧
      (u.keeper k).longestRound = max c.longestRound ((s.roundCycle k + 1) % 2 ^ 32) ∧ (u.keeper k).pc = c.pc + 1 ∧
      (c.datumPending = false → (u.keeper k).state = .roundWait) ∧
      (c.datumPending = true → (u.keeper k).state = c.state ∧ (u.keeper k).datumPending = false ∧ (u.keeper k).late = true ∧
        (u.keeper k).lateRounds = satInc 32 c.lateRounds)) ∧
    (KeeperIssues i (2 ^ 26 + 6) s → ∃ u, exec (.halt i) s = .next (settle u) ∧ KeeperOnly k s u ∧
      u.keeper k = { c with state := .halted, pc := c.pc + 1, cycle := c.cycle + 1 }) ∧
    (∀ m : Fin 16, KeeperIssues i (0x22 * 2 ^ 26 + ka.val * 2 ^ 16 + m.val) s → ∃ u, exec (.evpost i ka m) s = .next (settle u) ∧
      KeeperOnly k (raise (1488 + m.val) s) u ∧
      u.keeper k = { c with lastEvpost := (c.reg ka).toNat, pc := c.pc + 1, cycle := c.cycle + 1 }) ∧
    (∀ m : BitVec 6, KeeperIssues i (0x23 * 2 ^ 26 + kd.val * 2 ^ 21 + ka.val * 2 ^ 16 + m.toNat) s →
      (c.emcy.length < 8 → ∃ u, exec (.emcy i kd ka m) s = .next (settle u) ∧
        KeeperSets k kd 0 (c.pc + 1) 1 ({ s with can := { s.can with emcyAges := s.can.emcyAges + 1 } }.setKeeper k { c with
          emcy := c.emcy ++ [(⟨0xFF00 + m.toNat, (c.reg ka).toNat % 2 ^ 40, s.can.emcyAges⟩ : Emcy)] }) u) ∧
      (8 ≤ c.emcy.length → ∃ u, exec (.emcy i kd ka m) s = .next (settle u) ∧
        KeeperSets k kd 1 (c.pc + 1) 1 (s.setKeeper k { c with emcyDrops := satInc 32 c.emcyDrops }) u)) ∧
    (∀ p : Path, s.served = true → s.keeperInReset k = false →
      (c.state = .stopped → exec (.keeperRun p i.core) s = .next (settle (Acked p (0x3900 + k) 1
        (s.setKeeper k { c with state := .waiting, longestRound := 0 })))) ∧
      (c.state = .halted ∨ c.state = .faulted → ∃ u, exec (.keeperRun p i.core) s = .next (settle u) ∧
        KeeperOnly k (Acked p (0x3900 + k) 1 s) u ∧ (u.keeper k).state = .waiting ∧ (u.keeper k).regs = [] ∧
        (u.keeper k).pc = s.obj (0x3900 + k) 2 ∧ (u.keeper k).mailbox = [] ∧ (u.keeper k).emcy = [] ∧
        ∀ g ∈ (u.keeper k).tags, g.abandoned = true) ∧
      (c.state = .running → exec (.keeperRun p i.core) s = .next (settle (Aborted p (0x3900 + k) 1 abortState s))) ∧
      exec (.keeperStop p i.core) s = .next (settle (Acked p (0x3900 + k) 1
        (s.setKeeper k { c with state := .stopped, wait := .none, pcOver := false })))) ∧
    ∀ (q : ReqId) (addr : BitVec 48) (data : List Byte) (off : Nat), s.place addr.toNat = .code k off → s.l0Runs = true →
      s.fenced (65 + k) = false → s.keeperInReset k = false → CleanRequest s q → (s.carriedBytes q data).length = 64 →
      addr.toNat % 64 = 0 →
        (c.state = .stopped ∨ c.state = .halted ∨ c.state = .faulted → ∃ t, exec (.keeperCodeStoreWrite q addr data 0) s = .next t ∧
          t.noc.answers = s.noc.answers ++ [⟨q, .ok, 0⟩] ∧ ∀ a, t.readByte a =
            if addr.toNat ≤ a ∧ a < addr.toNat + 64 then (s.carriedBytes q data).getD (a - addr.toNat) 0 else s.readByte a) ∧
        (c.state = .running → ∃ t, exec (.keeperCodeStoreWrite q addr data 0) s = .next t ∧
          t.noc.answers = s.noc.answers ++ [⟨q, .buserr, 0⟩] ∧ ∀ a, t.readByte a = s.readByte a)

/-! The object dictionary (chapters 2, 3 and 13). -/

/-- A staged write (R44 to R46, R51): one that validates gets the next sequence number, waits whole in the near shadow, or in the far one
from beat B − W on, and is recorded; no object changes yet; one that does not validate is refused with event 21, one of the
wrong length with 0x0607_0010. -/
def Obligations.StagedWrites : Prop :=
  ∀ (p : Path) (index : BitVec 16) (sub : BitVec 8) (data : List Byte) (r : ObjRow) (s : State),
    let idx := index.toNat
    let n := sub.toNat
    let w := dropReserved idx n (ofBytes data)
    let seq := if s.stg.lastSeq = 0xFFFFFFFF then 1 else s.stg.lastSeq + 1
    s.served = true → idx < 0x5000 → objRow idx n = some r → r.acc = .rws → idx ≠ 0x2500 → (idx, n) ≠ (0x3700, 1) →
    (r.cls = .service → s.dev = .service) → asksDeepSleep idx n w = false →
      let fits := s.stagedOk (s.atBoundary [wholePart (okey idx n) r.len w]) idx n
      (data.length = r.len → fits = true → ∃ t rec, exec (.stagedWrite p index sub data) s = .next t ∧
        t.answerOf p = ⟨idx, n, 0, seq, []⟩ ∧ t.dict = s.dict ∧ t.stg.lastSeq = seq ∧
        t.stg.pend = s.stg.pend ++ [⟨seq, p.code, false, s.arrivesFar, [wholePart (okey idx n) r.len w], false, false⟩] ∧
        t.stg.recs = (rec :: s.stg.recs).take 16 ∧ rec.seq = seq ∧ rec.index = idx ∧ rec.sub = n ∧ rec.path = p.code ∧
        rec.state = if s.arrivesFar then 2 else 1) ∧
      (data.length = r.len → fits = false →
        exec (.stagedWrite p index sub data) s = .next (settle (Aborted p idx n abortRange (raise 21 s)))) ∧
      (data.length ≠ r.len → 0 < r.len →
        exec (.stagedWrite p index sub data) s = .next (settle (Aborted p idx n abortLength s)))

/-- A write of an object that carries a command is that command (R8): the training request of a lane group, the
requests of a DRAM channel and of a Keeper, scrub requests, invalidations, archive releases and the objects of the
communication profile. -/
def Obligations.ObjectCommands : Prop :=
  ∀ (p : Path) (s : State),
    (∀ v : BitVec 16, exec (.objectWrite p 0x1017 0 (toBytes 2 v.toNat)) s = exec (.heartbeatTimeWrite p v) s) ∧
    (∀ v : BitVec 8, exec (.objectWrite p 0x1003 0 (toBytes 1 v.toNat)) s = exec (.errorFieldClear p v) s ∧
      exec (.objectWrite p 0x2800 0xA (toBytes 1 v.toNat)) s = exec (.scrubRequest p v) s) ∧
    (∀ (e : Fin 8) (v : BitVec 32), exec (.objectWrite p 0x1016 (BitVec.ofNat 8 (e.val + 1)) (toBytes 4 v.toNat)) s =
      exec (.consumerHeartbeatWrite p e v) s) ∧
    (∀ v : BitVec 32, exec (.objectWrite p 0x2800 7 (toBytes 4 v.toNat)) s = exec (.regionInvalidate p v) s) ∧
    (∀ data : List Byte, exec (.objectWrite p 0x3800 0x12 data) s = exec (.archiveRelease p data) s) ∧
    (∀ (g : Fin 32) (v : BitVec 8) (data : List Byte),
      exec (.objectWrite p (BitVec.ofNat 16 (0x3500 + g.val)) 0xA (toBytes 1 v.toNat)) s =
        exec (.laneTrainingRequest p g v) s ∧
      exec (.objectWrite p (BitVec.ofNat 16 (0x3500 + g.val)) 0x17 data) s = exec (.eyeScanRequest p g data) s) ∧
    (∀ c : Fin 16,
      let idx := BitVec.ofNat 16 (0x3810 + c.val)
      exec (.objectWrite p idx 0xB [1]) s = exec (.retrainPeriodicRequest p c) s ∧
      exec (.objectWrite p idx 0xB [2]) s = exec (.retrainFullRequest p c) s ∧
      exec (.objectWrite p idx 0xC [1]) s = exec (.rfmSweepRequest p c) s ∧
      exec (.objectWrite p idx 0xD [1]) s = exec (.rescrambleSweepRequest p c) s ∧
      exec (.objectWrite p idx 0xD [2]) s = exec (.dramInitialiseRequest p c) s) ∧
    ∀ k : Fin 4, exec (.objectWrite p (BitVec.ofNat 16 (0x3900 + k.val)) 1 [1]) s = exec (.keeperRun p k) s ∧
      exec (.objectWrite p (BitVec.ofNat 16 (0x3900 + k.val)) 1 [2]) s = exec (.keeperStop p k) s

/-- Writes of objects that take effect at once (R8 to R10, R93, R333, R334, Table 13-2): a stored value in range is kept, an object that
is only read refuses, a Service-class object refuses outside SERVICE, cause bits are cleared by ones, a mailbox value waits
for the next beat, and a PROBE_SEL word is staged as one write of two fields. While the dictionary is not served a write has no
effect. -/
def Obligations.ObjectWrites : Prop :=
  ∀ (p : Path) (s : State),
    (s.served = false → ∀ index sub data, exec (.objectWrite p index sub data) s = .next (settle s)) ∧
    (s.served = true →
      (∀ (index : BitVec 16) (sub : BitVec 8) (data : List Byte) (r : ObjRow), index.toNat < 0x5000 →
        objRow index.toNat sub.toNat = some r →
        (r.acc = .ro → exec (.objectWrite p index sub data) s =
          .next (settle (Aborted p index.toNat sub.toNat abortReadOnly s))) ∧
        (r.acc ≠ .ro → r.cls = .service → s.dev ≠ .service → exec (.objectWrite p index sub data) s =
          .next (settle (Aborted p index.toNat sub.toNat abortState s)))) ∧
      (∀ (sub : BitVec 8) (data : List Byte) (r : ObjRow), objRow 0x2300 sub.toNat = some r → r.acc = .rw →
        data.length = r.len → r.cls ≠ .service ∨ s.dev = .service →
        (valueOk 0x2300 sub.toNat (ofBytes data) = true → exec (.objectWrite p 0x2300 sub data) s = .next (settle
          (Acked p 0x2300 sub.toNat (s.setObj 0x2300 sub.toNat (dropReserved 0x2300 sub.toNat (ofBytes data)))))) ∧
        (valueOk 0x2300 sub.toNat (ofBytes data) = false → exec (.objectWrite p 0x2300 sub data) s = .next (settle
          (Aborted p 0x2300 sub.toNat abortRange s)))) ∧
      (∀ (g : Fin 32) (v : BitVec 16), ∃ y,
        exec (.objectWrite p (BitVec.ofNat 16 (0x3500 + g.val)) 0xF (toBytes 2 v.toNat)) s = .next (settle
          (Acked p (0x3500 + g.val) 0xF (s.setGroup g.val { s.group g.val with causes := y }))) ∧
        ∀ k, bitOf y k = (bitOf (s.group g.val).causes k && !v.getLsbD k)) ∧
      (∀ (st : Fin 256) (v : BitVec 16), ∃ m, exec (.keeperMailboxWrite p st v) s = .next (settle
          (Acked p (0x4000 + st.val) 0x11 { s with fab := { s.fab with mailAccepted := m } })) ∧
        ∀ j, Tbl.at 0 m j = if j = st.val then v.toNat else Tbl.at 0 s.fab.mailAccepted j) ∧
      ∀ word : BitVec 40, s.tapRuns = true → s.cfg.splice = none → s.loadRuns = false →
        s.stagedOk (s.atBoundary (probeParts word.toNat)) 0x3000 2 = true →
          ∃ t rec, exec (.probeSel word) s = .next t ∧ t.cfg.tap = 0x15 ∧ t.cfg.probeChannel = bitsAt word.toNat 32 5 ∧
            t.cfg.tdr = s.probeSelection s.cfg.probeChannel ∧
            t.dict = s.dict ∧ t.stg.recs = (rec :: s.stg.recs).take 16 ∧ rec.multi = true ∧ rec.index = 0x3000 ∧ rec.sub = 1 ∧
            rec.path = 0 ∧ t.stg.lastSeq = rec.seq ∧ ∃ w, t.stg.pend = s.stg.pend ++ [w] ∧ w.seq = rec.seq ∧
              w.parts.map StagePart.key = [0x300001, 0x300002])

/-- The engine has nothing to do. -/
def EngineIdle (s : State) : Prop := s.eng.jobs = [] ∧ s.eng.current = none

/-- The engine works on a request of a client, and on no other. -/
def EngineServes (t : State) (c : Nat) (kind : JobKind) (idx sub ops : Nat) : Prop :=
  ∃ j, t.eng.current = some j ∧ t.eng.jobs = [] ∧ j.client = c ∧ j.kind = kind ∧ j.index = idx ∧ j.sub = sub ∧ j.opsLeft = ops

/-- Requests in pieces at the Survey port and at the window slots, and the engine (R335, R336, R355 to R357, Tables 13-10 to 13-13):
a read and a final write reach the idle engine, a poll shows the last response and asks nothing, a segment is collected in order or
refused with 0x0504_0001; an operation that
is not the last goes on; the last one of a read answers with the bytes of the object, of an absent object with its abort code. A request line that crosses
from NOC to SVC outside the ratio limits arrives as a free value (R176): that it is still answered OK, and changes no object at once, is the
model's reading of a crossing that gives no guarantee (notes/assumptions/26.md). -/
def Obligations.DictionaryRequests : Prop :=
  (∀ (word : BitVec 128) (s : State), s.surveyOpen = true → s.loadRuns = false → s.served = true → EngineIdle s →
    let w := word.toNat
    let index := bitsAt w 112 16
    let sub := bitsAt w 104 8
    let op := bitsAt w 102 2
    let offset := bitsAt w 64 32
    let data := (toBytes 8 w).take (bitsAt w 99 3 + 1)
    let x := s.session 0
    let have_ := if x.collecting then x.buf else []
    (op = 0 → x.copyValid = false → ∃ t, exec (.dictRead word) s = .next t ∧ t.cfg.tap = 0x13 ∧ t.cfg.tdr = s.surveyWord ∧
      t.eng.survey.done = false ∧ EngineServes t 0 (.read offset 8) index sub 1) ∧
    (op = 3 → ∃ t, exec (.dictRead word) s = .next t ∧ t.cfg.tap = 0x13 ∧ t.cfg.tdr = s.surveyWord ∧ t.eng = s.eng ∧
      t.dict = s.dict) ∧
    (offset = have_.length → have_.length + data.length ≤ 131072 → x.collecting = false ∨ (x.index = index ∧ x.sub = sub) →
      (op = 1 → ∃ t, exec (.dictWriteSegment word) s = .next t ∧ EngineIdle t ∧ t.eng.survey.done = true ∧
        t.eng.survey.err = false ∧ (t.session 0).buf = have_ ++ data ∧ (t.session 0).collecting = true ∧ t.dict = s.dict) ∧
      (op = 2 → ∃ t, exec (.dictWriteFinal word) s = .next t ∧ t.eng.survey.done = false ∧ t.dict = s.dict ∧
        EngineServes t 0 (.write (have_ ++ data)) index sub (max 1 (((have_ ++ data).length + 63) / 64)))) ∧
    (op = 1 → offset ≠ have_.length → ∃ t, exec (.dictWriteSegment word) s = .next t ∧ EngineIdle t ∧
      t.eng.survey.done = true ∧ t.eng.survey.err = true ∧ t.eng.survey.code = 0x05040001 ∧ t.session 0 = {} ∧
      t.dict = s.dict)) ∧
  (∀ (q : ReqId) (k : Fin 4) (index : BitVec 16) (sub : BitVec 8) (offset : BitVec 32) (len : BitVec 8) (data : List Byte)
    (s : State), s.l0Runs = true → s.served = true → EngineIdle s → CleanRequest s q → s.crossDelay 4 0 = 0 → 1 ≤ len.toNat → len.toNat ≤ 48 →
    data.length = 48 →
    let c := 3 + k.val
    let x := s.session c
    let have_ := if x.collecting then x.buf else []
    let all := have_ ++ data.take len.toNat
    let ok := fun (t : State) => t.noc.answers = s.noc.answers ++ [⟨q, .ok, 0⟩] ∧ t.dict = s.dict
    (s.svcBroken = true → (∃ t, exec (.windowRead q k index sub offset len) s = .next t ∧ ok t) ∧
      (∃ t, exec (.windowWriteSegment q k index sub offset len data) s = .next t ∧ ok t) ∧
      ∃ t, exec (.windowWriteFinal q k index sub offset len data) s = .next t ∧ ok t) ∧
    (s.svcBroken = false → x.copyValid = false → ∃ t, exec (.windowRead q k index sub offset len) s = .next t ∧ ok t ∧
      EngineServes t c (.read offset.toNat len.toNat) index.toNat sub.toNat 1) ∧
    (s.svcBroken = false → offset.toNat = have_.length → all.length ≤ 131072 →
      x.collecting = false ∨ (x.index = index.toNat ∧ x.sub = sub.toNat) →
      (∃ t, exec (.windowWriteSegment q k index sub offset len data) s = .next t ∧ ok t ∧ EngineIdle t ∧
        (t.session c).buf = all) ∧
      ∃ t, exec (.windowWriteFinal q k index sub offset len data) s = .next t ∧ ok t ∧
        EngineServes t c (.write all) index.toNat sub.toNat (max 1 ((all.length + 63) / 64)))) ∧
  ∀ (j : Job) (s : State), s.served = true → s.eng.current = some j → s.eng.jobs = [] →
    (1 < j.opsLeft → j.started = true → ∃ t, exec .dictOperationDone s = .next t ∧
      EngineServes t j.client j.kind j.index j.sub (j.opsLeft - 1) ∧ t.dict = s.dict) ∧
    (∀ off len, j.opsLeft = 1 → s.can.rx = [] → j.client = 0 → j.kind = .read off len →
      (∀ r, objRow j.index j.sub = some r → j.index < 0x2300 → ∃ t, exec .dictOperationDone s = .next t ∧ EngineIdle t ∧
        t.answerOf .survey = ⟨j.index, j.sub, 0, 0, s.objectBytes j.index j.sub⟩ ∧ t.eng.survey.done = true ∧
        t.eng.survey.err = false ∧ t.eng.survey.code = (s.objectBytes j.index j.sub).length ∧
        t.eng.survey.data = (((s.objectBytes j.index j.sub).drop off).take len ++ List.replicate 8 0).take 8) ∧
      (indexExists j.index = false → j.index < 0x5000 → ∃ t, exec .dictOperationDone s = .next t ∧ EngineIdle t ∧
        t.answerOf .survey = ⟨j.index, j.sub, 0x06020000, 0, []⟩ ∧ t.eng.survey.err = true ∧
        t.eng.survey.code = 0x06020000))

/-! The CAN node (chapter 13). -/

/-- The engine can take a received frame at once: none waits, and no request of the CAN path runs (R335, R342, R348). -/
def CanReady (s : State) : Prop := s.canHears = true ∧ s.can.rx = [] ∧ s.clientBusy 1 = false

/-- NMT commands on a node that hears its bus after Initialisation (R343, R346, R376, Tables 13-5 and 13-6): a start becomes pending in
CONFIGURED, returns HOLD to RUN, and is refused with event 1505 in SERVICE; a stop and Pre-operational take RUN to HOLD; Reset
Node is a warm reset with cause 5 on the CAN path; Reset Communication sets the communication profile to its defaults and
sends the boot-up message. A changed NMT state raises event 1504. -/
def Obligations.NmtCommands : Prop :=
  ∀ (newMs : Bool) (s : State), CanReady s → s.can.nmt ≠ .initialisation →
    let heard := { s with can := { s.can with
      framesRx := wrapInc 32 s.can.framesRx, sent := [], overrunMs := s.can.overrunMs && !newMs } }
    let enters := fun (v : Nmt) (t : State) => if s.can.nmt = v then t else raise 1504 { t with can := { t.can with nmt := v } }
    (s.dev = .service → exec (.nmtStart newMs) s = .next (settle (raise 1505 heard))) ∧
    (s.dev = .configured → s.time.startPending = false → exec (.nmtStart newMs) s = .next (settle { heard with
      time := { s.time with startPending := true, startFar := s.arrivesFar } })) ∧
    (s.dev = .hold → exec (.nmtStart newMs) s = .next (settle (enters .operational { heard with dev := .run }))) ∧
    (s.dev = .run → exec (.nmtStop newMs) s = .next (settle (enters .stopped { heard with dev := .hold })) ∧
      exec (.nmtEnterPreOperational newMs) s = .next (settle (enters .preOperational { heard with dev := .hold }))) ∧
    (s.dev = .configured → exec (.nmtStop newMs) s = .next (settle (enters .stopped { heard with
      time := { s.time with startPending := false, startFar := false } }))) ∧
    (∀ multi, s.rst.phase = .service → ∃ t, exec (.nmtResetNode newMs multi) s = .next t ∧ WarmResetLeaves 5 multi 1 s t) ∧
    ∃ t, exec (.nmtResetCommunication newMs) s = .next t ∧ t.can.nmt = .preOperational ∧ t.can.nodeId = s.can.nodeId ∧
      t.can.txErr = 0 ∧ t.can.rxErr = 0 ∧ t.can.errorField = [] ∧ t.can.consumers = List.replicate 8 {} ∧
      (t.dev = if s.dev = .run then .hold else s.dev) ∧
      (∃ frame, t.can.sent = [frame] ∧ frame = ⟨0x700 + s.can.nodeId, false, [0]⟩) ∧
      ∀ idx sub, sub < 256 → t.obj idx sub =
        if 0x1000 ≤ idx ∧ idx < 0x2000 ∧ idx ≠ 0x1F80 then State.reset.obj idx sub else s.obj idx sub

/-- USDO transfers (R345, R347 to R349): an initiate with expedited data and the last segment of a download reach the idle engine as one
write, an upload initiate as one read; segments move on by their toggle; an upload segment sends the next bytes of the copy;
a segment that no session expects, a wrong toggle, and 1 s without a segment abort the session with an abort frame, counted, with event
1510; a new initiate over an open session aborts it in the same way, without a frame. In Stopped a request is ignored. The bytes of a USDO
frame are the opaque `Config.usdoFrame`: CiA 1301 gives them, and the spec only names it (PRESUMED, notes/assumptions/22.md). -/
def Obligations.UsdoTransfers : Prop :=
  ∀ (newMs : Bool) (index : BitVec 16) (sub : BitVec 8) (size : Nat) (data : List Byte) (s : State), CanReady s → EngineIdle s →
    let x := s.session 1
    let aborts := fun (o : Host.Outcome State Fault Refusal) (code : Nat) => ∃ u, o = .next (settle (raise 1510 u)) ∧
      EngineIdle u ∧ (u.session 1).opened = 0 ∧ u.can.aborted = satInc 32 s.can.aborted ∧ (u.answerOf .can).code = code ∧
      u.dict = s.dict ∧ ∃ i j : Nat, u.can.sent = [⟨0x580 + s.can.nodeId, true, Config.usdoFrame (.abort code) i j []⟩]
    (s.can.nmt = .stopped → exec (.usdoUploadInitiate newMs index sub) s =
      .next (settle { s with can := { s.can with
        framesRx := wrapInc 32 s.can.framesRx, sent := [], overrunMs := s.can.overrunMs && !newMs } })) ∧
    (s.can.nmt = .preOperational ∨ s.can.nmt = .operational →
      (x.opened = 0 →
        (∃ t, exec (.usdoDownloadInitiate newMs index sub size (some data)) s = .next t ∧ t.dict = s.dict ∧
          EngineServes t 1 (.write data) index.toNat sub.toNat (max 1 ((data.length + 63) / 64))) ∧
        (size ≤ 131072 → ∃ t, exec (.usdoDownloadInitiate newMs index sub size none) s = .next t ∧ EngineIdle t ∧
          (t.session 1).opened = 1 ∧ (t.session 1).size = size ∧ (t.session 1).index = index.toNat ∧
          (t.session 1).sub = sub.toNat ∧ (t.session 1).buf = [] ∧ (t.session 1).toggle = false) ∧
        (∃ t, exec (.usdoUploadInitiate newMs index sub) s = .next t ∧ t.dict = s.dict ∧
          EngineServes t 1 .readRest index.toNat sub.toNat 1) ∧
        aborts (exec (.usdoUploadSegment newMs false) s) 0x05040001) ∧
      (x.opened = 1 → x.buf.length + data.length ≤ x.size →
        (∃ t, exec (.usdoDownloadSegment newMs x.toggle data false) s = .next t ∧ EngineIdle t ∧
          t.session 1 = { x with buf := x.buf ++ data, toggle := !x.toggle }) ∧
        (x.buf.length + data.length = x.size → ∃ t, exec (.usdoDownloadSegment newMs x.toggle data true) s = .next t ∧
          (t.session 1).opened = 0 ∧ EngineServes t 1 (.write (x.buf ++ data)) x.index x.sub
            (max 1 (((x.buf ++ data).length + 63) / 64))) ∧
        aborts (exec (.usdoDownloadSegment newMs (!x.toggle) data false) s) 0x05030000) ∧
      (x.opened = 2 →
        (∃ t, exec (.usdoUploadSegment newMs x.toggle) s = .next t ∧
          t.can.sent = [⟨0x580 + s.can.nodeId, true, Config.usdoFrame (.uploadSegment x.toggle (decide (x.size ≤ x.pos + 56)))
            x.index x.sub ((x.buf.drop x.pos).take 56)⟩] ∧
          t.session 1 = if x.size ≤ x.pos + 56 then {} else { x with pos := x.pos + 56, toggle := !x.toggle }) ∧
        aborts (exec (.usdoUploadSegment newMs (!x.toggle)) s) 0x05030000) ∧
      (x.opened ≠ 0 → aborts (exec .usdoSessionTimeout s) 0x05040000 ∧
        ∃ u, exec (.usdoDownloadInitiate newMs index sub size (some data)) s = .next (settle (raise 1510 u)) ∧
          u.can.aborted = satInc 32 s.can.aborted ∧ u.can.sent = [] ∧ (u.session 1).opened = 0 ∧ u.dict = s.dict ∧
          EngineServes u 1 (.write data) index.toNat sub.toNat (max 1 ((data.length + 63) / 64))))

/-- Heartbeats, emergency messages and the controller's error states (R341, R342, R350 to R354, Tables 13-7 and 13-8): what is sent, what
is monitored, and what each error state raises. The error counts 128 and 256 at which the controller turns passive and goes bus-off are those
of ISO 11898-1 (PRESUMED, notes/assumptions/28.md); that CAN_RX_OVERRUN counts a dropped frame at any fill of the model's FIFO is the
model's choice (notes/assumptions/27.md). -/
def Obligations.CanServices : Prop :=
  ∀ (p : Path) (s : State), s.served = true →
    (s.canTalks = true → s.can.nmt ≠ .initialisation → s.obj 0x1017 0 ≠ 0 →
      ∃ t, exec .heartbeatSend s = .next t ∧ t.dict = s.dict ∧ t.can.sent = [⟨0x700 + s.can.nodeId, false, [match s.can.nmt with
        | .preOperational => 0x7F
        | .operational => 0x05
        | _ => 0x04]⟩]) ∧
    (∀ (newMs : Bool) (node : BitVec 7) (state : BitVec 8) (n : Fin 8), CanReady s → s.can.consumers.length = 8 →
      s.obj 0x1016 (n.val + 1) ≠ 0 → bitsAt (s.obj 0x1016 (n.val + 1)) 16 8 = node.toNat →
      ∃ t, exec (.heartbeatReceived newMs node state) s = .next t ∧
        t.can.consumers[n.val]? = some { monitoring := true, timedOut := false }) ∧
    (∀ n : Fin 8, s.can.consumers.getD n.val {} = { monitoring := true, timedOut := false } →
      s.can.emcyQueue.length < 32 → exec (.heartbeatTimeout n) s = .next (settle (raise 1508 { s with can := { s.can with
        consumers := s.can.consumers.set n.val { monitoring := true, timedOut := true }
        emcyQueue := s.can.emcyQueue ++
          [{ code := 0x8130, field := bitsAt (s.obj 0x1016 (n.val + 1)) 16 8 }] } }))) ∧
    (∀ v : BitVec 16, exec (.heartbeatTimeWrite p v) s = .next (settle (Acked p 0x1017 0 (s.setObj 0x1017 0 v.toNat)))) ∧
    (∀ (n : Fin 8) (v : BitVec 32), (s.consumerOk n.val v.toNat = true →
        exec (.consumerHeartbeatWrite p n v) s = .next (settle (Acked p 0x1016 (n.val + 1)
          { s.setObj 0x1016 (n.val + 1) (v.toNat % 2 ^ 24) with can := { s.can with
            consumers := s.can.consumers.set n.val {} } }))) ∧
      (bitsAt v.toNat 16 8 = s.can.nodeId → v.toNat % 2 ^ 24 ≠ 0 →
        exec (.consumerHeartbeatWrite p n v) s = .next (settle (Aborted p 0x1016 (n.val + 1) abortRange s)))) ∧
    (exec (.errorFieldClear p 0) s = .next (settle (Acked p 0x1003 0
        { s with can := { s.can with errorField := [], manufacturerBit := false } })) ∧
      ∀ v, v ≠ 0 → exec (.errorFieldClear p v) s = .next (settle (Aborted p 0x1003 0 abortRange s))) ∧
    (∀ m rest, s.can.emcyQueue = m :: rest → s.canTalks = true → s.can.nmt ≠ .initialisation → Quiet s →
      ∃ t, exec .emcySend s = .next t ∧ t.can.emcyQueue = rest ∧ t.can.emcySent = wrapInc 32 s.can.emcySent ∧
        t.can.errorField = ((m.code % 2 ^ 16 + m.field % 2 ^ 16 * 2 ^ 16) :: s.can.errorField).take 8 ∧
        t.can.sent = [⟨0x80 + s.can.nodeId, false, toBytes 2 m.code ++ toBytes 1 s.errorRegister ++ toBytes 5 m.field⟩]) ∧
    (∀ tx rx : Nat, s.canTalks = true →
      let b := if 256 ≤ tx then 2 else if 128 ≤ tx ∨ 128 ≤ rx then 1 else 0
      let u := { s with can := { s.can with txErr := tx, rxErr := rx, bus := b } }
      exec (.canBusError tx rx) s = .next (settle (if s.can.bus < b then raise 1506 u else u))) ∧
    (s.can.bus = 2 → s.can.emcyQueue.length < 32 → exec .canBusOffRecovery s = .next (settle { s with can := { s.can with
      txErr := 0, rxErr := 0, bus := 0, recoveries := satInc 32 s.can.recoveries
      emcyQueue := s.can.emcyQueue ++ [{ code := 0x8140, field := 0 }] } })) ∧
    (∀ dropped : Nat, s.canTalks = true → s.can.emcyQueue.length < 32 →
      exec (.canRxOverrun dropped true) s = .next (settle (raise 1507 { s with can := { s.can with
        dropped := satInc 32 s.can.dropped, overrunMs := true
        emcyQueue := s.can.emcyQueue ++ [{ code := 0x8110, field := dropped % 2 ^ 16 }] } }))) ∧
    (s.can.bus = 3 → s.clk.daymark = true → ∃ b, exec .canRejoin s =
      .next (settle { s with can := { s.can with bus := b } }) ∧ b < 3)

/-! The Survey port, image loads and scrubbing (chapter 14). -/

/-- An instruction is selected, the instruction register captures 0b00_0000_0001, and the data register captures a value: the balls follow,
and nothing else but the boundary-scan register and what Shift-DR moves changes (R362). -/
def TapSelects (code tdr : Nat) (s : State) (o : Host.Outcome State Fault Refusal) : Prop :=
  ∃ u, o = .next (settle u) ∧ u = { s with
    freeCtr := u.freeCtr
    cfg := { s.cfg with
      tap := code, tdr := tdr, irOut := 1, boundary := u.cfg.boundary, armed := u.cfg.armed, bits := u.cfg.bits, tdo := u.cfg.tdo }
    pins := { s.pins with drive := u.pins.drive, driven := u.pins.driven } }

/-- Instructions of the Survey port (R362, R363, R368, R369, R373, Table 14-1) of a device that is not spliced: each selects its data
register; HIGHZ floats every ball; the bits of whole bytes, the first bit first, or bytes on the wide pins, after CFG_LOAD or CFG_WIDE start a load; CHAIN_SEL splices a port on a manager and is
BYPASS on a worker; the boundary-scan instructions and the test reset abort a load in progress with code 14, BYPASS does not. What EXTEST and
SAMPLE capture is the opaque `Config.boundaryScan` (DESIGN CHOICE, notes/assumptions/102.md: a file of its own gives the register), and that
HIGHZ floats every ball is PRESUMED of the instruction of that name (notes/assumptions/102.md and 133.md). -/
def Obligations.SurveyInstructions : Prop :=
  ∀ s : State, s.tapRuns = true →
    (s.cfg.splice = none → s.loadRuns = false →
      TapSelects 0 (Config.boundaryScan s.freeCtr) s (exec .extest s) ∧
      TapSelects 1 (s.part.stepping / 256 % 16 * 2 ^ 28 + 0x0B03096F) s (exec .idcode s) ∧
      TapSelects 2 (Config.boundaryScan s.freeCtr) s (exec .samplePreload s) ∧
      TapSelects 3 0 s (exec .clamp s) ∧ TapSelects 4 0 s (exec .highz s) ∧ TapSelects 0x3FF 0 s (exec .bypass s) ∧
      TapSelects 0x10 0 s (exec (.cfgLoad []) s) ∧ TapSelects 0x11 0 s (exec (.cfgWide []) s) ∧
      TapSelects 0x12 s.loadStatus s (exec .cfgStatus s) ∧
      (∃ t, exec .highz s = .next t ∧ t.pins.driven = 0) ∧
      (∀ first : List Byte, s.l0Runs = true → 0 < first.length → first.length < 64 →
        (∃ t, exec (.cfgLoad (bitsOfBytes first)) s = .next t ∧ t.cfg.tap = 0x10 ∧ t.cfg.load = .header ∧
          t.cfg.bytes = first.length ∧ t.cfg.partBytes = first ∧ t.cfg.error = 0 ∧ t.cfg.frames = s.cfg.frames ∧
          t.cfg.tdo = (s.cfg.pass :: bitsOfBytes first).take (8 * first.length)) ∧
        ∃ t, exec (.cfgWide first) s = .next t ∧ t.cfg.tap = 0x11 ∧ t.cfg.load = .header ∧
          t.cfg.bytes = first.length ∧ t.cfg.partBytes = first ∧ t.cfg.error = 0 ∧ t.cfg.frames = s.cfg.frames) ∧
      (s.manager = false → ∀ w, TapSelects 0x3FF 0 s (exec (.chainSel w) s))) ∧
    (s.manager = true → s.loadRuns = false → ∀ w : BitVec 4, ∃ t, exec (.chainSel w) s = .next t ∧ t.cfg.tap = 0x14 ∧
      t.dict = s.dict ∧ t.cfg.splice = if w.getLsbD 2 = false then none
        else if s.obj 0x3600 0x10 = 0 ∧ w.toNat % 4 ≠ 0 then s.cfg.splice else some (w.toNat % 4)) ∧
    (s.loadRuns = false → ∃ t, exec .testLogicReset s = .next t ∧ t.cfg.tap = 1 ∧ t.cfg.splice = none ∧
      t.cfg.load = s.cfg.load ∧ t.cfg.frames = s.cfg.frames) ∧
    (s.cfg.splice = none → s.cfg.load = .frames →
      (∃ t, exec .extest s = .next t ∧ t.cfg.load = .failed ∧ t.cfg.error = 14 ∧ t.cfg.fails = satInc 32 s.cfg.fails ∧
        ∀ k, k < 16 → bitOf s.cfg.mask k = true → t.region s.cfg.slot k = .failed) ∧
      (∃ t, exec .testLogicReset s = .next t ∧ t.cfg.load = .failed ∧ t.cfg.error = 14) ∧
      ∃ t, exec .bypass s = .next t ∧ t.cfg.load = .frames ∧ t.cfg.framesSeen = s.cfg.framesSeen)

/-- A load fails with a code: FAILED, counted, and the sectors that it had begun to load FAILED with their storage at 0, where no fence keeps
the engine out of it (R264, R370, R371; the latter DEDUCED, notes/assumptions/196.md). -/
def LoadFails (code : Nat) (s : State) (o : Host.Outcome State Fault Refusal) : Prop :=
  ∃ t, o = .next t ∧ t.cfg.load = .failed ∧ t.cfg.error = code ∧ t.cfg.fails = satInc 32 s.cfg.fails ∧
    (∀ k, k < 16 → bitOf s.cfg.mask k = true → t.region s.cfg.slot k = .failed) ∧
    ∀ key, Tbl.at 0 t.cfg.frames key =
      if key / 2 ^ 32 = s.cfg.slot ∧ bitOf s.cfg.mask (bitsAt key 28 4) = true ∧ s.fenced (bitsAt key 28 4) = false then 0
      else Tbl.at 0 s.cfg.frames key

/-- The engine takes bytes of the path, a part of the image is due, and some of its bytes, but not all, have come. -/
def PartDue (wide : Bool) (part : List Byte) (s : State) : Prop :=
  s.takesBytes wide = true ∧ s.cfg.bits = [] ∧ s.cfg.partBytes.length < part.length ∧
  s.cfg.partBytes = part.take s.cfg.partBytes.length

/-- An image load (R365 to R372, Table 14-7), by CFG_LOAD or on the wide pins: a header that passes its checks makes its sectors LOADING, one
that fails ends the load with its code; frames are stored at their address with their check bits and CRC, or wait for the clear, which
zeroes the loaded sectors and then stores what waits, the later over the earlier, where the crossing into the configuration storage transfers
defined values (R176); a frame of a fenced sector changes nothing there (R264; DEDUCED, notes/assumptions/196.md); a bad address ends the
load with code 9, one outside the mask with code 10; a trailer whose CRC does not match ends it with code 11; the end of the checks makes the
sectors that are LOADING VALID with the image's contract, or fails the load. -/
def Obligations.ImageLoads : Prop :=
  ∀ (wide : Bool) (s : State),
    (∀ header : BitVec 512, PartDue wide (toBytes 64 header.toNat) s → s.cfg.load = .header →
      let h := header.toNat
      (s.headerError h = 0 → ∃ t, exec (.imageHeader wide header) s = .next t ∧ t.cfg.load = .frames ∧ t.cfg.slot = headSlot h ∧
        t.cfg.mask = headMask h ∧ t.cfg.framesSeen = 0 ∧ t.cfg.cleared = false ∧
        t.cfg.bytes + s.cfg.partBytes.length = s.cfg.bytes + 64 ∧ t.cfg.partBytes = [] ∧
        t.cfg.frames = s.cfg.frames ∧ ∀ v k, k < 16 → t.region v k =
          if v = headSlot h ∧ bitOf (headMask h) k = true then .loading else s.region v k) ∧
      (s.headerError h ≠ 0 → s.headerError h ≠ 5 → ∃ t, exec (.imageHeader wide header) s = .next t ∧ t.cfg.load = .failed ∧
        t.cfg.error = s.headerError h ∧ t.cfg.fails = satInc 32 s.cfg.fails ∧ t.cfg.frames = s.cfg.frames ∧
        t.cfg.regions = s.cfg.regions)) ∧
    (∀ (a : BitVec 32) (v : BitVec 2560), PartDue wide (toBytes 4 a.toNat ++ toBytes 320 v.toNat) s → s.cfg.load = .frames →
      s.cfg.framesSeen < headFrames s.header →
      let k := bitsAt a.toNat 28 4
      let place := s.cfg.slot * 2 ^ 32 + a.toNat
      (badAddress a.toNat = true → LoadFails 9 s (exec (.imageFrame wide a v) s)) ∧
      (badAddress a.toNat = false → bitOf s.cfg.mask k = false → LoadFails 10 s (exec (.imageFrame wide a v) s)) ∧
      (badAddress a.toNat = false → bitOf s.cfg.mask k = true → ∃ t, exec (.imageFrame wide a v) s = .next t ∧
        t.cfg.load = .frames ∧ t.cfg.framesSeen = s.cfg.framesSeen + 1 ∧
        t.cfg.bytes + s.cfg.partBytes.length = s.cfg.bytes + 324 ∧
        (s.cfg.cleared = true → t.cfg.buffered = s.cfg.buffered ∧ (s.cfgBroken = false →
          (s.fenced k = true → t.cfg.frames = s.cfg.frames ∧ t.cfg.checks = s.cfg.checks) ∧
          (s.fenced k = false → Tbl.at 0 t.cfg.checks place = frameChecks v.toNat ∧
            ∀ key, Tbl.at 0 t.cfg.frames key = if key = place then v.toNat else Tbl.at 0 s.cfg.frames key))) ∧
        (s.cfg.cleared = false → t.cfg.frames = s.cfg.frames ∧
          t.cfg.buffered = s.cfg.buffered ++ [(a.toNat, v.toNat)]))) ∧
    (s.cfg.load = .frames → s.cfg.cleared = false → ∃ t, exec .slotClearDone s = .next t ∧ t.cfg.cleared = true ∧
      t.cfg.buffered = [] ∧ t.cfg.load = .frames ∧
      (∀ key, s.fenced (bitsAt key 28 4) = true → Tbl.at 0 t.cfg.frames key = Tbl.at 0 s.cfg.frames key) ∧
      (s.cfgBroken = false → ∀ key, s.fenced (bitsAt key 28 4) = false → Tbl.at 0 t.cfg.frames key =
        match (s.cfg.buffered.reverse.find? (fun f => s.cfg.slot * 2 ^ 32 + f.1 == key)) with
        | some f => f.2
        | none => if key / 2 ^ 32 = s.cfg.slot ∧ bitOf s.cfg.mask (bitsAt key 28 4) = true then 0
          else Tbl.at 0 s.cfg.frames key)) ∧
    (∀ (crc : BitVec 32) (block : List Byte), PartDue wide (toBytes 4 crc.toNat ++ block) s → s.cfg.load = .frames →
      s.cfg.framesSeen = headFrames s.header →
      (crc.toNat ≠ crc32c s.cfg.stream → LoadFails 11 s (exec (.imageTrailer wide crc block) s)) ∧
      (crc.toNat = crc32c s.cfg.stream → headSigned s.header = false → block = [] →
        ∃ t, exec (.imageTrailer wide crc block) s = .next t ∧
          t.cfg.load = .checking ∧ t.cfg.bytes + s.cfg.partBytes.length = s.cfg.bytes + 4) ∧
      (crc.toNat = crc32c s.cfg.stream → headSigned s.header = true → block.length = 3081 →
        ∃ t, exec (.imageTrailer wide crc block) s = .next t ∧ t.cfg.load = .checking ∧ t.cfg.sigBlock = block ∧
          t.cfg.bytes + s.cfg.partBytes.length = s.cfg.bytes + 3085)) ∧
    (∀ (crc : BitVec 32) (block : List Byte), PartDue wide block s → s.cfg.load = .signature → block.length = 3081 →
      ∃ t, exec (.imageTrailer wide crc block) s = .next t ∧ t.cfg.load = .checking ∧ t.cfg.sigBlock = block) ∧
    (s.cfg.load = .checking → s.cfg.cleared = true →
      (s.imageVerdict ≠ 0 → LoadFails s.imageVerdict s (exec .imageCheckDone s)) ∧
      (s.imageVerdict = 0 → ∃ u, exec .imageCheckDone s = .next (settle (raise 1344 u)) ∧
        u = { s with cfg := { s.cfg with
          load := .done, loads := wrapInc 32 s.cfg.loads, stream := [], sigBlock := []
          regions := u.cfg.regions, contracts := u.cfg.contracts, digests := u.cfg.digests } } ∧
        let made := fun v k => decide (v = s.cfg.slot) && bitOf s.cfg.mask k && decide (s.region v k = .loading)
        ∀ v k, k < 16 → u.region v k = (if made v k = true then .valid else s.region v k) ∧
          u.contract v k = if made v k = true then headContract s.header else s.contract v k))

/-- Scrubbing (R378, R379, R384, R513): where the crossing into the configuration storage transfers defined values (R176), a clean frame moves the pass on; one flipped bit is corrected, two in a code word make a region
that is not in force FAULTY, each counted; an error that the other scrubber finds in a scrubber's state at the start of its pass is a warm reset with cause 11; a scrub request takes
its slot, and is refused while another stands; an invalidation empties the regions it names, and is refused while one is in
force or selected. -/
def Obligations.Scrubbing : Prop :=
  (∀ (h : Fin 2) (p : ScrubPos) (peers : List (Fin 64)) (multi : Bool) (s : State), s.l0Runs = true → s.pwr.state < 2 → s.cfgBroken = false → s.reqPos h.val = none →
    s.scrubAt h.val 64 (s.scrubPos h.val) = some p → p.frame ≠ 0 → p.frame + 1 < 17409 →
    let slot := p.region / 8
    let k := 8 * h.val + p.region % 8
    let key := slot * 2 ^ 32 + regionFrameAddr k p.frame
    let reads := fun (flips : BitVec 2560) (t : State) => exec (.scrubFrameRead h peers false flips .clean multi) s = .next t ∧
      t.cfg.frames = s.cfg.frames ∧ (∀ n, n ≠ key → Tbl.at 0 t.cfg.upsets n = Tbl.at 0 s.cfg.upsets n)
    Tbl.at 0 s.cfg.upsets key = 0 →
      (∃ t, reads 0 t ∧ t.scrubPos h.val = ⟨p.region, p.frame + 1⟩ ∧ Tbl.at 0 t.cfg.upsets key = 0 ∧
        t.cfg.corrected = s.cfg.corrected ∧ t.cfg.uncorrectable = s.cfg.uncorrectable ∧ t.cfg.regions = s.cfg.regions) ∧
      (∀ n, n < 2560 → ∃ t, reads (BitVec.ofNat 2560 (2 ^ n)) t ∧ t.scrubPos h.val = ⟨p.region, p.frame + 1⟩ ∧
        Tbl.at 0 t.cfg.upsets key = 0 ∧ t.cfg.corrected = satInc 32 s.cfg.corrected ∧
        t.cfg.uncorrectable = s.cfg.uncorrectable ∧ t.cfg.regions = s.cfg.regions) ∧
      (∀ n m, n < 2560 → m < 2560 → n ≠ m → n / 64 = m / 64 → s.region slot k = .valid → s.ctxOf k ≠ slot →
        ∃ t, reads (BitVec.ofNat 2560 (2 ^ n + 2 ^ m)) t ∧ t.cfg.corrected = s.cfg.corrected ∧
          t.cfg.uncorrectable = satInc 32 s.cfg.uncorrectable ∧ t.region slot k = .faulty)) ∧
  (∀ (h : Fin 2) (peers : List (Fin 64)) (flips : BitVec 2560) (found : FrameCheck) (multi : Bool) (s : State), s.l0Runs = true →
    s.pwr.state < 2 → s.rst.phase = .service → s.reqPos h.val = none → s.checksPeer h.val = true →
      ∃ t, exec (.scrubFrameRead h peers true flips found multi) s = .next t ∧ WarmResetLeaves 11 multi 0 s t) ∧
  (∀ (p : Path) (v : BitVec 8) (s : State), s.served = true → v.toNat < 8 → s.loadClaims v.toNat = false →
    (s.cfg.request = none → ∀ a, s.scrubAt 0 (8 * v.toNat + 8) ⟨8 * v.toNat, 0⟩ = some a → ∃ t,
      exec (.scrubRequest p v) s = .next (settle (Acked p 0x2800 0xA t)) ∧ t = { s with cfg := { s.cfg with
        request := some v.toNat, reqA := some a, reqB := t.cfg.reqB, turnA := true, turnB := true } } ∧
      t.cfg.reqB = s.scrubAt 1 (8 * v.toNat + 8) ⟨8 * v.toNat, 0⟩) ∧
    (s.cfg.request.isSome = true → exec (.scrubRequest p v) s = .next (settle (Aborted p 0x2800 0xA abortBusy (raise 1350
      { s with cfg := { s.cfg with lastRefusal := v.toNat + 8 } }))))) ∧
  ∀ (p : Path) (word : BitVec 32) (s : State),
    let v := bitsAt word.toNat 16 3
    s.served = true →
      ((∀ k, k < 16 → word.getLsbD k = true → s.slotActive v k = false) → s.loadClaims v = false → s.cfg.request ≠ some v →
        ∃ u, exec (.regionInvalidate p word) s = .next (settle (Acked p 0x2800 7 u)) ∧
          u = { s with cfg := { s.cfg with regions := u.cfg.regions } } ∧ ∀ n k, k < 16 → u.region n k =
            if n = v ∧ word.getLsbD k = true then .empty else s.region n k) ∧
      (∀ k, k < 16 → word.getLsbD k = true → s.slotActive v k = true →
        exec (.regionInvalidate p word) s = .next (settle (Aborted p 0x2800 7 abortState s)))

/-! Clocks, power and thermal management (chapters 15 and 16). -/

/-- The Lantern loop coasts after a failed reference: the judge says failed, COAST is counted (R397 to R399). -/
def Coasts (s : State) (o : Host.Outcome State Fault Refusal) : Prop :=
  ∃ t, o = .next t ∧ t.clk.lantern = .coast ∧ t.clk.coasts = satInc 32 s.clk.coasts ∧ bitOf t.clk.causes 2 = true ∧
    t.dict = s.dict ∧ t.time = s.time

/-- Judges, loops and clock settings (R388, R391, R396 to R401, R436, R437, Tables 15-6 and 15-10). While no beats run, a window of the XO
judge also moves the consoles and the PMBus on by its 2.048 ms (DESIGN CHOICE, notes/assumptions/186.md). -/
def Obligations.ClockLoops : Prop :=
  (∀ (count : Nat) (s : State), s.aonRuns = true →
    let pass := decide (47104 ≤ count ∧ count ≤ 55296)
    let counts := fun (passes : Nat) => ∃ u, exec (.xoWindowEnd count) s = .next (settle u) ∧ u.clk = { s.clk with
        xoCount := count % 2 ^ 32, xoWindows := s.clk.xoWindows + 1, xoPasses := passes } ∧
      u.rst = s.rst ∧ u.dict = s.dict ∧ (s.beatsRun = true → u = { s with clk := u.clk })
    (s.clk.xoGood = false → s.clk.xoWindows + 1 < 16 →
      (pass = true → s.clk.xoPasses < 2 → counts (s.clk.xoPasses + 1)) ∧
      (pass = true → s.clk.xoPasses = 2 → s.rst.phase = .xoJudging → ∃ t, exec (.xoWindowEnd count) s = .next t ∧
        t.clk.xoGood = true ∧ t.rst.phase = .daymark) ∧
      (pass = false → counts 0)) ∧
    (pass = false → s.clk.xoGood = true → ∃ t, exec (.xoWindowEnd count) s = .next t ∧ t.clk.xoGood = false ∧
      t.clk.aonFallback = true ∧ t.clk.daymark = false ∧ t.can.bus = 3 ∧ bitOf t.clk.causes 0 = true) ∧
    (pass = false → s.clk.xoGood = false → s.rst.phase = .xoJudging → s.clk.xoWindows = 15 →
      ∃ t, exec (.xoWindowEnd count) s = .next t ∧ t.rst.phase = .starting ∧ t.clk.aonFallback = true)) ∧
  (∀ (count : Nat) (s : State), s.aonRuns = true → s.clk.xoGood = true → s.clk.refTainted = false → s.referenceComes = true →
    let off := ((count : Int) - (s.obj 0x2100 1 : Int)).natAbs * 1000000
    let within := s.obj 0x2100 5 * s.obj 0x2100 1
    (off ≤ within → s.clk.refGood = false → s.clk.refPasses = 2 → s.clk.lantern = .off → s.clk.daymark = true →
      s.clk.enteredService = true → ∃ t, exec (.refWindowEnd count) s = .next t ∧ t.clk.refGood = true ∧
        t.clk.lantern = .locking) ∧
    (off ≤ within → s.clk.refGood = true → s.clk.lantern = .coast → ∃ t, exec (.refWindowEnd count) s = .next t ∧
      t.clk = { s.clk with refCount := count % 2 ^ 32, refDev := t.clk.refDev, lantern := .relock }) ∧
    (within < off → s.clk.refGood = true → s.clk.lantern = .locked → Coasts s (exec (.refWindowEnd count) s))) ∧
  (∀ s : State, s.aonRuns = true →
    (s.clk.lantern = .locked → Coasts s (exec .missingEdge s)) ∧
    (s.clk.xoGood = true → s.clk.daymark = true ∨ s.clk.memHoldover = false → exec .memoryLoopLock s =
      .next (settle { s with clk := { s.clk with memLock := true, memHoldover := false } })) ∧
    (s.clk.daymark = false → s.clk.xoGood = true → s.rst.phase = .daymark → s.marchOption = false →
      ∃ t, exec .daymarkLock s = .next t ∧ t.rst.phase = .starting ∧ t.clk.daymark = true ∧
        ∀ c, c < 16 → (t.channel c).state = .training ∧ (t.channel c).claim = .retraining) ∧
    (s.clk.daymark = false → s.clk.xoGood = true → s.rst.phase = .service → s.clk.refGood = false →
      exec .daymarkLock s = .next (settle { s with clk := { s.clk with daymark := true, aonFallback := false } }))) ∧
  (∀ s : State,
    (s.clk.lantern = .locking → ∃ t, exec .lanternLock s = .next t ∧ t.clk.lantern = .locked ∧ t.beatsRun = true ∧
      t.time = { s.time with tick := 0, cyc := 0, beat := 0, datum := 0, freshLock := true } ∧ t.dict = s.dict) ∧
    (s.clk.lantern = .relock → exec .lanternLock s = .next (settle { s with clk := { s.clk with lantern := .align } })) ∧
    (s.clk.lantern = .locking → exec .lanternLockTimeout s = .next (settle (raise 70 { s with clk := { s.clk with
      lantern := .off, causes := s.clk.causes ||| 8 } }))) ∧
    (s.clk.lantern = .relock → Coasts s (exec .lanternLockTimeout s))) ∧
  ∀ (p : Path) (s : State), s.served = true → s.dev = .service →
    (∀ m : BitVec 8,
      (s.clockOk m.toNat s.fRef = true → s.clk.lantern = .locked → ∃ t, exec (.multiplierWrite p m) s = .next t ∧
        t.obj 0x2100 2 = m.toNat ∧ t.clk.lantern = .locking ∧ ∀ q, q < 64 → t.clk.loops.getLsbD q = false) ∧
      (s.clockOk m.toNat s.fRef = false →
        exec (.multiplierWrite p m) s = .next (settle (Aborted p 0x2100 2 abortRange (raise 21 s))))) ∧
    ∀ f : BitVec 32,
      (40000 ≤ f.toNat → f.toNat ≤ 100000 → s.clockOk s.M f.toNat = true → ∃ t, exec (.referenceFrequencyWrite p f) s = .next t ∧
        t.obj 0x2100 1 = f.toNat ∧ t.clk.lantern = .off ∧ t.clk.refGood = false ∧ t.clk.refPasses = 0) ∧
      (f.toNat < 40000 ∨ 100000 < f.toNat →
        exec (.referenceFrequencyWrite p f) s = .next (settle (Aborted p 0x2100 1 abortRange (raise 21 s))))

/-- Regulators, sectors, sensors and the thermal states (R407, R408, R410, R414 to R420, Table 16-5): a fault of VL1 to VL3 is the VOLTAGE
cold reset, one of VL4 darkens and fences the pattern layer; a ramped sector opens; the exit from UPPER-OFF clears hold memory
and enters RUN with every region EMPTY; a sample moves the thermal state at its thresholds and shuts the part down at 115 °C; in a shutdown
the sensors of L0 still work. That a fault of VL4 sets 0x3100 sub 0x01 to 0 is the model's reading (notes/assumptions/175.md), and what a
cold reset leaves of the backup domain is that of notes/assumptions/120.md. -/
def Obligations.PowerAndThermal : Prop :=
  (∀ (r : Fin 4) (multi high : Bool) (s : State), s.aonRuns = true →
    (r.val < 3 → ∃ t, exec (.regulatorFault r multi high) s = .next t ∧ ColdResetLeaves 8 multi high 0 s t) ∧
    (r.val = 3 → s.part.grade ≠ .n → s.pat.layer = .on → s.pat.offAtAck = false →
      ∃ t, exec (.regulatorFault r multi high) s = .next t ∧
      t.obj 0x3100 1 = 0 ∧ t.pat.dark = true ∧ t.fenced 16 = true ∧ t.pwr.regFaults = satInc 32 s.pwr.regFaults ∧
      bitOf t.pwr.regFault 3 = true ∧ t.rst = s.rst)) ∧
  (∀ (k : Fin 16) (s : State), s.pwr.ramping.contains k.val = true → ∃ t, exec (.sectorRampDone k) s = .next t ∧
    t.pwr.ramping = s.pwr.ramping.filter (fun j => decide (j ≠ k.val)) ∧ k.val ∉ t.pwr.vl3Off ∧ k.val ∈ t.pwr.restart ∧
    (s.sectorFenceWanted k.val = false → t.noc.deviceFence.getLsbD k.val = false) ∧ t.dict = s.dict) ∧
  (∀ s : State, s.pwr.state = 3 → s.pwr.transition = 5 → ∃ t, exec .upperLayersReady s = .next t ∧ t.pwr.state = 0 ∧
    t.pwr.transition = 0 ∧ t.dict = s.dict ∧ (∀ v k, t.region v k = .empty) ∧
    ∀ a, t.readByte a = if 0x040000000000 ≤ a ∧ a < 0x040018000000 then 0 else s.readByte a) ∧
  (∀ (n : Fin 128) (r : Int) (p : Nat) (s : State), s.rst.phase = .service → n.val < 32 ∨ 48 ≤ n.val → -640 ≤ r → r ≤ 2400 →
    s.pwr.broken.getLsbD n.val = false → (storeReading n.val r s).stuckSensor n.val = false →
    let hot := (storeReading n.val r s).temperature
    let warn : Int := 16 * (s.obj 0x2300 0x10 : Int)
    let throttle : Int := 16 * (s.obj 0x2300 0x11 : Int)
    (1840 ≤ r → ∃ t, exec (.sensorSample n r p) s = .next t ∧ t.rst.phase = .shutdown ∧ t.pwr.regOn = 0 ∧
      t.clk.lantern = .off ∧ t.clk.loops = 0 ∧ t.backup.shutdownLatched = true ∧ t.rawReading n.val = r) ∧
    (r < 1840 → s.pwr.nvmPending = 0 → ∃ t, exec (.sensorSample n r p) s = .next t ∧ t.rst = s.rst ∧
      t.rawReading n.val = r ∧ t.pwr.broken = s.pwr.broken ∧
      (s.pwr.thermal = 0 → hot < warn → t.pwr.thermal = 0) ∧
      (s.pwr.thermal = 0 → warn ≤ hot → hot < throttle → t.pwr.thermal = 1) ∧
      (s.pwr.thermal = 1 → throttle ≤ hot → warn ≤ hot → t.pwr.thermal = 2) ∧
      (s.pwr.thermal = 2 → hot ≤ throttle - 80 → warn - 80 < hot → t.pwr.thermal = 1) ∧
      (s.pwr.thermal = 1 → hot ≤ warn - 80 → hot < warn → t.pwr.thermal = 0))) ∧
  (∀ (failing : BitVec 128) (s : State), s.aonRuns = true ∨ s.rst.phase = .shutdown →
    ∃ t, exec (.sensorSelfCheck failing) s = .next t ∧ t.pwr = { s.pwr with broken := t.pwr.broken } ∧
      ∀ n, n < 128 → t.pwr.broken.getLsbD n =
        (s.pwr.broken.getLsbD n || (failing.getLsbD n && (decide (n < 16) || decide (s.rst.phase ≠ .shutdown))))) ∧
  ∀ (multi high : Bool) (s : State), s.rst.phase = .shutdown → (∀ n, n < 16 → s.rawReading n ≤ 1360) →
    ∃ t, exec (.thermalShutdownExit multi high) s = .next t ∧ ColdResetLeaves 7 multi high 0 s t

/-- Supervision of the external regulators (R422, R423, R454, Table 16-8): a poll, of the entry of an alert or else of the next enabled one,
stores the status word that the bus delivers; a fault bit, a transaction that fails for the second time in a row and a third low power-good
sample fault the entry, which is counted, and switch its regulator off where its action says so; an alert names the entry that is polled
next. The bus delivers what the targets of the dedicated pins answer where no pin maps the mirror, of two answers only bits that both leave
high, and nothing over a mirror line held low (notes/assumptions/119.md). That "in a row" means in two polls of the entry is the model's
reading (notes/assumptions/187.md). -/
def Obligations.SupplySupervision : Prop :=
  (∀ (a : Nat) (own far : Option (BitVec 16)) (s : State),
    (s.inputMapped 5 = false → s.inputMapped 6 = false → s.busAnswer a own far = own) ∧
    (s.mirrorHigh 5 = false ∨ s.mirrorHigh 6 = false → s.busAnswer a own far = none) ∧
    ∀ v w, own = some v → far = some w → s.inputMapped 5 = true → s.inputMapped 6 = true →
      s.busAnswer a own far = none ∨ s.busAnswer a own far = some (v &&& w)) ∧
  ∀ (e : Fin 32) (s : State), s.pmbusRuns = true →
    let c := s.supervisor e.val
    let faulted := fun (o : Host.Outcome State Fault Refusal) => ∃ t, o = .next t ∧
      Tbl.at 0 t.pwr.pmbusFaults e.val = satInc 32 (Tbl.at 0 s.pwr.pmbusFaults e.val) ∧
      (∀ j, j ≠ e.val → Tbl.at 0 t.pwr.pmbusFaults j = Tbl.at 0 s.pwr.pmbusFaults j) ∧
      (bitOf c 16 = true → e.val ∈ t.pwr.operationOff) ∧ (bitOf c 16 = false → t.pwr.operationOff = s.pwr.operationOff) ∧
      t.pwr = { s.pwr with nextPoll := t.pwr.nextPoll, pmbusStatus := t.pwr.pmbusStatus, busFails := t.pwr.busFails,
                           pgLow := t.pwr.pgLow, pmbusFaults := t.pwr.pmbusFaults, operationOff := t.pwr.operationOff,
                           pollPos := t.pwr.pollPos, voutRead := t.pwr.voutRead } ∧
      SameBut { s with pwr := t.pwr, pins := t.pins } t
    (∀ (own far : Option (BitVec 16)) (fails : BitVec 3), bitOf c 0 = true → s.pollNext = some e.val →
      let ans := s.busAnswer (bitsAt c 1 7) own far
      let low := !s.mirrorHigh 5 || !s.mirrorHigh 6
      let failed := fun i => if i = 0 then ans.isNone else low || fails.getLsbD (i - 1)
      let before := fun i => Tbl.at 0 s.pwr.busFails (4 * e.val + i)
      let again := (List.range 4).any (fun i => failed i && decide (before i = 1))
      let bits := fun (w : BitVec 16) => w.toNat &&& 0xF87C
      (∀ w, ans = some w → bits w = 0 → again = false →
        ∃ y z v p, exec (.pmbusPoll e own far fails) s = .next (settle { s with
          pwr := { s.pwr with
            pollPos := if s.pwr.nextPoll.isSome then s.pwr.pollPos else e.val
            nextPoll := none, pmbusStatus := y, busFails := z, voutRead := v }, pins := p }) ∧
        Tbl.at 0 y e.val = w.toNat ∧ bitOf v e.val = true ∧ (∀ j, j ≠ e.val → Tbl.at 0 y j = Tbl.at 0 s.pwr.pmbusStatus j) ∧
        (∀ i, i < 4 → Tbl.at 0 z (4 * e.val + i) = if failed i = true ∧ before i = 0 then 1 else 0) ∧
        ∀ j, j / 4 ≠ e.val → Tbl.at 0 z j = Tbl.at 0 s.pwr.busFails j) ∧
      (∀ w, ans = some w → bits w ≠ 0 → again = false → faulted (exec (.pmbusPoll e own far fails) s)) ∧
      (again = true → (∀ w, ans = some w → bits w = 0) → faulted (exec (.pmbusPoll e own far fails) s)) ∧
      (ans = none → again = false → ∃ z v p, exec (.pmbusPoll e own far fails) s = .next (settle { s with
          pwr := { s.pwr with
            pollPos := if s.pwr.nextPoll.isSome then s.pwr.pollPos else e.val
            nextPoll := none, busFails := z, voutRead := v }, pins := p }) ∧
        ∀ i, i < 4 → Tbl.at 0 z (4 * e.val + i) = if failed i = true ∧ before i = 0 then 1 else 0)) ∧
    (∀ (a : BitVec 7) (level : Bool), s.alertLow level = true → bitOf c 0 = true → bitsAt c 1 7 = a.toNat →
      (∀ j, j < e.val → bitOf (s.supervisor j) 0 = false ∨ bitsAt (s.supervisor j) 1 7 ≠ a.toNat) →
      ∃ p, exec (.pmbusAlert a level) s = .next (settle { s with pwr := { s.pwr with nextPoll := some e.val }, pins := p })) ∧
    (bitOf c 0 = true → bitsAt c 24 8 < 96 → ∀ ball : Bool,
      (s.powerGood (bitsAt c 24 8) ball = true → ∃ z, exec (.powerGoodSample e ball) s = .next (settle { s with
          pwr := { s.pwr with pgLow := z } }) ∧ Tbl.at 0 z e.val = 0) ∧
      (s.powerGood (bitsAt c 24 8) ball = false → Tbl.at 0 s.pwr.pgLow e.val = 2 →
        faulted (exec (.powerGoodSample e ball) s)))

/-! Reset sources, start-up and the option bytes (chapter 17). -/

/-- Reset sources (R426, R428, R499, Table 17-1): each cold source resets whatever the device does, each warm one from SERVICE; a warm
source at any other time is not performed, and is event 99; RESET_N low resets the device and holds it in reset, where a further cold
source is logged, and the start-up begins when the pin is high again; a rail outside its window holds power-on reset; a reset
request at the dictionary is acknowledged and waits, any other value is refused, and the reset that waits is then performed with
the path that asked for it. That a cold reset clears the backup status and the shutdown count is the model's reading
(notes/assumptions/120.md). -/
def Obligations.ResetSources : Prop :=
  (∀ (m high : Bool) (s : State), s.rst.phase ≠ .powerOn → s.rst.phase ≠ .held →
    let cold := fun (c : Instr) (cause : Nat) => ∃ t, exec c s = .next t ∧ ColdResetLeaves cause m high 0 s t
    let warm := fun (c : Instr) (cause : Nat) =>
      (s.rst.phase = .service → ∃ t, exec c s = .next t ∧ WarmResetLeaves cause m 0 s t) ∧
      (s.rst.phase ≠ .service → exec c s = .next (settle (raise 99 s)))
    cold (.optionShadowParity m high) 9 ∧ cold (.clockStateParity m high) 10 ∧
    (s.sec.lcPending = true → cold (.lifeCycleReset m high) 14) ∧
    warm (.wresetPin m) 3 ∧ warm (.dictEngineStateError m) 12 ∧ warm (.nocTableParity m) 13 ∧
    let held := fun (c : Instr) (cause : Nat) (ph : Phase) =>
      ∃ t b, exec c s = .next t ∧ t.rst.phase = ph ∧ t.mem = [] ∧ t.part = s.part ∧ t.nvm = s.nvm ∧
        t.backup = { s.backup with lost := false, shutdowns := 0, resets := satInc 32 s.backup.resets
                                   causes := (⟨s.time.rot, b, cause, false, m, 0⟩ :: s.backup.causes).take 8 }
    held (.resetPin true m high) 2 .held ∧ held (.railOutOfWindow m) 8 .powerOn ∧
    exec (.resetPin false m high) s = .next (settle s)) ∧
  (∀ (m high : Bool) (s : State), s.rst.phase = .held →
    exec (.resetPin true m high) s = .next (settle s) ∧
    (∃ t, exec (.resetPin false m high) s = .next t ∧ t.rst.phase = .xoJudging ∧ t.rst.roleStrap = high ∧ t.part = s.part ∧
      t.backup.resets = s.backup.resets ∧ t.backup.causes = s.backup.causes ∧ t.backup.lost = s.backup.lost ∧
      t.rst.options = (if goodCopy s.nvm.copyA then s.nvm.copyA else if goodCopy s.nvm.copyB then s.nvm.copyB else defaultImage)) ∧
    ∃ t b, exec (.clockStateParity m high) s = .next t ∧ t.rst.phase = .held ∧ t.backup.resets = satInc 32 s.backup.resets ∧
      t.backup.lost = s.backup.lost ∧ t.backup.causes = (⟨s.time.rot, b, 10, false, m, 0⟩ :: s.backup.causes).take 8) ∧
  (∀ (p : Path) (s : State), s.served = true →
    (s.rst.pendingReset = none →
      exec (.resetRequestWarm p) s = .next (settle (Acked p 0x2200 1 { s with rst := { s.rst with
        pendingReset := some (true, p.code) } })) ∧
      exec (.resetRequestCold p) s = .next (settle (Acked p 0x2200 1 { s with rst := { s.rst with
        pendingReset := some (false, p.code) } }))) ∧
    exec (.objectWrite p 0x2200 1 [1]) s = exec (.resetRequestWarm p) s ∧
    exec (.objectWrite p 0x2200 1 [2]) s = exec (.resetRequestCold p) s ∧
    ∀ v : BitVec 8, v ≠ 1 → v ≠ 2 →
      exec (.objectWrite p 0x2200 1 [v]) s = .next (settle (Aborted p 0x2200 1 abortRange s))) ∧
  ∀ (m high : Bool) (path : Nat) (s : State), s.rst.phase = .service →
    (s.rst.pendingReset = some (true, path) → ∃ t, exec (.dictResetTakesEffect m high) s = .next t ∧ WarmResetLeaves 5 m path s t) ∧
    (s.rst.pendingReset = some (false, path) → ∃ t, exec (.dictResetTakesEffect m high) s = .next t ∧ ColdResetLeaves 4 m high path s t)

/-- Start-up and the option bytes (R29, R340, R421, R432 to R436, R464, Tables 1-6 and 17-4): the release of power-on reset logs POWER_ON,
loads the first good copy of the option bytes or the defaults, resolves the role and begins to judge the oscillator; with RESET_N low it
leaves the device in reset instead; SERVICE is entered when training, marches and the clear of the pattern layer have ended; an option
write in SERVICE stores its image in both copies, leaves copy A where copy B does not verify, or waits for the temperature window,
and a performed one replaces one that waits. That the backup status and the shutdown count start at 0 is the model's reading
(notes/assumptions/120.md); that a malformed write outside the window pends nothing (25.md) and that a lost backup domain clears
the tamper latches (124.md) are its choices. -/
def Obligations.StartUp : Prop :=
  (∀ (m high lost : Bool) (copies : Option (List Byte × List Byte)) (s : State), s.rst.phase = .powerOn →
    let a := (copies.map Prod.fst).getD s.nvm.copyA
    let b := (copies.map Prod.snd).getD s.nvm.copyB
    let sel := optionByte (if goodCopy a then a else if goodCopy b then b else defaultImage) 2 % 4
    let id := optionByte (if goodCopy a then a else if goodCopy b then b else defaultImage) 3
    let rate := optionByte (if goodCopy a then a else if goodCopy b then b else defaultImage) 4
    (∃ t, exec (.powerOnRelease true m high lost copies) s = .next t ∧ t.rst.phase = .held ∧ t.part = s.part ∧ t.backup.lost = lost ∧
      t.nvm.copyA = a ∧ t.nvm.copyB = b) ∧
    ∃ t e, exec (.powerOnRelease false m high lost copies) s = .next t ∧ t.rst.phase = .xoJudging ∧ t.part = s.part ∧ t.mem = [] ∧
      t.rst.options = (if goodCopy a then a else if goodCopy b then b else defaultImage) ∧
      t.rst.optionStatus = (if goodCopy a then 1 else 0) + (if goodCopy b then 2 else 0) +
        (if goodCopy a = false ∧ goodCopy b = true then 4 else 0) + (if goodCopy a = false ∧ goodCopy b = false then 8 else 0) ∧
      t.rst.roleStrap = high ∧ t.rst.roleManager = (if sel = 1 then true else if sel = 2 then false else high) ∧
      (id = 0 ∨ 127 < id ∨ bitsAt rate 1 2 = 3 → t.can.silent = true) ∧
      (1 ≤ id → id ≤ 127 → bitsAt rate 1 2 ≠ 3 → t.can.silent = false ∧ t.can.nodeId = id ∧ t.can.nomRate = rate % 2 ∧
        t.can.dataRate = bitsAt rate 1 2) ∧
      (lost = false → t.backup = { s.backup with
        lost := false, shutdowns := 0, resets := satInc 32 s.backup.resets, causes := (⟨s.time.rot, e, 1, false, m, 0⟩ :: s.backup.causes).take 8
        lifeCopy := max s.nvm.otpState s.backup.lifeCopy }) ∧
      (lost = true → t.backup = { lost := true, resets := 1, causes := [⟨s.time.rot, e, 1, false, m, 0⟩],
                                  lifeCopy := s.nvm.otpState }) ∧
      t.sec.life = t.backup.lifeCopy ∧ t.nvm.otpState = t.backup.lifeCopy ∧ t.sec.sramWiping = true) ∧
  (∀ s : State, s.rst.phase = .starting → s.pwr.state = 0 → s.marching = false → s.backup.shutdownLatched = false →
    s.backup.tamperUnpowered = false →
    (s.channelsTrained = true → s.layerSettled = true → ∃ t, exec .enterService s = .next t ∧ t.rst.phase = .service ∧ t.can.nmt = .preOperational ∧
      t.clk.enteredService = true ∧ t.pwr.regOn = s.pwr.regOn ∧ t.dict = s.dict ∧ t.mem = s.mem ∧ t.nvm = s.nvm ∧
      (s.canTalks = true → t.can.sent = [⟨0x700 + s.can.nodeId, false, [0]⟩]) ∧
      (s.clk.lantern = .off → s.clk.refGood = true → s.clk.daymark = true → t.clk.lantern = .locking)) ∧
    (s.channelsTrained = false ∨ s.layerSettled = false → exec .enterService s = .next (settle s))) ∧
  ∀ (p : Path) (data : List Byte) (s : State), s.served = true → s.dev = .service →
    let image := data ++ toBytes 4 (crc32c data)
    let replaced := { s.pwr with nvmPending := clearBits s.pwr.nvmPending 3, nvmImage := [] }
    (data.length = 508 → s.burnWindow = true → s.nvmWrites 0 < 100000 → s.nvmWrites 1 < 100000 →
      ∃ w, exec (.optionWrite p data true) s = .next (settle (Acked p 0x2200 0x12 { s with pwr := replaced, nvm := { s.nvm with
          copyA := image, copyB := image, writes := w } })) ∧
        Tbl.at 0 w 0 = s.nvmWrites 0 + 1 ∧ Tbl.at 0 w 1 = s.nvmWrites 1 + 1 ∧
        ∀ r, 2 ≤ r → Tbl.at 0 w r = s.nvmWrites r) ∧
    (data.length = 508 → s.burnWindow = true → s.nvmWrites 1 < 100000 → ∃ t, exec (.optionWrite p data false) s = .next t ∧
      (t.answerOf p).code = abortOther ∧ t.nvm.copyA = s.nvm.copyA ∧ t.dict = s.dict ∧ t.rst = s.rst ∧ t.pwr = replaced) ∧
    (data.length = 508 → s.burnWindow = false → ∀ v, exec (.optionWrite p data v) s = .next (settle
      (Aborted p 0x2200 0x12 abortState (raise 90 { s with pwr := { s.pwr with
        nvmImage := image, nvmPending := s.pwr.nvmPending ||| 3 } })))) ∧
    (data.length ≠ 508 → ∀ v, exec (.optionWrite p data v) s = .next (settle
      (Aborted p 0x2200 0x12 (if s.burnWindow then abortLength else abortState) s)))

/-! Per-block resets (chapter 17, Table 17-3). -/

/-- A write of per-block reset bits is answered, stores its bits (R430), touches no other object but those that `moved` names, makes the
blocks whose bit falls leave their reset, and takes those whose bit rises out of the list; `held` says what else is true of the state
before the answer. -/
def BlockBits (p : Path) (sub n base value : Nat) (s : State) (o : Host.Outcome State Fault Refusal) (held : State → Prop)
    (moved : Nat → Nat → Prop := fun _ _ => False) : Prop :=
  ∃ u, o = .next (settle (Acked p 0x2200 sub u)) ∧ u.obj 0x2200 sub = value % 2 ^ n ∧
    (∀ i j, j < 256 → (i, j) ≠ (0x2200, sub) → ¬moved i j → u.obj i j = s.obj i j) ∧ u.time = s.time ∧
    (∀ b, b ∈ u.rst.leaving ↔
      (b ∈ s.rst.leaving ∧ ∀ i, i < n → bitOf value i = true → bitOf (s.obj 0x2200 sub) i = false → b ≠ base + i) ∨
      ∃ i, i < n ∧ b = base + i ∧ bitOf (s.obj 0x2200 sub) i = true ∧ bitOf value i = false) ∧ held u

/-- The per-block resets of stations, lane groups, DRAM channels, Keeper cores, pattern banks, queue controller groups and the dictionary
engine (R131, R163, R209, R330, R334, R430, R431). That the records and log words which wait in a unit's feeder go with its queue group is
the model's choice (notes/assumptions/199.md). -/
def Obligations.BlockResets : Prop :=
  (∀ (p : Path) (s : State), s.served = true →
    let rises := fun (sub value i : Nat) => bitOf value i && !bitOf (s.obj 0x2200 sub) i
    (∀ data : List Byte,
      (data.length = 32 →
        BlockBits p 2 256 0 (ofBytes data) s (exec (.stationResetWrite p data) s) (fun u => ∀ k, u.fab = s.fab ∧ u.unit k = s.unit k) ∧
        BlockBits p 6 256 308 (ofBytes data) s (exec (.patternBankResetWrite p data) s) (fun u => ∀ st, st < 256 →
          u.bank st = if rises 6 (ofBytes data) st then { s.bank st with clearing := true } else s.bank st)) ∧
      (data.length = 33 → (∀ k, (s.unit k).claim = .none) →
        BlockBits p 7 260 564 (ofBytes data) s (exec (.queueGroupResetWrite p data) s) (fun u =>
          (∀ a, u.readByte a = s.readByte a) ∧ (∀ k, k < 4160 →
            u.unit k = if rises 7 (ofBytes data) (k / 16) then { s.unit k with
              head := 0, tail := 0, fill := 0, fillHalf := 0, overwrote := false, marks := [], markOpen := false, ringWords := 0
              causes := 0, waiting := [], feeder := [], recWait := [] } else s.unit k) ∧
            (∀ n, n < 256 → u.obj (0x4200 + n) 1 = (if rises 7 (ofBytes data) n then State.reset else s).obj (0x4200 + n) 1) ∧
            ∀ h, h < 2 → bitsAt (u.obj 0x3200 0x13) (1024 * h) 1024 =
              bitsAt ((if rises 7 (ofBytes data) (258 + h) then State.reset else s).obj 0x3200 0x13) (1024 * h) 1024)
          (fun i j => (0x4200 ≤ i ∧ i < 0x4300 ∧ j = 1) ∨ (i, j) = (0x3200, 0x13))) ∧
      (data.length ≠ 32 → exec (.stationResetWrite p data) s = .next (settle (Aborted p 0x2200 2 abortLength s)))) ∧
    (∀ v : BitVec 32, BlockBits p 3 32 256 v.toNat s (exec (.laneGroupResetWrite p v) s) (fun u => ∀ g, g < 32 →
      if rises 3 v.toNat g then (u.group g).rx = .deep ∧ (u.group g).claim = .none ∧ (u.group g).trained = false ∧
        (u.group g).linked = ((s.group g).linked && !s.isMerig g)
      else (u.group g).rx = (s.group g).rx ∧ (u.group g).claim = (s.group g).claim ∧ (u.group g).trained = (s.group g).trained)) ∧
    (∀ v : BitVec 16, BlockBits p 4 16 288 v.toNat s (exec (.dramChannelResetWrite p v) s) (fun u => ∀ c, c < 16 →
      if rises 4 v.toNat c then (u.channel c).state = .off ∧ (u.channel c).claim = .none ∧ (u.channel c).held = [] ∧
        u.fenced (17 + c) = true
      else u.channel c = s.channel c)) ∧
    (∀ v : BitVec 8, BlockBits p 5 4 304 v.toNat s (exec (.keeperResetWrite p v) s) (fun u => ∀ k, k < 4 →
      u.keeper k = if rises 5 v.toNat k then { s.keeper k with state := .stopped, wait := .none, pcOver := false }
        else s.keeper k)) ∧
    (∃ u, exec (.dictEngineReset p 1) s = .next (settle (Acked p 0x2200 8 u)) ∧ u.served = false ∧ u.eng.jobs = [] ∧
      u.eng.current = none ∧ u.eng.sessions = [] ∧ u.dict = s.dict ∧ 824 ∈ u.rst.leaving) ∧
    ∀ v : BitVec 8, 2 ≤ v.toNat → exec (.dictEngineReset p v) s = .next (settle (Aborted p 0x2200 8 abortRange s))) ∧
  ∀ (b : Nat) (s : State),
    (b ∈ s.rst.leaving → s.blockBit b = false → s.blockClears b = false →
      ∃ t, exec (.blockResetDone b) s = .next t ∧ t.rst.leaving = s.rst.leaving.filter (fun x => decide (x ≠ b)) ∧ t.dict = s.dict ∧
        t.rst.engineReset = (s.rst.engineReset && decide (b < 824)) ∧
        (b < 256 ∨ (308 ≤ b ∧ b < 824) → SameBut { s with rst := t.rst } t) ∧
        (∀ g, g < 32 → b = 256 + g → (t.group g).rx = .clock ∧ (t.group g).datumSeen = false) ∧
        (∀ c, c < 16 → b = 288 + c → t.channel c = { s.channel c with state := .training, claim := .retraining }) ∧
        (∀ k, k < 4 → b = 304 + k → (t.keeper k).regs = [] ∧ (t.keeper k).pc = s.obj (0x3900 + k) 2 ∧
          (t.keeper k).state = (s.keeper k).state ∧ (t.keeper k).wait = .none)) ∧
    (b ∉ s.rst.leaving ∨ s.blockBit b = true ∨ s.blockClears b = true → exec (.blockResetDone b) s = .next (settle s))

/-! Pins, consoles and pin watches (chapter 18). -/

/-- Pins and consoles (R443, R446, R455): output levels are stored and drive the balls of pins with FUNC 1 or 2; a bank's class follows its
rail, and the pins of an absent bank drive nothing; console bytes are queued whole or refused, taken by a read, and dropped and
counted at a full queue. -/
def Obligations.PinsAndConsoles : Prop :=
  (∀ (p : Path) (s : State), s.served = true →
    (∀ data : List Byte, data.length = 12 → ∃ u, exec (.gpioOutputWrite p data) s = .next (settle (Acked p 0x2400 3 u)) ∧
      u = { s with dict := u.dict, pins := { s.pins with
        outLevels := BitVec.ofNat 96 (ofBytes data), drive := u.pins.drive, driven := u.pins.driven } } ∧
      u.obj 0x2400 3 = ofBytes data ∧ (∀ i j, j < 256 → (i, j) ≠ (0x2400, 3) → u.obj i j = s.obj i j) ∧
      (∀ n, n < 96 → s.bankPresentPin n = false → u.pins.driven.getLsbD n = false) ∧
      (s.cfg.tap ≠ 0 → s.cfg.tap ≠ 3 → s.cfg.tap ≠ 4 → s.pins.sleeping = false → s.time.relStep ≠ 0 →
        ∀ n, n < 96 → s.bankPresentPin n = true → s.pins.frozen.getLsbD n = false →
          let level := (data.getD (n / 8) 0).getLsbD (n % 8) != muxInvert (s.mux n)
          (muxFunc (s.mux n) = 1 → u.pins.drive.getLsbD n = level ∧ u.pins.driven.getLsbD n = true) ∧
          (muxFunc (s.mux n) = 2 → u.pins.drive.getLsbD n = false ∧ u.pins.driven.getLsbD n = !level))) ∧
    (∀ data : List Byte, data.length ≠ 12 →
      exec (.gpioOutputWrite p data) s = .next (settle (Aborted p 0x2400 3 abortLength s))) ∧
    ∀ k : Fin 4,
      let tx := s.pins.conTx.getD k.val []
      let rx := s.pins.conRx.getD k.val []
      (∀ data : List Byte, 1 ≤ data.length → data.length ≤ 48 →
        (tx.length + data.length ≤ 256 → exec (.consoleTransmit p k data) s = .next (settle (Acked p 0x2400 (0x21 + k.val)
          { s with pins := { s.pins with conTx := s.pins.conTx.set k.val (tx ++ data) } }))) ∧
        (256 < tx.length + data.length →
          exec (.consoleTransmit p k data) s = .next (settle (Aborted p 0x2400 (0x21 + k.val) abortBusy s)))) ∧
      exec (.consoleReceive p k) s = .next (settle (reply p.code 0x2400 (0x25 + k.val) 0 0 rx
        { s with pins := { s.pins with conRx := s.pins.conRx.set k.val [] } }))) ∧
  (∀ (k : Fin 4) (b : Byte) (s : State), s.rst.phase = .service → s.inputMapped (1 + k.val) = true →
    let rx := s.pins.conRx.getD k.val []
    (rx.length < 256 → exec (.consoleByteReceived k b) s =
      .next (settle { s with pins := { s.pins with conRx := s.pins.conRx.set k.val (rx ++ [b]) } })) ∧
    (256 ≤ rx.length → exec (.consoleByteReceived k b) s = .next (settle (raiseOnce 1418 { s with pins := { s.pins with
      conDrops := s.pins.conDrops.set k.val (satInc 32 (s.pins.conDrops.getD k.val 0)) } })))) ∧
  ∀ (bank : Fin 6) (mv : Nat) (s : State), s.rst.phase ≠ .powerOn → s.rst.phase ≠ .held → s.pins.classes.length = 6 →
    let c := if 1620 ≤ mv ∧ mv ≤ 1980 then 1 else if 3000 ≤ mv ∧ mv ≤ 3600 then 2 else 0
    (s.pins.classes.getD bank.val 0 = c → exec (.bankRailMeasure bank mv) s = .next (settle s)) ∧
    (s.pins.classes.getD bank.val 0 ≠ c → ∃ u, exec (.bankRailMeasure bank mv) s = .next (settle (raise 1419 u)) ∧
      u = { s with pins := { s.pins with classes := u.pins.classes, drive := u.pins.drive, driven := u.pins.driven } } ∧
      (∀ j, j < 6 → u.pins.classes.getD j 0 = if j = bank.val then c else s.pins.classes.getD j 0) ∧
      ∀ n, n < 96 → u.bankPresentPin n = false → u.pins.driven.getLsbD n = false)

/-- A pin watch looks at its vector once in each beat (R458): it fires on the entry to a match of PAT1, on a change, or in sequence on a match
of PAT2 within the window, with event 1408 + w, the count, the rotation and the beat; the entry to PAT1 arms a sequence anew; a
watch whose new configuration has no vector yet does not look (R459); a window that passes disarms it. -/
def Obligations.PinWatches : Prop :=
  ∀ (w : Fin 8) (s : State), s.pins.watches.length = 8 →
    let x := s.watch w.val
    let c := s.watchCfg w.val
    let hit := fun (v pat : Nat) => decide (v &&& watchMask c = pat &&& watchMask c)
    let entered := hit x.vec (watchPat1 c) && !hit x.prev (watchPat1 c)
    let fires := (decide (watchMode c = 1) && entered) || (decide (watchMode c = 2) && !hit x.vec x.prev) ||
      (decide (watchMode c = 3) && x.armed && decide (1 ≤ x.since) && decide (x.since ≤ watchWindow c) && hit x.vec (watchPat2 c))
    (s.beatsRun = true → x.judged = false → x.fresh = false →
      ∃ u, exec (.pinWatchMatch w) s = .next (settle (deferRaises (if fires then raise (1408 + w.val) u else u))) ∧
        u = { s with pins := { s.pins with watches := u.pins.watches } } ∧ (∀ j, j ≠ w.val → u.watch j = s.watch j) ∧
        u.watch w.val = { x with
          judged := true
          fires := if fires then satInc 32 x.fires else x.fires
          rot := if fires then s.time.rot else x.rot
          beat := if fires then s.time.beat else x.beat
          armed := if watchMode c ≠ 3 then x.armed else entered || (x.armed && !fires)
          since := if watchMode c = 3 ∧ entered = true then 0 else x.since }) ∧
    (x.judged = true ∨ x.fresh = true → exec (.pinWatchMatch w) s = .next (settle s)) ∧
    (x.armed = true → watchWindow c < x.since ∨ (watchWindow c = x.since ∧ hit x.vec (watchPat2 c) = false) →
      exec (.pinWatchWindowExpired w) s = .next (settle (s.setWatch w.val { x with armed := false })))

/-! Beat timers, counters and the event log (chapter 20). -/

/-- Counters are cleared from a first to a last event, or the write is refused, and every reset clears them all with the descriptors (R486);
a beat timer raises its event in FAB cycle 0 of its beat of every matching rotation from the release on (R491); a path claims,
keeps and releases timers by whole bytes, and only the owner stages a configuration (R492). A write of 1 empties the log. -/
def Obligations.TimersAndCounters : Prop :=
  (∀ (p : Path) (word : BitVec 32) (s : State), s.served = true →
    let a := word.toNat % 2 ^ 11
    let b := word.toNat / 2 ^ 16 % 2 ^ 11
    (a ≤ b → b ≤ 1535 → ∃ u, exec (.counterClear p word) s = .next (settle (Acked p 0x2500 3 u)) ∧
      u = { s with ev := { s.ev with count := u.ev.count } } ∧
      ∀ e, u.eventCount e = if a ≤ e ∧ e ≤ b then 0 else s.eventCount e) ∧
    (b < a ∨ 1535 < b → exec (.counterClear p word) s = .next (settle (Aborted p 0x2500 3 abortRange s))) ∧
    exec (.logClear p 1) s = .next (settle (Acked p 0x2500 6 { s with ev := { s.ev with log := [] } }))) ∧
  (∀ (cause : Nat) (warm multi role : Bool) (path : Nat) (s : State), s.rst.phase ≠ .powerOn → (warm = true → s.rst.phase = .service) →
    ∀ e, (resetSource cause warm multi role path s).eventCount e = 0 ∧ (resetSource cause warm multi role path s).desc e = descDefault e) ∧
  (∀ (i : Fin 8) (beat period offset : Nat) (s : State), beat < 2 ^ 12 → period < 2 ^ 16 → offset < 2 ^ 16 →
    s.obj 0x2500 (0x10 + i.val) = beat + period * 2 ^ 16 + offset * 2 ^ 32 →
    let due := s.released = true ∧ s.beatsRun = true ∧ s.time.cyc = 0 ∧ period ≠ 0 ∧
      s.time.beat = (if beat < s.B then beat else s.B - 1) ∧ s.time.rot % period = offset % period
    (due → exec (.beatTimerFire i) s = .next (settle (deferRaises (raiseOnce (40 + i.val) s)))) ∧
    (¬due → exec (.beatTimerFire i) s = .next (settle s))) ∧
  (∀ (p : Path) (data : List Byte) (s : State), s.served = true → data.length = 8 →
    let cur := fun (i : Nat) => s.ev.timerOwner.getD i 0
    let new := fun (i : Nat) => (data.getD i 0).toNat
    let me := p.code + 1
    let taken := fun (i : Nat) => new i ≠ cur i ∧ cur i ≠ me ∧ ((new i = 1 ∧ cur i ≠ 0) ∨ new i = 0)
    let bad := fun (i : Nat) => new i ≠ cur i ∧ 2 ≤ new i
    let busy := exec (.timerOwnerWrite p data) s = .next (settle (Aborted p 0x2500 0x18 abortBusy (raise 39 s)))
    let range := exec (.timerOwnerWrite p data) s = .next (settle (Aborted p 0x2500 0x18 abortRange s))
    ((∀ i, i < 8 → ¬taken i ∧ ¬bad i) → ∃ l, exec (.timerOwnerWrite p data) s = .next (settle (Acked p 0x2500 0x18
        { s with ev := { s.ev with timerOwner := l } })) ∧ l.length = 8 ∧
      ∀ i, i < 8 → l.getD i 0 = if cur i = 0 ∧ new i = 1 then me else if cur i = me ∧ new i = 0 then 0 else cur i) ∧
    ((∃ i, i < 8 ∧ taken i) → (∀ i, i < 8 → ¬bad i) → busy) ∧
    ((∃ i, i < 8 ∧ bad i) → range)) ∧
  ∀ (p : Path) (i : Fin 8) (data : List Byte) (s : State), s.served = true → data.length = 8 →
    let seq := if s.stg.lastSeq = 0xFFFFFFFF then 1 else s.stg.lastSeq + 1
    let part := wholePart (okey 0x2500 (0x10 + i.val)) 8 (ofBytes data &&& 0x0000FFFFFFFF0FFF)
    (s.ev.timerOwner.getD i.val 0 = p.code + 1 → ∃ t, exec (.timerConfigWrite p i data) s = .next t ∧
      t.answerOf p = ⟨0x2500, 0x10 + i.val, 0, seq, []⟩ ∧ t.dict = s.dict ∧
      t.stg.pend = s.stg.pend ++ [⟨seq, p.code, false, s.arrivesFar, [part], false, false⟩]) ∧
    (s.ev.timerOwner.getD i.val 0 ≠ p.code + 1 →
      exec (.timerConfigWrite p i data) s = .next (settle (Aborted p 0x2500 (0x10 + i.val) abortBusy (raise 39 s))) ∧
      exec (.objectWrite p 0x2500 (BitVec.ofNat 8 (0x10 + i.val)) data) s =
        .next (settle (Aborted p 0x2500 (0x10 + i.val) abortBusy (raise 39 s))))

/-! Security and life cycle (chapter 19). -/

/-- The security response (R471): latches, the wipe, link keys zeroed with their pending loads, and DRAM key slots zeroed; each channel
then draws a key into its lowest epoch without a tag, or holds no key and ends a sweep or initialise that runs (the model's choice,
notes/assumptions/167.md); a READY channel left without a key answers what it holds. Which lines a sweep that runs has still to
rewrite under the fresh key (`sweepPos`, `resweep`) is the model's reading (198.md). -/
def SecurityResponds (latches : Nat) (s t : State) : Prop :=
  t.backup = { s.backup with tamperLatches := s.backup.tamperLatches ||| latches } ∧ t.sec.sramWiping = true ∧
  (∀ a, t.readByte a = if 0x078000000000 ≤ a ∧ a < 0x078000100000 then 0 else s.readByte a) ∧
  (∀ g, g < 32 → t.group g = { s.group g with
    txKey := (s.group g).txKey.map (fun _ => 0), rxKey := (s.group g).rxKey.map (fun _ => 0)
    rxOld := (s.group g).rxOld.map (fun _ => 0), txPending := none, rxPending := none }) ∧
  (∀ c, c < 16 →
    let x := s.channel c
    let y := t.channel c
    let answered := s.chState c = .ready ∧ (y.noKey || y.waitsEntropy) = true
    y = { x with keys := y.keys, epoch := y.epoch, noKey := y.noKey, waitsEntropy := y.waitsEntropy
                 initialising := y.initialising, claim := y.claim, opening := y.opening
                 sweepPos := if x.initialising then 0 else x.sweepPos
                 resweep := if x.initialising then 0 else if x.claim = .rescramble then max x.resweep x.sweepPos else x.resweep
                 held := if answered then [] else x.held, queued := if answered then [] else x.queued } ∧
    (∀ e, e ≠ y.epoch → y.key e = none) ∧
    ((∀ e, e < 16 → bitOf x.tagMap e = true) → y.current = none ∧ y.noKey = true ∧ y.initialising = false ∧ y.opening = false ∧
      y.claim = if x.claim = .rescramble then .none else x.claim) ∧
    ∀ e, e < 16 → bitOf x.tagMap e = false → (∀ d, d < e → bitOf x.tagMap d = true) →
      y.epoch = e ∧ y.noKey = false ∧ y.waitsEntropy = y.current.isNone ∧ y.initialising = x.initialising ∧ y.claim = x.claim ∧
      y.opening = x.opening) ∧
  t.sec.attState = (if s.sec.attState = 1 then 3 else s.sec.attState) ∧ t.sec.report = s.sec.report ∧ t.sec.life = s.sec.life ∧
  t.dict = s.dict ∧ t.time = s.time ∧ t.rst = s.rst

/-- Tamper, glitches, the wipe and link keys (R468 to R471, R475): an enabled latch or glitch sets its cause and starts the response, or is
latched while power is off and, which is the model's choice (notes/assumptions/184.md), while RESET_N holds the device in reset; a
finished wipe is event 1516; a link key load waits for its rotation, or is refused. -/
def Obligations.SecurityResponse : Prop :=
  (∀ (pin : Fin 2) (s : State),
    (bitOf s.backup.tamperConfig (2 * pin.val) = true → bitOf s.backup.tamperLatches pin.val = false →
      (s.rst.phase ≠ .powerOn → s.rst.phase ≠ .held → ∃ t, exec (.tamperLatch pin) s = .next t ∧
        SecurityResponds (2 ^ pin.val) s t) ∧
      (s.rst.phase = .powerOn ∨ s.rst.phase = .held → exec (.tamperLatch pin) s = .next (settle { s with backup := { s.backup with
        tamperLatches := s.backup.tamperLatches ||| 2 ^ pin.val, tamperUnpowered := true } }))) ∧
    (bitOf s.backup.tamperConfig (2 * pin.val) = false ∨ bitOf s.backup.tamperLatches pin.val = true →
      exec (.tamperLatch pin) s = .next (settle s))) ∧
  (∀ (voltage : Bool) (s : State), s.rst.phase ≠ .powerOn → s.rst.phase ≠ .held →
    (bitOf s.backup.tamperConfig 4 = true → ∃ t, exec (.glitchDetected voltage) s = .next t ∧
      SecurityResponds (if voltage then 8 else 4) s t) ∧
    (bitOf s.backup.tamperConfig 4 = false → exec (.glitchDetected voltage) s = .next (settle s)) ∧
    (s.sec.sramWiping = true → exec .secureSramWipeDone s =
      .next (settle (raise 1516 { s with sec := { s.sec with sramWiping := false } })))) ∧
  ∀ (p : Path) (g : Fin 32) (dirs : Fin 4) (rot : BitVec 64) (tx rx : BitVec 128) (s : State), s.served = true →
    let load := exec (.linkKeyLoad p ([BitVec.ofNat 8 g.val, BitVec.ofNat 8 dirs.val, 0, 0, 0, 0, 0, 0] ++ toBytes 8 rot.toNat ++
      toBytes 16 tx.toNat ++ toBytes 16 rx.toNat)) s
    let x := s.group g.val
    (s.sec.life = 1 ∨ s.sec.life = 2 →
      (dirs ≠ 0 → s.time.rot + 2 ≤ rot.toNat → load = .next (settle (Acked p 0x2600 0x30 (s.setGroup g.val { x with
        txPending := if dirs = 1 ∨ dirs = 3 then some (rot.toNat, tx) else x.txPending
        rxPending := if dirs = 2 ∨ dirs = 3 then some (rot.toNat, rx) else x.rxPending })))) ∧
      (dirs = 0 ∨ rot.toNat < s.time.rot + 2 → load = .next (settle (Aborted p 0x2600 0x30 abortRange s)))) ∧
    (s.sec.life ≠ 1 → s.sec.life ≠ 2 → load = .next (settle (Aborted p 0x2600 0x30 abortState s)))

/-- Life-cycle requests and attestation (R465 to R467, Tables 19-2, 19-3 and 19-5): the checks in their order, a fresh nonce after every
request unless the health test before its draw fails, which sets ENTROPY (R477); an accepted one burns the state, its backup copy and, for DEPLOYED, the owner digest, wipes the secure SRAM, zeroes every
key and waits for its reset, which then finds the new state; a report is produced whole. That the keys zeroed are the link keys with
their pending loads as well as the DRAM keys is the model's reading (notes/assumptions/135.md). -/
def Obligations.LifeCycle : Prop :=
  (∀ (p : Path) (data : List Byte) (s : State), s.served = true → s.dev = .service → data.length = 3081 →
    let target := (data.getD 0 0).toNat
    let key := (data.drop 8).take 1793
    let free := (s.sec.life = 1 ∨ s.sec.life = 3) ∧ target = 4
    let first := s.sec.life = 1 ∧ target = 2
    let owner := s.sec.life = 2 ∧ (target = 3 ∨ target = 4)
    let goodKey := Config.shake256 key = s.nvm.ownerDigest
    let goodSig := Config.falconVerify key (Config.shake256 (toBytes 8 s.part.serial.toNat ++ s.sec.nonce ++ [data.getD 0 0]))
      ((data.drop 1801).take 1280) = true
    let refused := fun (c : Instr) (code : Nat) (auth : Bool) => ∃ t n, ∃ ill : Bool, exec c s = .next t ∧
      (if ill then n = s.sec.nonce else n.length = 32) ∧
      SameBut (Aborted p 0x2600 2 code { s with sec := { s.sec with
        nonce := n
        causes := s.sec.causes ||| (if auth then 0x40 else 0) ||| (if ill then 0x80 else 0)
        alarms := (if ill then satInc 32 else id) ((if auth then satInc 32 else id) s.sec.alarms) } }) t
    ∀ c ∈ [Instr.lcRequestDeployed p data, .lcRequestReturned p data, .lcRequestScrapped p data],
      (¬free → ¬first → ¬owner → refused c abortState false) ∧
      (free ∨ first ∨ owner → s.burnWindow = false → refused c abortState false) ∧
      (owner → s.burnWindow = true → ¬goodKey → refused c abortRange true) ∧
      (first ∨ (owner ∧ goodKey) → s.burnWindow = true → ¬goodSig → refused c abortRange true) ∧
      (free ∨ (first ∧ goodSig) ∨ (owner ∧ goodKey ∧ goodSig) → s.burnWindow = true → s.sec.attState ≠ 1 →
        ∃ t, exec c s = .next t ∧ (t.answerOf p).code = 0 ∧ t.nvm = { s.nvm with
            otpState := target, ownerDigest := if target = 2 then Config.shake256 key else s.nvm.ownerDigest } ∧
          t.backup = { s.backup with lifeCopy := target } ∧ t.sec.life = target ∧ t.sec.lcPending = true ∧
          t.sec.sramWiping = true ∧ t.dict = s.dict ∧ t.rst = s.rst ∧
          (∀ a, t.readByte a = if 0x078000000000 ≤ a ∧ a < 0x078000100000 then 0 else s.readByte a) ∧
          (∀ g, g < 32 → (t.group g).txKey = (s.group g).txKey.map (fun _ => 0) ∧
            (t.group g).rxKey = (s.group g).rxKey.map (fun _ => 0) ∧ (t.group g).txPending = none ∧
            (t.group g).rxPending = none) ∧
          ∀ k, k < 16 → (t.channel k).noKey = true ∧ ∀ e, (t.channel k).key e = none)) ∧
  (∀ (m high lost : Bool) (s : State), s.rst.phase = .powerOn → ∃ t, exec (.powerOnRelease false m high lost none) s = .next t ∧
    (s.backup.lifeCopy ≤ s.nvm.otpState → t.sec.life = s.nvm.otpState)) ∧
  (∀ (p : Path) (nonce : List Byte) (s : State), s.served = true →
    let request := exec (.attestationRequest p nonce) s
    (s.sec.life = 1 ∨ s.sec.life = 2 → nonce.length = 32 →
      (s.sec.attState ≠ 1 → request = .next (settle (Acked p 0x2600 0x10 { s with sec := { s.sec with
        attState := 1, attNonce := nonce, attRot := s.time.rot } }))) ∧
      (s.sec.attState = 1 → request = .next (settle (Aborted p 0x2600 0x10 abortBusy s)))) ∧
    (s.sec.life ≠ 1 → s.sec.life ≠ 2 → request = .next (settle (Aborted p 0x2600 0x10 abortState s)))) ∧
  ∀ s : State,
    (s.sec.attState = 1 → ∃ report, exec .attestationDone s = .next (settle (raise 1514 { s with sec := { s.sec with
        attState := 2, report := report } })) ∧ report.length = 2056 ∧ report.take 4 = [0x4B, 0x58, 0x33, 0x41] ∧
      report.getD 6 0 = BitVec.ofNat 8 s.sec.life ∧ (report.drop 8).take 8 = toBytes 8 s.part.serial.toNat ∧
      (s.sec.attNonce.length = 32 → (report.drop 24).take 32 = s.sec.attNonce) ∧
      (∀ k, k < 16 → report.getD (216 + k) 0 = BitVec.ofNat 8 (s.ctxOf k))) ∧
    (s.sec.attState ≠ 1 → exec .attestationDone s = .next (settle s))
end

