-- ==== Sys2Proof/Laws/Kept.lean ====
section
/-! SUPPORT. What every command keeps: lemmas that carry projections of the state through branches and folds. -/

namespace Sys2Proof.Machine

/-- The state after an outcome; the state before where the outcome is a stop. -/
def after (o : Host.Outcome State Fault Refusal) (s : State) : State :=
  match o with
  | .next t => t
  | _ => s

variable {α β : Type}

@[simp] theorem after_next (t s : State) : after (.next t) s = t := rfl
@[simp] theorem after_done (t s : State) : after (done t) s = settle t := rfl
@[simp] theorem after_doneFab (t s : State) : after (doneFab t) s = settle (deferRaises t) := rfl
@[simp] theorem after_ite (c : Prop) [Decidable c] (a b : Host.Outcome State Fault Refusal) (s : State) :
    after (if c then a else b) s = if c then after a s else after b s := by split <;> rfl

@[simp] theorem ite_part (c : Prop) [Decidable c] (a b : State) : (if c then a else b).part = if c then a.part else b.part := by
  split <;> rfl
@[simp] theorem ite_pending (c : Prop) [Decidable c] (a b : State) :
    (if c then a else b).pending = if c then a.pending else b.pending := by split <;> rfl
@[simp] theorem ite_mem (c : Prop) [Decidable c] (a b : State) : (if c then a else b).mem = if c then a.mem else b.mem := by
  split <;> rfl
@[simp] theorem ite_memGen (c : Prop) [Decidable c] (a b : State) :
    (if c then a else b).memGen = if c then a.memGen else b.memGen := by split <;> rfl
@[simp] theorem ite_snd (c : Prop) [Decidable c] (a b : α × β) : (if c then a else b).2 = if c then a.2 else b.2 := by
  split <;> rfl

theorem foldl_keeps (p : State → β) (g : State → α → State) (l : List α) (s : State) (h : ∀ t x, p (g t x) = p t) :
    p (l.foldl g s) = p s := by
  induction l generalizing s with
  | nil => rfl
  | cons x l ih => rw [List.foldl_cons, ih, h]

theorem iterate_keeps (p : State → β) (n : Nat) (g : Nat → State → State) (s : State) (h : ∀ i t, p (g i t) = p t) :
    p (iterate n g s) = p s := by
  induction n with
  | zero => rfl
  | succ n ih => rw [iterate, h, ih]

@[simp] theorem foldl_part (g : State → α → State) (l : List α) (s : State) (h : ∀ t x, (g t x).part = t.part) :
    (l.foldl g s).part = s.part := foldl_keeps State.part g l s h
@[simp] theorem foldl_pending (g : State → α → State) (l : List α) (s : State) (h : ∀ t x, (g t x).pending = t.pending) :
    (l.foldl g s).pending = s.pending := foldl_keeps State.pending g l s h
@[simp] theorem foldl_mem (g : State → α → State) (l : List α) (s : State) (h : ∀ t x, (g t x).mem = t.mem) :
    (l.foldl g s).mem = s.mem := foldl_keeps State.mem g l s h
@[simp] theorem foldl_memGen (g : State → α → State) (l : List α) (s : State) (h : ∀ t x, (g t x).memGen = t.memGen) :
    (l.foldl g s).memGen = s.memGen := foldl_keeps State.memGen g l s h

@[simp] theorem iterate_part (n : Nat) (g : Nat → State → State) (s : State) (h : ∀ i t, (g i t).part = t.part) :
    (iterate n g s).part = s.part := iterate_keeps State.part n g s h
@[simp] theorem iterate_pending (n : Nat) (g : Nat → State → State) (s : State) (h : ∀ i t, (g i t).pending = t.pending) :
    (iterate n g s).pending = s.pending := iterate_keeps State.pending n g s h
@[simp] theorem iterate_mem (n : Nat) (g : Nat → State → State) (s : State) (h : ∀ i t, (g i t).mem = t.mem) :
    (iterate n g s).mem = s.mem := iterate_keeps State.mem n g s h
@[simp] theorem iterate_memGen (n : Nat) (g : Nat → State → State) (s : State) (h : ∀ i t, (g i t).memGen = t.memGen) :
    (iterate n g s).memGen = s.memGen := iterate_keeps State.memGen n g s h

end Sys2Proof.Machine
end

