-- ==== Sys2Proof/Laws/ObjectsKept.lean ====
section
/-! SUPPORT. What the functions of Machine/Objects.lean keep: the factory part, the queue, and memory where they do not write it. -/

namespace Sys2Proof.Machine

@[simp] theorem State.setObj_kept (s : State) (idx : Nat) (sub : Nat) (v : Nat) :
    (State.setObj s idx sub v).part = s.part ∧ (State.setObj s idx sub v).pending = s.pending ∧
    (State.setObj s idx sub v).memGen = s.memGen ∧ (State.setObj s idx sub v).mem = s.mem := by
  unfold State.setObj
  exact ⟨by with_reducible rfl, by with_reducible rfl, by with_reducible rfl, by with_reducible rfl⟩

end Sys2Proof.Machine
end

