-- ==== Sys2Proof/Laws/EventsKept.lean ====
section
/-! SUPPORT. What the functions of Machine/Events.lean keep: the factory part, the queue, and memory where they do not write it. -/

namespace Sys2Proof.Machine

@[simp] theorem State.setKeeper_kept (s : State) (k : Nat) (c : Keeper) :
    (State.setKeeper s k c).part = s.part ∧ (State.setKeeper s k c).pending = s.pending ∧
    (State.setKeeper s k c).memGen = s.memGen ∧ (State.setKeeper s k c).mem = s.mem := by
  unfold State.setKeeper
  exact ⟨by with_reducible rfl, by with_reducible rfl, by with_reducible rfl, by with_reducible rfl⟩

@[simp] theorem raise_kept (e : Nat) (s : State) :
    (raise e s).part = s.part ∧ (raise e s).pending = s.pending ∧ (raise e s).memGen = s.memGen ∧
    (raise e s).mem = s.mem := by
  unfold raise
  exact ⟨by with_reducible rfl, by with_reducible rfl, by with_reducible rfl, by with_reducible rfl⟩

@[simp] theorem raiseOnce_kept (e : Nat) (s : State) :
    (raiseOnce e s).part = s.part ∧ (raiseOnce e s).pending = s.pending ∧ (raiseOnce e s).memGen = s.memGen ∧
    (raiseOnce e s).mem = s.mem := by
  unfold raiseOnce
  simp only [raise_kept, ite_part, ite_pending, ite_memGen, ite_mem, ite_self, and_self]

@[simp] theorem raiseIf_kept (b : Bool) (e : Nat) (s : State) :
    (raiseIf b e s).part = s.part ∧ (raiseIf b e s).pending = s.pending ∧ (raiseIf b e s).memGen = s.memGen ∧
    (raiseIf b e s).mem = s.mem := by
  unfold raiseIf
  simp only [raise_kept, ite_part, ite_pending, ite_memGen, ite_mem, ite_self, and_self]

@[simp] theorem State.draw_kept (s : State) :
    (State.draw s).part = s.part ∧ (State.draw s).pending = s.pending ∧ (State.draw s).memGen = s.memGen ∧
    (State.draw s).mem = s.mem := by
  unfold State.draw
  exact ⟨by with_reducible rfl, by with_reducible rfl, by with_reducible rfl, by with_reducible rfl⟩

@[simp] theorem logEvent_kept (r : Raised) (sev : Nat) (shutdown : Bool) (s : State) :
    (logEvent r sev shutdown s).part = s.part ∧ (logEvent r sev shutdown s).pending = s.pending ∧
    (logEvent r sev shutdown s).memGen = s.memGen ∧ (logEvent r sev shutdown s).mem = s.mem := by
  unfold logEvent
  exact ⟨by with_reducible rfl, by with_reducible rfl, by with_reducible rfl, by with_reducible rfl⟩

@[simp] theorem mailboxPush_kept (k : Nat) (entry : Nat) (s : State) :
    (mailboxPush k entry s).part = s.part ∧ (mailboxPush k entry s).pending = s.pending ∧
    (mailboxPush k entry s).memGen = s.memGen ∧ (mailboxPush k entry s).mem = s.mem := by
  unfold mailboxPush
  simp only [State.setKeeper_kept, raiseOnce_kept, ite_part, ite_pending, ite_memGen, ite_mem, ite_self, and_self]

@[simp] theorem emcyPush_kept (m : Emcy) (s : State) :
    (emcyPush m s).part = s.part ∧ (emcyPush m s).pending = s.pending ∧ (emcyPush m s).memGen = s.memGen ∧
    (emcyPush m s).mem = s.mem := by
  unfold emcyPush
  simp only [raise_kept, ite_part, ite_pending, ite_memGen, ite_mem, ite_self, and_self]

@[simp] theorem countEvent_kept (r : Raised) (sev : Nat) (s : State) :
    (countEvent r sev s).part = s.part ∧ (countEvent r sev s).pending = s.pending ∧ (countEvent r sev s).memGen = s.memGen ∧
    (countEvent r sev s).mem = s.mem := by
  unfold countEvent
  exact ⟨by with_reducible rfl, by with_reducible rfl, by with_reducible rfl, by with_reducible rfl⟩

@[simp] theorem routeMail_kept (r : Raised) (d : Nat) (s : State) :
    (routeMail r d s).part = s.part ∧ (routeMail r d s).pending = s.pending ∧ (routeMail r d s).memGen = s.memGen ∧
    (routeMail r d s).mem = s.mem := by
  unfold routeMail
  simp only [mailboxPush_kept, foldl_part, foldl_pending, foldl_memGen, foldl_mem, and_self, implies_true]

@[simp] theorem routeEmcy_kept (r : Raised) (d : Nat) (s : State) :
    (routeEmcy r d s).part = s.part ∧ (routeEmcy r d s).pending = s.pending ∧ (routeEmcy r d s).memGen = s.memGen ∧
    (routeEmcy r d s).mem = s.mem := by
  unfold routeEmcy
  simp only [emcyPush_kept, ite_part, ite_pending, ite_memGen, ite_mem, ite_self, and_self]

@[simp] theorem routePins_kept (d : Nat) (s : State) :
    (routePins d s).part = s.part ∧ (routePins d s).pending = s.pending ∧ (routePins d s).memGen = s.memGen ∧
    (routePins d s).mem = s.mem := by
  unfold routePins
  simp only [raise_kept, ite_part, ite_pending, ite_memGen, ite_mem, ite_self, and_self]

@[simp] theorem routeLog_kept (r : Raised) (d : Nat) (s : State) :
    (routeLog r d s).part = s.part ∧ (routeLog r d s).pending = s.pending ∧ (routeLog r d s).memGen = s.memGen ∧
    (routeLog r d s).mem = s.mem := by
  unfold routeLog
  simp only [logEvent_kept, ite_part, ite_pending, ite_memGen, ite_mem, ite_self, and_self]

@[simp] theorem route_kept (r : Raised) (s : State) :
    (route r s).part = s.part ∧ (route r s).pending = s.pending ∧ (route r s).memGen = s.memGen ∧
    (route r s).mem = s.mem := by
  unfold route
  simp only [countEvent_kept, logEvent_kept, routeEmcy_kept, routeLog_kept, routeMail_kept, routePins_kept, ite_part,
      ite_pending, ite_memGen, ite_mem, ite_self, and_self]

@[simp] theorem drainEmcy_kept (a0 : Nat) (a1 : State) :
    (drainEmcy a0 a1).part = a1.part ∧ (drainEmcy a0 a1).pending = a1.pending ∧ (drainEmcy a0 a1).memGen = a1.memGen ∧
    (drainEmcy a0 a1).mem = a1.mem := by
  induction a0 generalizing a1 with
  | zero => exact ⟨rfl, rfl, rfl, rfl⟩
  | succ n ih =>
    simp only [drainEmcy]
    split
    · split
      · exact ⟨rfl, rfl, rfl, rfl⟩
      · simp only [ih, State.setKeeper_kept, and_self]
    · exact ⟨rfl, rfl, rfl, rfl⟩

@[simp] theorem sample_kept (s : State) :
    (sample s).part = s.part ∧ (sample s).pending = s.pending ∧ (sample s).memGen = s.memGen ∧ (sample s).mem = s.mem := by
  unfold sample
  simp only [route_kept, foldl_part, foldl_pending, foldl_memGen, foldl_mem, and_self, implies_true]

@[simp] theorem settle_kept (s : State) :
    (settle s).part = s.part ∧ (settle s).pending = s.pending ∧ (settle s).memGen = s.memGen ∧ (settle s).mem = s.mem := by
  unfold settle
  simp only [drainEmcy_kept, sample_kept, and_self]

@[simp] theorem done_kept (s : State) :
    (after (done s) s).part = s.part ∧ (after (done s) s).pending = s.pending ∧ (after (done s) s).memGen = s.memGen ∧
    (after (done s) s).mem = s.mem := by
  unfold done
  simp only [settle_kept, and_self, after_next, settle_kept]

@[simp] theorem deferRaises_kept (s : State) :
    (deferRaises s).part = s.part ∧ (deferRaises s).pending = s.pending ∧ (deferRaises s).memGen = s.memGen ∧
    (deferRaises s).mem = s.mem := by
  unfold deferRaises
  split <;> exact ⟨by with_reducible rfl, by with_reducible rfl, by with_reducible rfl, by with_reducible rfl⟩

@[simp] theorem takeRaises_kept (s : State) :
    (takeRaises s).part = s.part ∧ (takeRaises s).pending = s.pending ∧ (takeRaises s).memGen = s.memGen ∧
    (takeRaises s).mem = s.mem := by
  unfold takeRaises
  exact ⟨by with_reducible rfl, by with_reducible rfl, by with_reducible rfl, by with_reducible rfl⟩

@[simp] theorem doneFab_kept (s : State) :
    (after (doneFab s) s).part = s.part ∧ (after (doneFab s) s).pending = s.pending ∧
    (after (doneFab s) s).memGen = s.memGen ∧ (after (doneFab s) s).mem = s.mem := by
  unfold doneFab
  simp only [deferRaises_kept, and_self, after_done, settle_kept]

end Sys2Proof.Machine
end

