-- ==== Sys2Proof/Laws/StagingKept.lean ====
section
/-! SUPPORT. What the functions of Machine/Staging.lean keep: the factory part, the queue, and memory where they do not write it. -/

namespace Sys2Proof.Machine

@[simp] theorem stageAccept_kept (path : Nat) (device : Bool) (safe : Bool) (cool : Bool) (parts : List StagePart)
    (s : State) :
    (stageAccept path device safe cool parts s).part = s.part ∧
    (stageAccept path device safe cool parts s).pending = s.pending ∧
    (stageAccept path device safe cool parts s).memGen = s.memGen ∧
    (stageAccept path device safe cool parts s).mem = s.mem := by
  unfold stageAccept
  exact ⟨by with_reducible rfl, by with_reducible rfl, by with_reducible rfl, by with_reducible rfl⟩

@[simp] theorem applyValues_kept (s : State) :
    (applyValues s).part = s.part ∧ (applyValues s).pending = s.pending ∧ (applyValues s).memGen = s.memGen ∧
    (applyValues s).mem = s.mem := by
  unfold applyValues
  exact ⟨by with_reducible rfl, by with_reducible rfl, by with_reducible rfl, by with_reducible rfl⟩

@[simp] theorem applyNear_kept (s : State) :
    (applyNear s).part = s.part ∧ (applyNear s).pending = s.pending ∧ (applyNear s).memGen = s.memGen ∧
    (applyNear s).mem = s.mem := by
  unfold applyNear
  simp only [applyValues_kept, and_self]

@[simp] theorem shiftFar_kept (s : State) :
    (shiftFar s).part = s.part ∧ (shiftFar s).pending = s.pending ∧ (shiftFar s).memGen = s.memGen ∧
    (shiftFar s).mem = s.mem := by
  unfold shiftFar
  exact ⟨by with_reducible rfl, by with_reducible rfl, by with_reducible rfl, by with_reducible rfl⟩

end Sys2Proof.Machine
end

