-- ==== Sys2Proof/Laws/OpsKept.lean ====
section
/-! SUPPORT. What the functions of Machine/Ops.lean keep: the factory part, the queue, and memory where they do not write it. -/

namespace Sys2Proof.Machine

@[simp] theorem State.writeByte_kept (s : State) (a : Nat) (v : Byte) :
    (State.writeByte s a v).part = s.part ∧ (State.writeByte s a v).pending = s.pending ∧
    (State.writeByte s a v).memGen = s.memGen := by
  unfold State.writeByte
  exact ⟨by with_reducible rfl, by with_reducible rfl, by with_reducible rfl⟩

@[simp] theorem State.writeBytes_kept (a0 : List Byte) (a1 : Nat) (a2 : State) :
    (State.writeBytes a0 a1 a2).part = a2.part ∧ (State.writeBytes a0 a1 a2).pending = a2.pending ∧
    (State.writeBytes a0 a1 a2).memGen = a2.memGen := by
  induction a0 generalizing a1 a2 with
  | nil => exact ⟨rfl, rfl, rfl⟩
  | cons b bs ih => simp only [State.writeBytes, ih, State.writeByte_kept, and_self]

@[simp] theorem State.writeNat_kept (s : State) (a : Nat) (n : Nat) (v : Nat) :
    (State.writeNat s a n v).part = s.part ∧ (State.writeNat s a n v).pending = s.pending ∧
    (State.writeNat s a n v).memGen = s.memGen := by
  unfold State.writeNat
  simp only [State.writeBytes_kept, and_self]

@[simp] theorem State.fillRange_kept (s : State) (base : Nat) (n : Nat) (f : Nat → Byte) :
    (State.fillRange s base n f).part = s.part ∧ (State.fillRange s base n f).pending = s.pending ∧
    (State.fillRange s base n f).memGen = s.memGen := by
  unfold State.fillRange
  exact ⟨by with_reducible rfl, by with_reducible rfl, by with_reducible rfl⟩

@[simp] theorem State.setBank_kept (s : State) (st : Nat) (b : PatBank) :
    (State.setBank s st b).part = s.part ∧ (State.setBank s st b).pending = s.pending ∧
    (State.setBank s st b).memGen = s.memGen ∧ (State.setBank s st b).mem = s.mem := by
  unfold State.setBank
  exact ⟨by with_reducible rfl, by with_reducible rfl, by with_reducible rfl, by with_reducible rfl⟩

@[simp] theorem setFenceState_kept (n : Nat) (v : Nat) (s : State) :
    (setFenceState n v s).part = s.part ∧ (setFenceState n v s).pending = s.pending ∧
    (setFenceState n v s).memGen = s.memGen ∧ (setFenceState n v s).mem = s.mem := by
  unfold setFenceState
  exact ⟨by with_reducible rfl, by with_reducible rfl, by with_reducible rfl, by with_reducible rfl⟩

@[simp] theorem fenceBegin_kept (n : Nat) (s : State) :
    (fenceBegin n s).part = s.part ∧ (fenceBegin n s).pending = s.pending ∧ (fenceBegin n s).memGen = s.memGen ∧
    (fenceBegin n s).mem = s.mem := by
  unfold fenceBegin
  simp only [setFenceState_kept, ite_part, ite_pending, ite_memGen, ite_mem, ite_self, and_self]

@[simp] theorem fenceEnd_kept (n : Nat) (s : State) :
    (fenceEnd n s).part = s.part ∧ (fenceEnd n s).pending = s.pending ∧ (fenceEnd n s).memGen = s.memGen ∧
    (fenceEnd n s).mem = s.mem := by
  unfold fenceEnd
  simp only [setFenceState_kept, ite_part, ite_pending, ite_memGen, ite_mem, ite_self, and_self]

@[simp] theorem deviceFenceOn_kept (n : Nat) (s : State) :
    (deviceFenceOn n s).part = s.part ∧ (deviceFenceOn n s).pending = s.pending ∧ (deviceFenceOn n s).memGen = s.memGen ∧
    (deviceFenceOn n s).mem = s.mem := by
  unfold deviceFenceOn
  simp only [fenceBegin_kept, and_self]

@[simp] theorem deviceFenceOff_kept (n : Nat) (s : State) :
    (deviceFenceOff n s).part = s.part ∧ (deviceFenceOff n s).pending = s.pending ∧ (deviceFenceOff n s).memGen = s.memGen ∧
    (deviceFenceOff n s).mem = s.mem := by
  unfold deviceFenceOff
  simp only [fenceEnd_kept, and_self]

@[simp] theorem notePeak_kept (s : State) :
    (notePeak s).part = s.part ∧ (notePeak s).pending = s.pending ∧ (notePeak s).memGen = s.memGen ∧
    (notePeak s).mem = s.mem := by
  unfold notePeak
  exact ⟨by with_reducible rfl, by with_reducible rfl, by with_reducible rfl, by with_reducible rfl⟩

@[simp] theorem openTxn_kept (r : ReqId) (addr : Nat) (write : Bool) (s : State) :
    (openTxn r addr write s).part = s.part ∧ (openTxn r addr write s).pending = s.pending ∧
    (openTxn r addr write s).memGen = s.memGen ∧ (openTxn r addr write s).mem = s.mem := by
  unfold openTxn
  simp only [notePeak_kept, ite_part, ite_pending, ite_memGen, ite_mem, ite_self, and_self]

@[simp] theorem closeTxn_kept (r : ReqId) (s : State) :
    (closeTxn r s).part = s.part ∧ (closeTxn r s).pending = s.pending ∧ (closeTxn r s).memGen = s.memGen ∧
    (closeTxn r s).mem = s.mem := by
  unfold closeTxn
  exact ⟨by with_reducible rfl, by with_reducible rfl, by with_reducible rfl, by with_reducible rfl⟩

@[simp] theorem crossBack_kept (r : ReqId) (s : State) :
    (crossBack r s).part = s.part ∧ (crossBack r s).pending = s.pending ∧ (crossBack r s).memGen = s.memGen ∧
    (crossBack r s).mem = s.mem := by
  unfold crossBack
  simp only [ite_part, ite_pending, ite_memGen, ite_mem, ite_self, and_self]

@[simp] theorem answer_kept (r : ReqId) (st : Status) (data : Line) (s : State) :
    (answer r st data s).part = s.part ∧ (answer r st data s).pending = s.pending ∧ (answer r st data s).memGen = s.memGen ∧
    (answer r st data s).mem = s.mem := by
  unfold answer
  simp only [crossBack_kept, and_self]

@[simp] theorem answerStatus_kept (r : ReqId) (st : Status) (s : State) :
    (answerStatus r st s).part = s.part ∧ (answerStatus r st s).pending = s.pending ∧
    (answerStatus r st s).memGen = s.memGen ∧ (answerStatus r st s).mem = s.mem := by
  unfold answerStatus
  simp only [answer_kept, and_self]

@[simp] theorem reply_kept (p : Nat) (idx : Nat) (sub : Nat) (code : Nat) (seq : Nat) (data : List Byte) (s : State) :
    (reply p idx sub code seq data s).part = s.part ∧ (reply p idx sub code seq data s).pending = s.pending ∧
    (reply p idx sub code seq data s).memGen = s.memGen ∧ (reply p idx sub code seq data s).mem = s.mem := by
  unfold reply
  exact ⟨by with_reducible rfl, by with_reducible rfl, by with_reducible rfl, by with_reducible rfl⟩

@[simp] theorem answered_kept (p : Path) (idx : Nat) (sub : Nat) (r : Nat × State) :
    (answered p idx sub r).part = r.2.part ∧ (answered p idx sub r).pending = r.2.pending ∧
    (answered p idx sub r).memGen = r.2.memGen ∧ (answered p idx sub r).mem = r.2.mem := by
  unfold answered
  simp only [reply_kept, and_self]

@[simp] theorem onPath_part (p : Path) (idx : Nat) (sub : Nat) (s : State) (r : Nat × State)
    (h0 : r.2.part = s.part) : (onPath p idx sub s r).part = s.part := by
  unfold onPath
  simp only [answered_kept, h0, ite_part, ite_self]

@[simp] theorem onPath_pending (p : Path) (idx : Nat) (sub : Nat) (s : State) (r : Nat × State)
    (h0 : r.2.pending = s.pending) : (onPath p idx sub s r).pending = s.pending := by
  unfold onPath
  simp only [answered_kept, h0, ite_pending, ite_self]

@[simp] theorem onPath_memGen (p : Path) (idx : Nat) (sub : Nat) (s : State) (r : Nat × State)
    (h0 : r.2.memGen = s.memGen) : (onPath p idx sub s r).memGen = s.memGen := by
  unfold onPath
  simp only [answered_kept, h0, ite_memGen, ite_self]

@[simp] theorem onPath_mem (p : Path) (idx : Nat) (sub : Nat) (s : State) (r : Nat × State)
    (h0 : r.2.mem = s.mem) : (onPath p idx sub s r).mem = s.mem := by
  unfold onPath
  simp only [answered_kept, h0, ite_mem, ite_self]

end Sys2Proof.Machine
end

