-- ==== Sys2Proof/Laws/StationsKept.lean ====
section
/-! SUPPORT. What the functions of Machine/Stations.lean keep: the factory part, the queue, and memory where they do not write it. -/

namespace Sys2Proof.Machine

@[simp] theorem State.setStation_kept (s : State) (st : Nat) (x : Station) :
    (State.setStation s st x).part = s.part ∧ (State.setStation s st x).pending = s.pending ∧
    (State.setStation s st x).memGen = s.memGen ∧ (State.setStation s st x).mem = s.mem := by
  unfold State.setStation
  exact ⟨by with_reducible rfl, by with_reducible rfl, by with_reducible rfl, by with_reducible rfl⟩

end Sys2Proof.Machine
end

