-- ==== Sys2Proof/Laws/HoldKept.lean ====
section
/-! SUPPORT. What the functions of Machine/Hold.lean keep: the factory part, the queue, and memory where they do not write it. -/

namespace Sys2Proof.Machine

@[simp] theorem State.setUnit_kept (s : State) (u : Nat) (x : HoldUnit) :
    (State.setUnit s u x).part = s.part ∧ (State.setUnit s u x).pending = s.pending ∧
    (State.setUnit s u x).memGen = s.memGen ∧ (State.setUnit s u x).mem = s.mem := by
  unfold State.setUnit
  exact ⟨by with_reducible rfl, by with_reducible rfl, by with_reducible rfl, by with_reducible rfl⟩

@[simp] theorem State.setHoldCount_kept (s : State) (st : Nat) (x : HoldCount) :
    (State.setHoldCount s st x).part = s.part ∧ (State.setHoldCount s st x).pending = s.pending ∧
    (State.setHoldCount s st x).memGen = s.memGen ∧ (State.setHoldCount s st x).mem = s.mem := by
  unfold State.setHoldCount
  exact ⟨by with_reducible rfl, by with_reducible rfl, by with_reducible rfl, by with_reducible rfl⟩

@[simp] theorem unitCauses_kept (u : Nat) (bits : Nat) (s : State) :
    (unitCauses u bits s).part = s.part ∧ (unitCauses u bits s).pending = s.pending ∧
    (unitCauses u bits s).memGen = s.memGen ∧ (unitCauses u bits s).mem = s.mem := by
  unfold unitCauses
  simp only [State.setUnit_kept, raiseOnce_kept, ite_part, ite_pending, ite_memGen, ite_mem, ite_self, and_self]

@[simp] theorem drawIfOpen_kept (u : Nat) (s : State) :
    (drawIfOpen u s).part = s.part ∧ (drawIfOpen u s).pending = s.pending ∧ (drawIfOpen u s).memGen = s.memGen ∧
    (drawIfOpen u s).mem = s.mem := by
  unfold drawIfOpen
  simp only [State.draw_kept, ite_part, ite_pending, ite_memGen, ite_mem, ite_self, and_self]

@[simp] theorem writeWord_kept (u : Nat) (w : Nat) (v : Nat) (s : State) :
    (writeWord u w v s).part = s.part ∧ (writeWord u w v s).pending = s.pending ∧ (writeWord u w v s).memGen = s.memGen := by
  unfold writeWord
  simp only [State.setUnit_kept, State.writeNat_kept, ite_part, ite_pending, ite_memGen, ite_self, and_self]

@[simp] theorem writeWords_kept (u : Nat) (cap : Nat) (a2 : List Nat) (a3 : Nat) (a4 : State) :
    (writeWords u cap a2 a3 a4).part = a4.part ∧ (writeWords u cap a2 a3 a4).pending = a4.pending ∧
    (writeWords u cap a2 a3 a4).memGen = a4.memGen := by
  induction a2 generalizing a3 a4 with
  | nil => exact ⟨rfl, rfl, rfl⟩
  | cons b bs ih => simp only [writeWords, ih, writeWord_kept, and_self]

@[simp] theorem countEcc_kept (u : Nat) (w : Nat) (e : EccClass) (s : State) :
    (countEcc u w e s).part = s.part ∧ (countEcc u w e s).pending = s.pending ∧ (countEcc u w e s).memGen = s.memGen ∧
    (countEcc u w e s).mem = s.mem := by
  unfold countEcc
  (repeat' split) <;> simp only [State.setHoldCount_kept, unitCauses_kept, and_self]

@[simp] theorem setFill_kept (u : Nat) (new : Nat) (s : State) :
    (setFill u new s).part = s.part ∧ (setFill u new s).pending = s.pending ∧ (setFill u new s).memGen = s.memGen ∧
    (setFill u new s).mem = s.mem := by
  unfold setFill
  simp only [State.setUnit_kept, unitCauses_kept, and_self]

@[simp] theorem pushWords_kept (u : Nat) (ws : List Nat) (s : State) :
    (pushWords u ws s).part = s.part ∧ (pushWords u ws s).pending = s.pending ∧ (pushWords u ws s).memGen = s.memGen := by
  unfold pushWords
  simp only [State.setUnit_kept, setFill_kept, writeWords_kept, and_self]

@[simp] theorem popWords_kept (u : Nat) (n : Nat) (s : State) :
    (popWords u n s).part = s.part ∧ (popWords u n s).pending = s.pending ∧ (popWords u n s).memGen = s.memGen ∧
    (popWords u n s).mem = s.mem := by
  unfold popWords
  simp only [State.setUnit_kept, setFill_kept, and_self]

@[simp] theorem checkedWords_kept (u : Nat) (a : Nat) (n : Nat) (ecc : Nat → EccClass) (s : State) :
    (checkedWords u a n ecc s).2.part = s.part ∧ (checkedWords u a n ecc s).2.pending = s.pending ∧
    (checkedWords u a n ecc s).2.memGen = s.memGen ∧ (checkedWords u a n ecc s).2.mem = s.mem := by
  unfold checkedWords
  simp only [countEcc_kept, drawIfOpen_kept, foldl_part, foldl_pending, foldl_memGen, foldl_mem, and_self, implies_true]

@[simp] theorem takeWords_kept (u : Nat) (n : Nat) (ecc : Nat → EccClass) (s : State) :
    (takeWords u n ecc s).2.part = s.part ∧ (takeWords u n ecc s).2.pending = s.pending ∧
    (takeWords u n ecc s).2.memGen = s.memGen ∧ (takeWords u n ecc s).2.mem = s.mem := by
  unfold takeWords
  simp only [checkedWords_kept, popWords_kept, and_self]

@[simp] theorem ringWords_kept (u : Nat) (cap : Nat) (ws : List Nat) (s : State) :
    (ringWords u cap ws s).part = s.part ∧ (ringWords u cap ws s).pending = s.pending ∧
    (ringWords u cap ws s).memGen = s.memGen := by
  unfold ringWords
  simp only [State.setUnit_kept, unitCauses_kept, writeWords_kept, ite_part, ite_pending, ite_memGen, ite_self, and_self]

@[simp] theorem openMark_kept (u : Nat) (s : State) :
    (openMark u s).part = s.part ∧ (openMark u s).pending = s.pending ∧ (openMark u s).memGen = s.memGen ∧
    (openMark u s).mem = s.mem := by
  unfold openMark
  simp only [State.setUnit_kept, and_self]

@[simp] theorem stationRead_kept (u : Nat) (w : Nat) (e : EccClass) (s : State) :
    (stationRead u w e s).2.part = s.part ∧ (stationRead u w e s).2.pending = s.pending ∧
    (stationRead u w e s).2.memGen = s.memGen ∧ (stationRead u w e s).2.mem = s.mem := by
  unfold stationRead
  simp only [State.setHoldCount_kept, countEcc_kept, drawIfOpen_kept, popWords_kept, unitCauses_kept, ite_part, ite_pending,
      ite_memGen, ite_mem, ite_self, ite_snd, and_self]

@[simp] theorem refuseWrite_kept (u : Nat) (bits : Nat) (s : State) :
    (refuseWrite u bits s).part = s.part ∧ (refuseWrite u bits s).pending = s.pending ∧
    (refuseWrite u bits s).memGen = s.memGen ∧ (refuseWrite u bits s).mem = s.mem := by
  unfold refuseWrite
  simp only [State.setHoldCount_kept, unitCauses_kept, and_self]

@[simp] theorem stationWrite_kept (u : Nat) (w : Nat) (v : Nat) (s : State) :
    (stationWrite u w v s).part = s.part ∧ (stationWrite u w v s).pending = s.pending ∧
    (stationWrite u w v s).memGen = s.memGen := by
  unfold stationWrite
  (repeat' split) <;> simp only [pushWords_kept, refuseWrite_kept, ringWords_kept, writeWord_kept, ite_part, ite_pending, ite_memGen, ite_self, and_self]

@[simp] theorem stationAccess_kept (u : Nat) (p : PortAsk) (e : EccClass) (s : State) :
    (stationAccess u p e s).2.part = s.part ∧ (stationAccess u p e s).2.pending = s.pending ∧
    (stationAccess u p e s).2.memGen = s.memGen := by
  unfold stationAccess
  simp only [stationRead_kept, stationWrite_kept, ite_part, ite_pending, ite_memGen, ite_self, ite_snd, and_self]

@[simp] theorem holdAnswer_kept (r : HoldReq) (st : Status) (s : State) :
    (holdAnswer r st s).part = s.part ∧ (holdAnswer r st s).pending = s.pending ∧ (holdAnswer r st s).memGen = s.memGen ∧
    (holdAnswer r st s).mem = s.mem := by
  unfold holdAnswer
  simp only [answerStatus_kept, ite_part, ite_pending, ite_memGen, ite_mem, ite_self, and_self]

@[simp] theorem serveRead_kept (u : Nat) (r : HoldReq) (s : State) :
    (serveRead u r s).part = s.part ∧ (serveRead u r s).pending = s.pending ∧ (serveRead u r s).memGen = s.memGen ∧
    (serveRead u r s).mem = s.mem := by
  unfold serveRead
  simp only [answer_kept, answerStatus_kept, checkedWords_kept, takeWords_kept, unitCauses_kept, ite_part, ite_pending,
      ite_memGen, ite_mem, ite_self, and_self]

@[simp] theorem badWrite_kept (u : Nat) (r : HoldReq) (s : State) :
    (badWrite u r s).part = s.part ∧ (badWrite u r s).pending = s.pending ∧ (badWrite u r s).memGen = s.memGen ∧
    (badWrite u r s).mem = s.mem := by
  unfold badWrite
  simp only [holdAnswer_kept, unitCauses_kept, ite_part, ite_pending, ite_memGen, ite_mem, ite_self, and_self]

@[simp] theorem goodWrite_kept (u : Nat) (r : HoldReq) (s : State) :
    (goodWrite u r s).part = s.part ∧ (goodWrite u r s).pending = s.pending ∧ (goodWrite u r s).memGen = s.memGen := by
  unfold goodWrite
  (repeat' (first | (simp only [holdAnswer_kept, pushWords_kept, ringWords_kept, unitCauses_kept, writeWord_kept, writeWords_kept, ite_part, ite_pending, ite_memGen, ite_self, and_self]; done) | split | simp only [holdAnswer_kept, writeWord_kept, writeWords_kept, ite_part, ite_pending, ite_memGen]))

@[simp] theorem serveWrite_kept (u : Nat) (r : HoldReq) (s : State) :
    (serveWrite u r s).part = s.part ∧ (serveWrite u r s).pending = s.pending ∧ (serveWrite u r s).memGen = s.memGen := by
  unfold serveWrite
  simp only [badWrite_kept, goodWrite_kept, ite_part, ite_pending, ite_memGen, ite_self, and_self]

@[simp] theorem serveNoc_kept (u : Nat) (r : HoldReq) (s : State) :
    (serveNoc u r s).part = s.part ∧ (serveNoc u r s).pending = s.pending ∧ (serveNoc u r s).memGen = s.memGen := by
  unfold serveNoc
  simp only [State.setUnit_kept, serveRead_kept, serveWrite_kept, ite_part, ite_pending, ite_memGen, ite_self, and_self]

@[simp] theorem collide_kept (u : Nat) (r : HoldReq) (s : State) :
    (collide u r s).part = s.part ∧ (collide u r s).pending = s.pending ∧ (collide u r s).memGen = s.memGen ∧
    (collide u r s).mem = s.mem := by
  unfold collide
  simp only [State.setHoldCount_kept, holdAnswer_kept, unitCauses_kept, and_self]

@[simp] theorem enqueueHold_kept (u : Nat) (r : HoldReq) (s : State) :
    (enqueueHold u r s).part = s.part ∧ (enqueueHold u r s).pending = s.pending ∧ (enqueueHold u r s).memGen = s.memGen ∧
    (enqueueHold u r s).mem = s.mem := by
  unfold enqueueHold
  simp only [State.setUnit_kept, and_self]

@[simp] theorem holdArrive_kept (u : Nat) (r : HoldReq) (s : State) :
    (holdArrive u r s).part = s.part ∧ (holdArrive u r s).pending = s.pending ∧ (holdArrive u r s).memGen = s.memGen := by
  unfold holdArrive
  simp only [collide_kept, enqueueHold_kept, holdAnswer_kept, serveNoc_kept, unitCauses_kept, ite_part, ite_pending,
      ite_memGen, ite_self, and_self]

@[simp] theorem schedAtFence_kept (sched : Bool) (s : State) :
    (schedAtFence sched s).part = s.part ∧ (schedAtFence sched s).pending = s.pending ∧
    (schedAtFence sched s).memGen = s.memGen ∧ (schedAtFence sched s).mem = s.mem := by
  unfold schedAtFence
  simp only [raise_kept, ite_part, ite_pending, ite_memGen, ite_mem, ite_self, and_self]

@[simp] theorem shaftArrive_kept (u : Nat) (r : HoldReq) (s : State) :
    (shaftArrive u r s).part = s.part ∧ (shaftArrive u r s).pending = s.pending ∧ (shaftArrive u r s).memGen = s.memGen := by
  unfold shaftArrive
  simp only [holdArrive_kept, ite_part, ite_pending, ite_memGen, ite_self, and_self]

@[simp] theorem holdAccess_kept (addr : Nat) (legal : Bool) (r : HoldReq) (s : State) :
    (holdAccess addr legal r s).part = s.part ∧ (holdAccess addr legal r s).pending = s.pending ∧
    (holdAccess addr legal r s).memGen = s.memGen := by
  unfold holdAccess
  simp only [holdAnswer_kept, openTxn_kept, schedAtFence_kept, shaftArrive_kept, ite_part, ite_pending, ite_memGen,
      ite_self, and_self]

@[simp] theorem holdRequest_kept (req : ReqId) (addr : Nat) (kind : Nat) (data : Nat) (be : Nat) (legal : Bool)
    (sched : Bool) (ecc : List EccClass) (s : State) :
    (holdRequest req addr kind data be legal sched ecc s).part = s.part ∧
    (holdRequest req addr kind data be legal sched ecc s).pending = s.pending ∧
    (holdRequest req addr kind data be legal sched ecc s).memGen = s.memGen := by
  unfold holdRequest
  simp only [holdAccess_kept, and_self]

@[simp] theorem guardStep_kept (a0 : Nat) (a1 : State) :
    (guardStep a0 a1).part = a1.part ∧ (guardStep a0 a1).pending = a1.pending ∧ (guardStep a0 a1).memGen = a1.memGen := by
  induction a0 generalizing a1 with
  | zero => exact ⟨rfl, rfl, rfl⟩
  | succ n ih =>
    unfold guardStep
    split
    · simp only [ih, holdArrive_kept, and_self]
    · exact ⟨rfl, rfl, rfl⟩

@[simp] theorem execHoldNocReadRow_kept (req : ReqId) (addr : BitVec 48) (size : Nat) (ecc : List EccClass) (s : State) :
    (after (execHoldNocReadRow req addr size ecc s) s).part = s.part ∧
    (after (execHoldNocReadRow req addr size ecc s) s).pending = s.pending ∧
    (after (execHoldNocReadRow req addr size ecc s) s).memGen = s.memGen := by
  unfold execHoldNocReadRow
  simp only [holdRequest_kept, and_self, after_done, settle_kept]

@[simp] theorem execHoldNocWriteRow_kept (req : ReqId) (addr : BitVec 48) (data : List Byte) (sched : Bool) (s : State) :
    (after (execHoldNocWriteRow req addr data sched s) s).part = s.part ∧
    (after (execHoldNocWriteRow req addr data sched s) s).pending = s.pending ∧
    (after (execHoldNocWriteRow req addr data sched s) s).memGen = s.memGen := by
  unfold execHoldNocWriteRow
  simp only [holdRequest_kept, and_self, after_done, settle_kept]

@[simp] theorem execHoldNocWriteWord_kept (req : ReqId) (addr : BitVec 48) (data : BitVec 32) (be : BitVec 4) (s : State) :
    (after (execHoldNocWriteWord req addr data be s) s).part = s.part ∧
    (after (execHoldNocWriteWord req addr data be s) s).pending = s.pending ∧
    (after (execHoldNocWriteWord req addr data be s) s).memGen = s.memGen := by
  unfold execHoldNocWriteWord
  simp only [holdRequest_kept, and_self, after_done, settle_kept]

@[simp] theorem execHoldStarved_kept (u : Fin 4160) (s : State) :
    (after (execHoldStarved u s) s).part = s.part ∧ (after (execHoldStarved u s) s).pending = s.pending ∧
    (after (execHoldStarved u s) s).memGen = s.memGen ∧ (after (execHoldStarved u s) s).mem = s.mem := by
  unfold execHoldStarved
  (repeat' (first | (simp only [State.setUnit_kept, unitCauses_kept, ite_part, ite_pending, ite_memGen, ite_mem, ite_self, and_self, after_ite, after_done, settle_kept, after_doneFab, deferRaises_kept]; done) | split | simp only []))

@[simp] theorem execHoldPushWaitExpired_kept (u : Fin 4160) (s : State) :
    (after (execHoldPushWaitExpired u s) s).part = s.part ∧ (after (execHoldPushWaitExpired u s) s).pending = s.pending ∧
    (after (execHoldPushWaitExpired u s) s).memGen = s.memGen ∧ (after (execHoldPushWaitExpired u s) s).mem = s.mem := by
  unfold execHoldPushWaitExpired
  (repeat' (first | (simp only [State.setUnit_kept, holdAnswer_kept, unitCauses_kept, and_self, after_done, settle_kept, after_doneFab, deferRaises_kept]; done) | split | simp only []))

@[simp] theorem claimRefused_kept (u : Nat) (req : Nat) (s : State) :
    (claimRefused u req s).2.part = s.part ∧ (claimRefused u req s).2.pending = s.pending ∧
    (claimRefused u req s).2.memGen = s.memGen ∧ (claimRefused u req s).2.mem = s.mem := by
  unfold claimRefused
  simp only [raise_kept, and_self]

@[simp] theorem fillWrite_kept (word : Nat) (s : State) :
    (fillWrite word s).2.part = s.part ∧ (fillWrite word s).2.pending = s.pending ∧ (fillWrite word s).2.memGen = s.memGen ∧
    (fillWrite word s).2.mem = s.mem := by
  unfold fillWrite
  simp only [State.setUnit_kept, claimRefused_kept, ite_part, ite_pending, ite_memGen, ite_mem, ite_self, ite_snd, and_self]

@[simp] theorem execFillRequest_kept (path : Path) (word : BitVec 64) (s : State) :
    (after (execFillRequest path word s) s).part = s.part ∧ (after (execFillRequest path word s) s).pending = s.pending ∧
    (after (execFillRequest path word s) s).memGen = s.memGen ∧ (after (execFillRequest path word s) s).mem = s.mem := by
  unfold execFillRequest
  simp only [fillWrite_kept, onPath_part, onPath_pending, onPath_memGen, onPath_mem, and_self, after_done, settle_kept]

@[simp] theorem fillUnit_kept (u : Nat) (pattern : Nat) (s : State) :
    (fillUnit u pattern s).part = s.part ∧ (fillUnit u pattern s).pending = s.pending ∧
    (fillUnit u pattern s).memGen = s.memGen := by
  unfold fillUnit
  simp only [State.draw_kept, State.fillRange_kept, and_self]

@[simp] theorem execFillDone_kept (u : Fin 4160) (s : State) :
    (after (execFillDone u s) s).part = s.part ∧ (after (execFillDone u s) s).pending = s.pending ∧
    (after (execFillDone u s) s).memGen = s.memGen := by
  unfold execFillDone
  (repeat' split) <;> simp only [State.setUnit_kept, fillUnit_kept, and_self, after_done, settle_kept]

@[simp] theorem queueResetWrite_kept (u : Nat) (s : State) :
    (queueResetWrite u s).2.part = s.part ∧ (queueResetWrite u s).2.pending = s.pending ∧
    (queueResetWrite u s).2.memGen = s.memGen ∧ (queueResetWrite u s).2.mem = s.mem := by
  unfold queueResetWrite
  simp only [State.setUnit_kept, claimRefused_kept, ite_part, ite_pending, ite_memGen, ite_mem, ite_self, ite_snd, and_self]

@[simp] theorem execQueueResetRequest_kept (path : Path) (unit : BitVec 16) (s : State) :
    (after (execQueueResetRequest path unit s) s).part = s.part ∧
    (after (execQueueResetRequest path unit s) s).pending = s.pending ∧
    (after (execQueueResetRequest path unit s) s).memGen = s.memGen ∧
    (after (execQueueResetRequest path unit s) s).mem = s.mem := by
  unfold execQueueResetRequest
  simp only [onPath_part, onPath_pending, onPath_memGen, onPath_mem, queueResetWrite_kept, and_self, after_done, settle_kept]

@[simp] theorem claimMarch_kept (n : Nat) (preserving : Bool) (s : State) :
    (claimMarch n preserving s).part = s.part ∧ (claimMarch n preserving s).pending = s.pending ∧
    (claimMarch n preserving s).memGen = s.memGen ∧ (claimMarch n preserving s).mem = s.mem := by
  unfold claimMarch
  simp only [State.setUnit_kept, foldl_part, foldl_pending, foldl_memGen, foldl_mem, and_self, implies_true]

@[simp] theorem marchWrite_kept (word : Nat) (s : State) :
    (marchWrite word s).2.part = s.part ∧ (marchWrite word s).2.pending = s.pending ∧
    (marchWrite word s).2.memGen = s.memGen ∧ (marchWrite word s).2.mem = s.mem := by
  unfold marchWrite
  (repeat' (first | (simp only [claimMarch_kept, claimRefused_kept, ite_part, ite_pending, ite_memGen, ite_mem, ite_snd, and_self]; done) | split | simp only [ite_part, ite_pending, ite_memGen, ite_mem, ite_snd]))

@[simp] theorem execMarchRequest_kept (path : Path) (word : BitVec 32) (s : State) :
    (after (execMarchRequest path word s) s).part = s.part ∧ (after (execMarchRequest path word s) s).pending = s.pending ∧
    (after (execMarchRequest path word s) s).memGen = s.memGen ∧ (after (execMarchRequest path word s) s).mem = s.mem := by
  unfold execMarchRequest
  simp only [marchWrite_kept, onPath_part, onPath_pending, onPath_memGen, onPath_mem, and_self, after_done, settle_kept]

@[simp] theorem marchEnd_kept (u : Nat) (fail : Option Nat) (s : State) :
    (marchEnd u fail s).part = s.part ∧ (marchEnd u fail s).pending = s.pending ∧ (marchEnd u fail s).memGen = s.memGen := by
  unfold marchEnd
  (repeat' (first | (simp only [State.setUnit_kept, fillUnit_kept, unitCauses_kept, ite_part, ite_pending, ite_memGen, ite_self, and_self]; done) | split | simp only []))

@[simp] theorem execMarchDone_kept (group : Fin 260) (fails : List (Fin 16 × Nat)) (s : State) :
    (after (execMarchDone group fails s) s).part = s.part ∧ (after (execMarchDone group fails s) s).pending = s.pending ∧
    (after (execMarchDone group fails s) s).memGen = s.memGen := by
  unfold execMarchDone
  simp only [marchEnd_kept, raise_kept, raiseIf_kept, ite_part, ite_pending, ite_memGen, foldl_part, foldl_pending,
      foldl_memGen, ite_self, and_self, implies_true, after_ite, after_done, settle_kept, after_doneFab, deferRaises_kept]

@[simp] theorem endWaiting_kept (st : Status) (u : Nat) (s : State) :
    (endWaiting st u s).part = s.part ∧ (endWaiting st u s).pending = s.pending ∧ (endWaiting st u s).memGen = s.memGen ∧
    (endWaiting st u s).mem = s.mem := by
  unfold endWaiting
  simp only [State.setUnit_kept, holdAnswer_kept, foldl_part, foldl_pending, foldl_memGen, foldl_mem, and_self, implies_true]

@[simp] theorem endGuard_kept (st : Status) (p : Nat → Bool) (s : State) :
    (endGuard st p s).part = s.part ∧ (endGuard st p s).pending = s.pending ∧ (endGuard st p s).memGen = s.memGen ∧
    (endGuard st p s).mem = s.mem := by
  unfold endGuard
  simp only [holdAnswer_kept, foldl_part, foldl_pending, foldl_memGen, foldl_mem, and_self, implies_true]

@[simp] theorem queueDefaults_kept (n : Nat) (s : State) :
    (queueDefaults n s).part = s.part ∧ (queueDefaults n s).pending = s.pending ∧ (queueDefaults n s).memGen = s.memGen ∧
    (queueDefaults n s).mem = s.mem := by
  unfold queueDefaults
  simp only [State.setObj_kept, ite_part, ite_pending, ite_memGen, ite_mem, ite_self, and_self]

@[simp] theorem resetGroupUnits_kept (n : Nat) (s : State) :
    (resetGroupUnits n s).part = s.part ∧ (resetGroupUnits n s).pending = s.pending ∧
    (resetGroupUnits n s).memGen = s.memGen ∧ (resetGroupUnits n s).mem = s.mem := by
  unfold resetGroupUnits
  simp only [State.setUnit_kept, endGuard_kept, endWaiting_kept, queueDefaults_kept, foldl_part, foldl_pending,
      foldl_memGen, foldl_mem, and_self, implies_true]

@[simp] theorem fenceWaiting_kept (u : Nat) (s : State) :
    (fenceWaiting u s).part = s.part ∧ (fenceWaiting u s).pending = s.pending ∧ (fenceWaiting u s).memGen = s.memGen ∧
    (fenceWaiting u s).mem = s.mem := by
  unfold fenceWaiting
  simp only [endGuard_kept, endWaiting_kept, schedAtFence_kept, foldl_part, foldl_pending, foldl_memGen, foldl_mem,
      and_self, implies_true]

@[simp] theorem execQueueGroupResetDone_kept (group : Fin 260) (s : State) :
    (after (execQueueGroupResetDone group s) s).part = s.part ∧
    (after (execQueueGroupResetDone group s) s).pending = s.pending ∧
    (after (execQueueGroupResetDone group s) s).memGen = s.memGen ∧
    (after (execQueueGroupResetDone group s) s).mem = s.mem := by
  unfold execQueueGroupResetDone
  simp only [and_self, after_done, settle_kept]

@[simp] theorem ringOwnerWrite_kept (data : List Byte) (s : State) :
    (ringOwnerWrite data s).2.part = s.part ∧ (ringOwnerWrite data s).2.pending = s.pending ∧
    (ringOwnerWrite data s).2.memGen = s.memGen ∧ (ringOwnerWrite data s).2.mem = s.mem := by
  unfold ringOwnerWrite
  simp only [raise_kept, ite_part, ite_pending, ite_memGen, ite_mem, ite_self, ite_snd, and_self]

@[simp] theorem execRingOwnerWrite_kept (path : Path) (data : List Byte) (s : State) :
    (after (execRingOwnerWrite path data s) s).part = s.part ∧
    (after (execRingOwnerWrite path data s) s).pending = s.pending ∧
    (after (execRingOwnerWrite path data s) s).memGen = s.memGen ∧
    (after (execRingOwnerWrite path data s) s).mem = s.mem := by
  unfold execRingOwnerWrite
  simp only [onPath_part, onPath_pending, onPath_memGen, onPath_mem, ringOwnerWrite_kept, and_self, after_done, settle_kept]

@[simp] theorem dropLog_kept (u : Nat) (bits : Nat) (s : State) :
    (dropLog u bits s).part = s.part ∧ (dropLog u bits s).pending = s.pending ∧ (dropLog u bits s).memGen = s.memGen ∧
    (dropLog u bits s).mem = s.mem := by
  unfold dropLog
  simp only [raiseOnce_kept, unitCauses_kept, and_self]

@[simp] theorem feedWord_kept (u : Nat) (v : Nat) (s : State) :
    (feedWord u v s).part = s.part ∧ (feedWord u v s).pending = s.pending ∧ (feedWord u v s).memGen = s.memGen := by
  unfold feedWord
  (repeat' (first | (simp only [State.setUnit_kept, dropLog_kept, pushWords_kept, ringWords_kept, writeWord_kept, ite_part, ite_pending, ite_memGen, and_self]; done) | split | simp only []))

@[simp] theorem collideWaiting_kept (target : Option Nat) (u : Nat) (s : State) :
    (collideWaiting target u s).part = s.part ∧ (collideWaiting target u s).pending = s.pending ∧
    (collideWaiting target u s).memGen = s.memGen ∧ (collideWaiting target u s).mem = s.mem := by
  unfold collideWaiting
  simp only [State.setUnit_kept, collide_kept, ite_part, ite_pending, ite_memGen, ite_mem, foldl_part, foldl_pending,
      foldl_memGen, foldl_mem, ite_self, and_self, implies_true]

@[simp] theorem ageUnit_kept (march : Bool) (u : Nat) (s : State) :
    (ageUnit march u s).part = s.part ∧ (ageUnit march u s).pending = s.pending ∧ (ageUnit march u s).memGen = s.memGen ∧
    (ageUnit march u s).mem = s.mem := by
  unfold ageUnit
  simp only [State.setHoldCount_kept, State.setUnit_kept, ite_part, ite_pending, ite_memGen, ite_mem, ite_self, and_self]

@[simp] theorem grantMarch_kept (u : Nat) (s : State) :
    (grantMarch u s).part = s.part ∧ (grantMarch u s).pending = s.pending ∧ (grantMarch u s).memGen = s.memGen ∧
    (grantMarch u s).mem = s.mem := by
  unfold grantMarch
  simp only [State.setUnit_kept, ite_part, ite_pending, ite_memGen, ite_mem, ite_self, and_self]

@[simp] theorem storeCapture_kept (u : Nat) (bytes : List Byte) (s : State) :
    (storeCapture u bytes s).part = s.part ∧ (storeCapture u bytes s).pending = s.pending ∧
    (storeCapture u bytes s).memGen = s.memGen := by
  unfold storeCapture
  simp only [ringWords_kept, and_self]

theorem State.waitingRecord_kept {s t : State} {u : Nat} (h : s.waitingRecord u = some t) :
    t.part = s.part ∧ t.pending = s.pending ∧ t.memGen = s.memGen := by
  unfold State.waitingRecord at h
  (repeat' split at h) <;> first | cases h; done | (cases h; simp only [storeCapture_kept, State.setUnit_kept, and_self])

@[simp] theorem unitCycle_kept (busy : Bool) (target : Option Nat) (u : Nat) (s : State) :
    (unitCycle busy target u s).part = s.part ∧ (unitCycle busy target u s).pending = s.pending ∧
    (unitCycle busy target u s).memGen = s.memGen := by
  unfold unitCycle
  dsimp only
  (repeat' split) <;> first
    | (simp only [ageUnit_kept, feedWord_kept, serveNoc_kept, grantMarch_kept, State.setUnit_kept, collideWaiting_kept,
    and_self]; done)
    | (rename_i h; simp only [ageUnit_kept, State.waitingRecord_kept h, collideWaiting_kept, and_self])

@[simp] theorem logWord_kept (v : BitVec 32) (s : State) :
    (logWord v s).part = s.part ∧ (logWord v s).pending = s.pending ∧ (logWord v s).memGen = s.memGen ∧
    (logWord v s).mem = s.mem := by
  unfold logWord
  simp only [State.setUnit_kept, ite_part, ite_pending, ite_memGen, ite_mem, ite_self, and_self]

@[simp] theorem dropLogWord_kept (s : State) :
    (dropLogWord s).part = s.part ∧ (dropLogWord s).pending = s.pending ∧ (dropLogWord s).memGen = s.memGen ∧
    (dropLogWord s).mem = s.mem := by
  unfold dropLogWord
  (repeat' split) <;> simp only [dropLog_kept, and_self]

@[simp] theorem captureRecord_kept (g : Nat) (bytes : List Byte) (s : State) :
    (captureRecord g bytes s).part = s.part ∧ (captureRecord g bytes s).pending = s.pending ∧
    (captureRecord g bytes s).memGen = s.memGen := by
  unfold captureRecord
  simp only [State.setUnit_kept, storeCapture_kept, ite_part, ite_pending, ite_memGen, ite_self, and_self]

end Sys2Proof.Machine
end

