-- ==== Sys2Proof/Laws/PatternKept.lean ====
section
/-! SUPPORT. What the functions of Machine/Pattern.lean keep: the factory part, the queue, and memory where they do not write it. -/

namespace Sys2Proof.Machine

@[simp] theorem State.setEntry_kept (s : State) (st : Nat) (e : Nat) (x : PatEntry) :
    (State.setEntry s st e x).part = s.part ∧ (State.setEntry s st e x).pending = s.pending ∧
    (State.setEntry s st e x).memGen = s.memGen ∧ (State.setEntry s st e x).mem = s.mem := by
  unfold State.setEntry
  exact ⟨by with_reducible rfl, by with_reducible rfl, by with_reducible rfl, by with_reducible rfl⟩

@[simp] theorem bankCause_kept (st : Nat) (bits : Nat) (s : State) :
    (bankCause st bits s).part = s.part ∧ (bankCause st bits s).pending = s.pending ∧
    (bankCause st bits s).memGen = s.memGen ∧ (bankCause st bits s).mem = s.mem := by
  unfold bankCause
  simp only [State.setBank_kept, raiseOnce_kept, and_self]

@[simp] theorem countStrobe_kept (st : Nat) (d : Strobe) (s : State) :
    (countStrobe st d s).part = s.part ∧ (countStrobe st d s).pending = s.pending ∧ (countStrobe st d s).memGen = s.memGen ∧
    (countStrobe st d s).mem = s.mem := by
  unfold countStrobe
  (repeat' split) <;> simp only [State.setBank_kept, bankCause_kept, ite_part, ite_pending, ite_memGen, ite_mem, ite_self, and_self]

@[simp] theorem strobe_kept (st : Nat) (key : BitVec 144) (s : State) :
    (strobe st key s).part = s.part ∧ (strobe st key s).pending = s.pending ∧ (strobe st key s).memGen = s.memGen ∧
    (strobe st key s).mem = s.mem := by
  unfold strobe
  simp only [State.setStation_kept, countStrobe_kept, and_self]

@[simp] theorem noStrobe_kept (st : Nat) (s : State) :
    (noStrobe st s).part = s.part ∧ (noStrobe st s).pending = s.pending ∧ (noStrobe st s).memGen = s.memGen ∧
    (noStrobe st s).mem = s.mem := by
  unfold noStrobe
  simp only [State.setBank_kept, ite_part, ite_pending, ite_memGen, ite_mem, ite_self, and_self]

@[simp] theorem noteRefused_kept (addr : Nat) (s : State) :
    (noteRefused addr s).part = s.part ∧ (noteRefused addr s).pending = s.pending ∧ (noteRefused addr s).memGen = s.memGen ∧
    (noteRefused addr s).mem = s.mem := by
  unfold noteRefused
  simp only [State.setBank_kept, bankCause_kept, ite_part, ite_pending, ite_memGen, ite_mem, ite_self, and_self]

@[simp] theorem windowRefused_kept (req : ReqId) (addr : Nat) (s : State) :
    (windowRefused req addr s).part = s.part ∧ (windowRefused req addr s).pending = s.pending ∧
    (windowRefused req addr s).memGen = s.memGen ∧ (windowRefused req addr s).mem = s.mem := by
  unfold windowRefused
  simp only [answerStatus_kept, noteRefused_kept, and_self]

@[simp] theorem patternAccess_kept (req : ReqId) (addr : Nat) (legal : Bool) (data : Option Nat) (bad : Bool) (s : State) :
    (patternAccess req addr legal data bad s).part = s.part ∧
    (patternAccess req addr legal data bad s).pending = s.pending ∧
    (patternAccess req addr legal data bad s).memGen = s.memGen ∧ (patternAccess req addr legal data bad s).mem = s.mem := by
  unfold patternAccess
  (repeat' (first | (simp only [State.setEntry_kept, answer_kept, answerStatus_kept, openTxn_kept, windowRefused_kept, ite_part, ite_pending, ite_memGen, ite_mem, and_self]; done) | split | simp only []))

@[simp] theorem patternScheduled_kept (addr : Nat) (v : Nat) (bad : Bool) (s : State) :
    (patternScheduled addr v bad s).part = s.part ∧ (patternScheduled addr v bad s).pending = s.pending ∧
    (patternScheduled addr v bad s).memGen = s.memGen ∧ (patternScheduled addr v bad s).mem = s.mem := by
  unfold patternScheduled
  (repeat' split) <;> simp only [State.setEntry_kept, noteRefused_kept, and_self]

@[simp] theorem parityCheck_kept (st : Nat) (flips : BitVec 301) (s0 : State) :
    (parityCheck st flips s0).part = s0.part ∧ (parityCheck st flips s0).pending = s0.pending ∧
    (parityCheck st flips s0).memGen = s0.memGen ∧ (parityCheck st flips s0).mem = s0.mem := by
  unfold parityCheck
  simp only [State.setBank_kept, State.setEntry_kept, bankCause_kept, ite_part, ite_pending, ite_memGen, ite_mem, ite_self,
      and_self]

@[simp] theorem execPatternParityCheck_kept (st : Fin 256) (flips : BitVec 301) (s : State) :
    (after (execPatternParityCheck st flips s) s).part = s.part ∧
    (after (execPatternParityCheck st flips s) s).pending = s.pending ∧
    (after (execPatternParityCheck st flips s) s).memGen = s.memGen ∧
    (after (execPatternParityCheck st flips s) s).mem = s.mem := by
  unfold execPatternParityCheck
  simp only [parityCheck_kept, ite_part, ite_pending, ite_memGen, ite_mem, ite_self, and_self, after_ite, after_done,
      settle_kept, after_doneFab, deferRaises_kept]

@[simp] theorem clearBank_kept (st : Nat) (s : State) :
    (clearBank st s).part = s.part ∧ (clearBank st s).pending = s.pending ∧ (clearBank st s).memGen = s.memGen ∧
    (clearBank st s).mem = s.mem := by
  unfold clearBank
  exact ⟨by with_reducible rfl, by with_reducible rfl, by with_reducible rfl, by with_reducible rfl⟩

@[simp] theorem execPatternBankClearDone_kept (st : Fin 256) (s : State) :
    (after (execPatternBankClearDone st s) s).part = s.part ∧
    (after (execPatternBankClearDone st s) s).pending = s.pending ∧
    (after (execPatternBankClearDone st s) s).memGen = s.memGen ∧ (after (execPatternBankClearDone st s) s).mem = s.mem := by
  unfold execPatternBankClearDone
  simp only [State.setBank_kept, clearBank_kept, ite_part, ite_pending, ite_memGen, ite_mem, ite_self, and_self, after_ite,
      after_done, settle_kept]

@[simp] theorem rampLayer_kept (s : State) :
    (rampLayer s).part = s.part ∧ (rampLayer s).pending = s.pending ∧ (rampLayer s).memGen = s.memGen ∧
    (rampLayer s).mem = s.mem := by
  unfold rampLayer
  simp only [ite_part, ite_pending, ite_memGen, ite_mem, ite_self, and_self]

@[simp] theorem layerClears_kept (s : State) :
    (layerClears s).part = s.part ∧ (layerClears s).pending = s.pending ∧ (layerClears s).memGen = s.memGen ∧
    (layerClears s).mem = s.mem := by
  unfold layerClears
  simp only [ite_part, ite_pending, ite_memGen, ite_mem, ite_self, and_self]

@[simp] theorem closeExit_kept (s : State) :
    (closeExit s).part = s.part ∧ (closeExit s).pending = s.pending ∧ (closeExit s).memGen = s.memGen ∧
    (closeExit s).mem = s.mem := by
  unfold closeExit
  simp only [ite_part, ite_pending, ite_memGen, ite_mem, ite_self, and_self]

@[simp] theorem withPowerEvent_part (f : State → State) (s : State) (h_f : ∀ (y0 : State),
    (f y0).part = y0.part) : (withPowerEvent f s).part = s.part := by
  unfold withPowerEvent
  simp only [raiseIf_kept, h_f]

@[simp] theorem withPowerEvent_pending (f : State → State) (s : State) (h_f : ∀ (y0 : State),
    (f y0).pending = y0.pending) : (withPowerEvent f s).pending = s.pending := by
  unfold withPowerEvent
  simp only [raiseIf_kept, h_f]

@[simp] theorem withPowerEvent_memGen (f : State → State) (s : State) (h_f : ∀ (y0 : State),
    (f y0).memGen = y0.memGen) : (withPowerEvent f s).memGen = s.memGen := by
  unfold withPowerEvent
  simp only [raiseIf_kept, h_f]

@[simp] theorem withPowerEvent_mem (f : State → State) (s : State) (h_f : ∀ (y0 : State),
    (f y0).mem = y0.mem) : (withPowerEvent f s).mem = s.mem := by
  unfold withPowerEvent
  simp only [raiseIf_kept, h_f]

@[simp] theorem execPatternLayerOn_kept (s : State) :
    (after (execPatternLayerOn s) s).part = s.part ∧ (after (execPatternLayerOn s) s).pending = s.pending ∧
    (after (execPatternLayerOn s) s).memGen = s.memGen ∧ (after (execPatternLayerOn s) s).mem = s.mem := by
  unfold execPatternLayerOn
  simp only [closeExit_kept, deviceFenceOff_kept, raise_kept, withPowerEvent_part, withPowerEvent_pending,
      withPowerEvent_memGen, withPowerEvent_mem, ite_part, ite_pending, ite_memGen, ite_mem, ite_self, and_self,
      implies_true, after_ite, after_done, settle_kept]

end Sys2Proof.Machine
end

