-- ==== Sys2Proof/Laws/AddressMapKept.lean ====
section
/-! SUPPORT. What the functions of Machine/AddressMap.lean keep: the factory part, the queue, and memory where they do not write it. -/

namespace Sys2Proof.Machine

@[simp] theorem State.setGroup_kept (s : State) (g : Nat) (x : Group) :
    (State.setGroup s g x).part = s.part ∧ (State.setGroup s g x).pending = s.pending ∧
    (State.setGroup s g x).memGen = s.memGen ∧ (State.setGroup s g x).mem = s.mem := by
  unfold State.setGroup
  exact ⟨by with_reducible rfl, by with_reducible rfl, by with_reducible rfl, by with_reducible rfl⟩

end Sys2Proof.Machine
end

