-- ==== Sys2Proof/Laws/DramKept.lean ====
section
/-! SUPPORT. What the functions of Machine/Dram.lean keep: the factory part, the queue, and memory where they do not write it. -/

namespace Sys2Proof.Machine

@[simp] theorem State.setChannel_kept (s : State) (c : Nat) (x : Channel) :
    (State.setChannel s c x).part = s.part ∧ (State.setChannel s c x).pending = s.pending ∧
    (State.setChannel s c x).memGen = s.memGen ∧ (State.setChannel s c x).mem = s.mem := by
  unfold State.setChannel
  exact ⟨by with_reducible rfl, by with_reducible rfl, by with_reducible rfl, by with_reducible rfl⟩

@[simp] theorem chCause_kept (c : Nat) (bits : Nat) (s : State) :
    (chCause c bits s).part = s.part ∧ (chCause c bits s).pending = s.pending ∧ (chCause c bits s).memGen = s.memGen ∧
    (chCause c bits s).mem = s.mem := by
  unfold chCause
  simp only [State.setChannel_kept, and_self]

@[simp] theorem alarm_kept (bits : Nat) (s : State) :
    (alarm bits s).part = s.part ∧ (alarm bits s).pending = s.pending ∧ (alarm bits s).memGen = s.memGen ∧
    (alarm bits s).mem = s.mem := by
  unfold alarm
  simp only [raise_kept, and_self]

@[simp] theorem drawKey_kept (healthy : Bool) (s : State) :
    (drawKey healthy s).2.part = s.part ∧ (drawKey healthy s).2.pending = s.pending ∧
    (drawKey healthy s).2.memGen = s.memGen ∧ (drawKey healthy s).2.mem = s.mem := by
  unfold drawKey
  simp only [State.draw_kept, alarm_kept, ite_part, ite_pending, ite_memGen, ite_mem, ite_self, ite_snd, and_self]

@[simp] theorem firstKey_kept (healthy : Bool) (c : Nat) (s : State) :
    (firstKey healthy c s).part = s.part ∧ (firstKey healthy c s).pending = s.pending ∧
    (firstKey healthy c s).memGen = s.memGen ∧ (firstKey healthy c s).mem = s.mem := by
  unfold firstKey
  have h := drawKey_kept healthy s
  revert h
  cases drawKey healthy s with
  | mk a t => cases a <;> (intro h; simpa only [State.setChannel_kept] using h)

@[simp] theorem State.setCell_kept (s : State) (c : Nat) (off : Nat) (b : SubBurst) :
    (State.setCell s c off b).part = s.part ∧ (State.setCell s c off b).pending = s.pending ∧
    (State.setCell s c off b).memGen = s.memGen ∧ (State.setCell s c off b).mem = s.mem := by
  unfold State.setCell
  exact ⟨by with_reducible rfl, by with_reducible rfl, by with_reducible rfl, by with_reducible rfl⟩

@[simp] theorem recordReadError_kept (c : Nat) (a : Nat) (kind : Nat) (s : State) :
    (recordReadError c a kind s).part = s.part ∧ (recordReadError c a kind s).pending = s.pending ∧
    (recordReadError c a kind s).memGen = s.memGen ∧ (recordReadError c a kind s).mem = s.mem := by
  unfold recordReadError
  simp only [State.setChannel_kept, and_self]

@[simp] theorem countSubRead_kept (c : Nat) (off : Nat) (a : Nat) (err : NibbleErr) (s : State) :
    (countSubRead c off a err s).part = s.part ∧ (countSubRead c off a err s).pending = s.pending ∧
    (countSubRead c off a err s).memGen = s.memGen ∧ (countSubRead c off a err s).mem = s.mem := by
  unfold countSubRead
  (repeat' (first | (simp only [State.setChannel_kept, alarm_kept, chCause_kept, raise_kept, raiseOnce_kept, recordReadError_kept, ite_part, ite_pending, ite_memGen, ite_mem, ite_self, and_self]; done) | split | simp only []))

@[simp] theorem lineRead_kept (c : Nat) (off : Nat) (a : Nat) (errA : NibbleErr) (errB : NibbleErr) (s : State) :
    (lineRead c off a errA errB s).2.2.part = s.part ∧ (lineRead c off a errA errB s).2.2.pending = s.pending ∧
    (lineRead c off a errA errB s).2.2.memGen = s.memGen ∧ (lineRead c off a errA errB s).2.2.mem = s.mem := by
  unfold lineRead
  simp only [countSubRead_kept, and_self]

@[simp] theorem markEpoch_kept (c : Nat) (s : State) :
    (markEpoch c s).part = s.part ∧ (markEpoch c s).pending = s.pending ∧ (markEpoch c s).memGen = s.memGen ∧
    (markEpoch c s).mem = s.mem := by
  unfold markEpoch
  simp only [State.setChannel_kept, and_self]

@[simp] theorem subWrite_kept (c : Nat) (off : Nat) (a : Nat) (data : BitVec 256) (poison : Bool) (s : State) :
    (subWrite c off a data poison s).part = s.part ∧ (subWrite c off a data poison s).pending = s.pending ∧
    (subWrite c off a data poison s).memGen = s.memGen ∧ (subWrite c off a data poison s).mem = s.mem := by
  unfold subWrite
  (repeat' (first | (simp only [State.setCell_kept, markEpoch_kept, and_self]; done) | split | simp only []))

@[simp] theorem lineWrite_kept (c : Nat) (off : Nat) (a : Nat) (data : Line) (poison : Bool) (s : State) :
    (lineWrite c off a data poison s).part = s.part ∧ (lineWrite c off a data poison s).pending = s.pending ∧
    (lineWrite c off a data poison s).memGen = s.memGen ∧ (lineWrite c off a data poison s).mem = s.mem := by
  unfold lineWrite
  simp only [subWrite_kept, and_self]

@[simp] theorem openRow_kept (c : Nat) (off : Nat) (s : State) :
    (openRow c off s).part = s.part ∧ (openRow c off s).pending = s.pending ∧ (openRow c off s).memGen = s.memGen ∧
    (openRow c off s).mem = s.mem := by
  unfold openRow
  simp only [State.setChannel_kept, and_self]

@[simp] theorem activate_kept (c : Nat) (off : Nat) (s : State) :
    (activate c off s).part = s.part ∧ (activate c off s).pending = s.pending ∧ (activate c off s).memGen = s.memGen ∧
    (activate c off s).mem = s.mem := by
  unfold activate
  simp only [State.setChannel_kept, openRow_kept, ite_part, ite_pending, ite_memGen, ite_mem, ite_self, and_self]

@[simp] theorem performDram_kept (c : Nat) (off : Nat) (r : DramReq) (s : State) :
    (performDram c off r s).part = s.part ∧ (performDram c off r s).pending = s.pending ∧
    (performDram c off r s).memGen = s.memGen ∧ (performDram c off r s).mem = s.mem := by
  unfold performDram
  (repeat' split) <;> simp only [activate_kept, answer_kept, answerStatus_kept, countSubRead_kept, lineRead_kept, lineWrite_kept, subWrite_kept, ite_part, ite_pending, ite_memGen, ite_mem, ite_self, and_self]

@[simp] theorem holdAtController_kept (c : Nat) (r : DramReq) (s : State) :
    (holdAtController c r s).part = s.part ∧ (holdAtController c r s).pending = s.pending ∧
    (holdAtController c r s).memGen = s.memGen ∧ (holdAtController c r s).mem = s.mem := by
  unfold holdAtController
  simp only [State.setChannel_kept, and_self]

@[simp] theorem bufferFlit_kept (c : Nat) (f : ArchiveFlit) (s : State) :
    (bufferFlit c f s).part = s.part ∧ (bufferFlit c f s).pending = s.pending ∧ (bufferFlit c f s).memGen = s.memGen ∧
    (bufferFlit c f s).mem = s.mem := by
  unfold bufferFlit
  simp only [State.setChannel_kept, and_self]

@[simp] theorem controllerTakes_kept (c : Nat) (off : Nat) (r : DramReq) (s : State) :
    (controllerTakes c off r s).part = s.part ∧ (controllerTakes c off r s).pending = s.pending ∧
    (controllerTakes c off r s).memGen = s.memGen ∧ (controllerTakes c off r s).mem = s.mem := by
  unfold controllerTakes
  (repeat' split) <;> simp only [answerStatus_kept, holdAtController_kept, performDram_kept, ite_part, ite_pending, ite_memGen, ite_mem, ite_self, and_self]

@[simp] theorem dramRequest_kept (r : DramReq) (legal : Bool) (s : State) :
    (dramRequest r legal s).part = s.part ∧ (dramRequest r legal s).pending = s.pending ∧
    (dramRequest r legal s).memGen = s.memGen ∧ (dramRequest r legal s).mem = s.mem := by
  unfold dramRequest
  (repeat' (first | (simp only [answerStatus_kept, controllerTakes_kept, openTxn_kept, ite_part, ite_pending, ite_memGen, ite_mem, ite_self, and_self]; done) | split | simp only []))

@[simp] theorem serveOne_kept (c : Nat) (r : DramReq) (s : State) :
    (serveOne c r s).part = s.part ∧ (serveOne c r s).pending = s.pending ∧ (serveOne c r s).memGen = s.memGen ∧
    (serveOne c r s).mem = s.mem := by
  unfold serveOne
  (repeat' split) <;> simp only [answerStatus_kept, performDram_kept, and_self]

@[simp] theorem serveSome_kept (c : Nat) (p : DramReq → Bool) (s : State) :
    (serveSome c p s).part = s.part ∧ (serveSome c p s).pending = s.pending ∧ (serveSome c p s).memGen = s.memGen ∧
    (serveSome c p s).mem = s.mem := by
  unfold serveSome
  simp only [State.setChannel_kept, serveOne_kept, foldl_part, foldl_pending, foldl_memGen, foldl_mem, and_self,
      implies_true]

@[simp] theorem serveHeld_kept (c : Nat) (s : State) :
    (serveHeld c s).part = s.part ∧ (serveHeld c s).pending = s.pending ∧ (serveHeld c s).memGen = s.memGen ∧
    (serveHeld c s).mem = s.mem := by
  unfold serveHeld
  simp only [serveSome_kept, ite_part, ite_pending, ite_memGen, ite_mem, ite_self, and_self]

@[simp] theorem endHeld_kept (c : Nat) (st : Status) (s : State) :
    (endHeld c st s).part = s.part ∧ (endHeld c st s).pending = s.pending ∧ (endHeld c st s).memGen = s.memGen ∧
    (endHeld c st s).mem = s.mem := by
  unfold endHeld
  simp only [State.setChannel_kept, answerStatus_kept, foldl_part, foldl_pending, foldl_memGen, foldl_mem, and_self,
      implies_true]

@[simp] theorem execDramRead_kept (req : ReqId) (addr : BitVec 48) (errA : NibbleErr) (errB : NibbleErr) (s : State) :
    (after (execDramRead req addr errA errB s) s).part = s.part ∧
    (after (execDramRead req addr errA errB s) s).pending = s.pending ∧
    (after (execDramRead req addr errA errB s) s).memGen = s.memGen ∧
    (after (execDramRead req addr errA errB s) s).mem = s.mem := by
  unfold execDramRead
  simp only [dramRequest_kept, and_self, after_done, settle_kept]

@[simp] theorem execDramWriteLine_kept (req : ReqId) (addr : BitVec 48) (data : Line) (bad : Bool) (s : State) :
    (after (execDramWriteLine req addr data bad s) s).part = s.part ∧
    (after (execDramWriteLine req addr data bad s) s).pending = s.pending ∧
    (after (execDramWriteLine req addr data bad s) s).memGen = s.memGen ∧
    (after (execDramWriteLine req addr data bad s) s).mem = s.mem := by
  unfold execDramWriteLine
  simp only [dramRequest_kept, and_self, after_done, settle_kept]

@[simp] theorem execDramWriteWord_kept (req : ReqId) (addr : BitVec 48) (data : BitVec 32) (be : BitVec 4)
    (err : NibbleErr) (bad : Bool) (s : State) :
    (after (execDramWriteWord req addr data be err bad s) s).part = s.part ∧
    (after (execDramWriteWord req addr data be err bad s) s).pending = s.pending ∧
    (after (execDramWriteWord req addr data be err bad s) s).memGen = s.memGen ∧
    (after (execDramWriteWord req addr data be err bad s) s).mem = s.mem := by
  unfold execDramWriteWord
  simp only [dramRequest_kept, and_self, after_done, settle_kept]

@[simp] theorem chClaimRefused_kept (c : Nat) (asked : Nat) (s : State) :
    (chClaimRefused c asked s).part = s.part ∧ (chClaimRefused c asked s).pending = s.pending ∧
    (chClaimRefused c asked s).memGen = s.memGen ∧ (chClaimRefused c asked s).mem = s.mem := by
  unfold chClaimRefused
  simp only [State.setChannel_kept, chCause_kept, raise_kept, and_self]

@[simp] theorem wakeChannel_kept (c : Nat) (s : State) :
    (wakeChannel c s).part = s.part ∧ (wakeChannel c s).pending = s.pending ∧ (wakeChannel c s).memGen = s.memGen ∧
    (wakeChannel c s).mem = s.mem := by
  unfold wakeChannel
  simp only [State.setChannel_kept, serveHeld_kept, ite_part, ite_pending, ite_memGen, ite_mem, ite_self, and_self]

@[simp] theorem chFaulty_kept (c : Nat) (s : State) :
    (chFaulty c s).part = s.part ∧ (chFaulty c s).pending = s.pending ∧ (chFaulty c s).memGen = s.memGen ∧
    (chFaulty c s).mem = s.mem := by
  unfold chFaulty
  simp only [State.setChannel_kept, deviceFenceOn_kept, endHeld_kept, raise_kept, and_self]

@[simp] theorem startTraining_kept (c : Nat) (s : State) :
    (startTraining c s).part = s.part ∧ (startTraining c s).pending = s.pending ∧ (startTraining c s).memGen = s.memGen ∧
    (startTraining c s).mem = s.mem := by
  unfold startTraining
  simp only [State.setChannel_kept, and_self]

@[simp] theorem startRetraining_kept (c : Nat) (s : State) :
    (startRetraining c s).part = s.part ∧ (startRetraining c s).pending = s.pending ∧
    (startRetraining c s).memGen = s.memGen ∧ (startRetraining c s).mem = s.mem := by
  unfold startRetraining
  simp only [State.setChannel_kept, and_self]

@[simp] theorem periodicWrite_kept (c : Nat) (s : State) :
    (periodicWrite c s).2.part = s.part ∧ (periodicWrite c s).2.pending = s.pending ∧
    (periodicWrite c s).2.memGen = s.memGen ∧ (periodicWrite c s).2.mem = s.mem := by
  unfold periodicWrite
  simp only [chClaimRefused_kept, startRetraining_kept, ite_part, ite_pending, ite_memGen, ite_mem, ite_self, ite_snd,
      and_self]

@[simp] theorem fullTrainWrite_kept (c : Nat) (s : State) :
    (fullTrainWrite c s).2.part = s.part ∧ (fullTrainWrite c s).2.pending = s.pending ∧
    (fullTrainWrite c s).2.memGen = s.memGen ∧ (fullTrainWrite c s).2.mem = s.mem := by
  unfold fullTrainWrite
  simp only [chClaimRefused_kept, startRetraining_kept, startTraining_kept, ite_part, ite_pending, ite_memGen, ite_mem,
      ite_self, ite_snd, and_self]

@[simp] theorem execRetrainPeriodicRequest_kept (path : Path) (c : Fin 16) (s : State) :
    (after (execRetrainPeriodicRequest path c s) s).part = s.part ∧
    (after (execRetrainPeriodicRequest path c s) s).pending = s.pending ∧
    (after (execRetrainPeriodicRequest path c s) s).memGen = s.memGen ∧
    (after (execRetrainPeriodicRequest path c s) s).mem = s.mem := by
  unfold execRetrainPeriodicRequest
  simp only [onPath_part, onPath_pending, onPath_memGen, onPath_mem, periodicWrite_kept, and_self, after_done, settle_kept]

@[simp] theorem execRetrainFullRequest_kept (path : Path) (c : Fin 16) (s : State) :
    (after (execRetrainFullRequest path c s) s).part = s.part ∧
    (after (execRetrainFullRequest path c s) s).pending = s.pending ∧
    (after (execRetrainFullRequest path c s) s).memGen = s.memGen ∧
    (after (execRetrainFullRequest path c s) s).mem = s.mem := by
  unfold execRetrainFullRequest
  simp only [fullTrainWrite_kept, onPath_part, onPath_pending, onPath_memGen, onPath_mem, and_self, after_done, settle_kept]

@[simp] theorem execDramPeriodicRetrainDue_kept (c : Fin 16) (s : State) :
    (after (execDramPeriodicRetrainDue c s) s).part = s.part ∧
    (after (execDramPeriodicRetrainDue c s) s).pending = s.pending ∧
    (after (execDramPeriodicRetrainDue c s) s).memGen = s.memGen ∧
    (after (execDramPeriodicRetrainDue c s) s).mem = s.mem := by
  unfold execDramPeriodicRetrainDue
  simp only [chClaimRefused_kept, startRetraining_kept, wakeChannel_kept, ite_part, ite_pending, ite_memGen, ite_mem,
      ite_self, and_self, after_ite, after_done, settle_kept]

@[simp] theorem trained_kept (c : Nat) (s : State) :
    (trained c s).part = s.part ∧ (trained c s).pending = s.pending ∧ (trained c s).memGen = s.memGen ∧
    (trained c s).mem = s.mem := by
  unfold trained
  simp only [State.setChannel_kept, deviceFenceOff_kept, firstKey_kept, raise_kept, serveHeld_kept, ite_part, ite_pending,
      ite_memGen, ite_mem, ite_self, and_self]

@[simp] theorem execDramTrainingDone_kept (c : Fin 16) (success : Bool) (s : State) :
    (after (execDramTrainingDone c success s) s).part = s.part ∧
    (after (execDramTrainingDone c success s) s).pending = s.pending ∧
    (after (execDramTrainingDone c success s) s).memGen = s.memGen ∧
    (after (execDramTrainingDone c success s) s).mem = s.mem := by
  unfold execDramTrainingDone
  simp only [chCause_kept, chFaulty_kept, trained_kept, ite_part, ite_pending, ite_memGen, ite_mem, ite_self, and_self,
      after_ite, after_done, settle_kept]

@[simp] theorem execDramRefreshDue_kept (c : Fin 16) (bank : Nat) (s : State) :
    (after (execDramRefreshDue c bank s) s).part = s.part ∧ (after (execDramRefreshDue c bank s) s).pending = s.pending ∧
    (after (execDramRefreshDue c bank s) s).memGen = s.memGen ∧ (after (execDramRefreshDue c bank s) s).mem = s.mem := by
  unfold execDramRefreshDue
  simp only [State.setChannel_kept, ite_part, ite_pending, ite_memGen, ite_mem, ite_self, and_self, after_ite, after_done,
      settle_kept]

@[simp] theorem dataRateWrite_kept (code : Nat) (s : State) :
    (dataRateWrite code s).2.part = s.part ∧ (dataRateWrite code s).2.pending = s.pending ∧
    (dataRateWrite code s).2.memGen = s.memGen ∧ (dataRateWrite code s).2.mem = s.mem := by
  unfold dataRateWrite
  simp only [State.setObj_kept, chClaimRefused_kept, raise_kept, startTraining_kept, ite_part, ite_pending, ite_memGen,
      ite_mem, foldl_part, foldl_pending, foldl_memGen, foldl_mem, ite_self, ite_snd, and_self, implies_true]

@[simp] theorem execDataRateWrite_kept (path : Path) (code : BitVec 8) (s : State) :
    (after (execDataRateWrite path code s) s).part = s.part ∧
    (after (execDataRateWrite path code s) s).pending = s.pending ∧
    (after (execDataRateWrite path code s) s).memGen = s.memGen ∧ (after (execDataRateWrite path code s) s).mem = s.mem := by
  unfold execDataRateWrite
  simp only [dataRateWrite_kept, onPath_part, onPath_pending, onPath_memGen, onPath_mem, and_self, after_done, settle_kept]

@[simp] theorem execDramSelfRefreshEntry_kept (c : Fin 16) (s : State) :
    (after (execDramSelfRefreshEntry c s) s).part = s.part ∧ (after (execDramSelfRefreshEntry c s) s).pending = s.pending ∧
    (after (execDramSelfRefreshEntry c s) s).memGen = s.memGen ∧ (after (execDramSelfRefreshEntry c s) s).mem = s.mem := by
  unfold execDramSelfRefreshEntry
  simp only [State.setChannel_kept, ite_part, ite_pending, ite_memGen, ite_mem, ite_self, and_self, after_ite, after_done,
      settle_kept]

@[simp] theorem execDramSelfRefreshExit_kept (c : Fin 16) (s : State) :
    (after (execDramSelfRefreshExit c s) s).part = s.part ∧ (after (execDramSelfRefreshExit c s) s).pending = s.pending ∧
    (after (execDramSelfRefreshExit c s) s).memGen = s.memGen ∧ (after (execDramSelfRefreshExit c s) s).mem = s.mem := by
  unfold execDramSelfRefreshExit
  simp only [State.setChannel_kept, serveHeld_kept, ite_part, ite_pending, ite_memGen, ite_mem, ite_self, and_self,
      after_ite, after_done, settle_kept]

@[simp] theorem execDramParityAlert_kept (c : Fin 16) (replaysAlerting : Nat) (s : State) :
    (after (execDramParityAlert c replaysAlerting s) s).part = s.part ∧
    (after (execDramParityAlert c replaysAlerting s) s).pending = s.pending ∧
    (after (execDramParityAlert c replaysAlerting s) s).memGen = s.memGen ∧
    (after (execDramParityAlert c replaysAlerting s) s).mem = s.mem := by
  unfold execDramParityAlert
  simp only [State.setChannel_kept, chCause_kept, chFaulty_kept, raise_kept, ite_part, ite_pending, ite_memGen, ite_mem,
      ite_self, and_self, after_ite, after_done, settle_kept]

@[simp] theorem rfmWrite_kept (c : Nat) (s : State) :
    (rfmWrite c s).2.part = s.part ∧ (rfmWrite c s).2.pending = s.pending ∧ (rfmWrite c s).2.memGen = s.memGen ∧
    (rfmWrite c s).2.mem = s.mem := by
  unfold rfmWrite
  simp only [State.setChannel_kept, chClaimRefused_kept, wakeChannel_kept, ite_part, ite_pending, ite_memGen, ite_mem,
      ite_self, ite_snd, and_self]

@[simp] theorem execRfmSweepRequest_kept (path : Path) (c : Fin 16) (s : State) :
    (after (execRfmSweepRequest path c s) s).part = s.part ∧ (after (execRfmSweepRequest path c s) s).pending = s.pending ∧
    (after (execRfmSweepRequest path c s) s).memGen = s.memGen ∧ (after (execRfmSweepRequest path c s) s).mem = s.mem := by
  unfold execRfmSweepRequest
  simp only [onPath_part, onPath_pending, onPath_memGen, onPath_mem, rfmWrite_kept, and_self, after_done, settle_kept]

@[simp] theorem execRfmSweepDone_kept (c : Fin 16) (s : State) :
    (after (execRfmSweepDone c s) s).part = s.part ∧ (after (execRfmSweepDone c s) s).pending = s.pending ∧
    (after (execRfmSweepDone c s) s).memGen = s.memGen ∧ (after (execRfmSweepDone c s) s).mem = s.mem := by
  unfold execRfmSweepDone
  simp only [State.setChannel_kept, ite_part, ite_pending, ite_memGen, ite_mem, ite_self, and_self, after_ite, after_done,
      settle_kept]

@[simp] theorem sweepWrite_kept (c : Nat) (s : State) :
    (sweepWrite c s).2.part = s.part ∧ (sweepWrite c s).2.pending = s.pending ∧ (sweepWrite c s).2.memGen = s.memGen ∧
    (sweepWrite c s).2.mem = s.mem := by
  unfold sweepWrite
  simp only [State.setChannel_kept, chClaimRefused_kept, wakeChannel_kept, ite_part, ite_pending, ite_memGen, ite_mem,
      ite_self, ite_snd, and_self]

@[simp] theorem initialiseWrite_kept (c : Nat) (s : State) :
    (initialiseWrite c s).2.part = s.part ∧ (initialiseWrite c s).2.pending = s.pending ∧
    (initialiseWrite c s).2.memGen = s.memGen ∧ (initialiseWrite c s).2.mem = s.mem := by
  unfold initialiseWrite
  dsimp only
  have hw := wakeChannel_kept c s
  revert hw
  generalize wakeChannel c s = u
  intro hw
  have h := drawKey_kept (Config.entropyHealthy u.freeCtr) u
  revert h
  cases drawKey (Config.entropyHealthy u.freeCtr) u with
  | mk a t =>
    intro h
    cases a <;> dsimp only at h ⊢ <;> (repeat' split) <;> simp only [State.setChannel_kept, chClaimRefused_kept, h, hw, and_self]

@[simp] theorem execRescrambleSweepRequest_kept (path : Path) (c : Fin 16) (s : State) :
    (after (execRescrambleSweepRequest path c s) s).part = s.part ∧
    (after (execRescrambleSweepRequest path c s) s).pending = s.pending ∧
    (after (execRescrambleSweepRequest path c s) s).memGen = s.memGen ∧
    (after (execRescrambleSweepRequest path c s) s).mem = s.mem := by
  unfold execRescrambleSweepRequest
  simp only [onPath_part, onPath_pending, onPath_memGen, onPath_mem, sweepWrite_kept, and_self, after_done, settle_kept]

@[simp] theorem execDramInitialiseRequest_kept (path : Path) (c : Fin 16) (s : State) :
    (after (execDramInitialiseRequest path c s) s).part = s.part ∧
    (after (execDramInitialiseRequest path c s) s).pending = s.pending ∧
    (after (execDramInitialiseRequest path c s) s).memGen = s.memGen ∧
    (after (execDramInitialiseRequest path c s) s).mem = s.mem := by
  unfold execDramInitialiseRequest
  simp only [initialiseWrite_kept, onPath_part, onPath_pending, onPath_memGen, onPath_mem, and_self, after_done, settle_kept]

@[simp] theorem sweepCommands_kept (c : Nat) (lo : Nat) (hi : Nat) (n : Nat) (s : State) :
    (sweepCommands c lo hi n s).part = s.part ∧ (sweepCommands c lo hi n s).pending = s.pending ∧
    (sweepCommands c lo hi n s).memGen = s.memGen ∧ (sweepCommands c lo hi n s).mem = s.mem := by
  unfold sweepCommands
  simp only [State.draw_kept, State.setChannel_kept, openRow_kept, foldl_part, foldl_pending, foldl_memGen, foldl_mem,
      and_self, implies_true]

@[simp] theorem sweepLine_kept (c : Nat) (l : Nat) (errs : NibbleErr × NibbleErr) (s : State) :
    (sweepLine c l errs s).part = s.part ∧ (sweepLine c l errs s).pending = s.pending ∧
    (sweepLine c l errs s).memGen = s.memGen ∧ (sweepLine c l errs s).mem = s.mem := by
  unfold sweepLine
  simp only [State.setChannel_kept, lineRead_kept, lineWrite_kept, ite_part, ite_pending, ite_memGen, ite_mem, ite_self,
      and_self]

@[simp] theorem sweepLines_kept (c : Nat) (lo : Nat) (hi : Nat) (errs : List (Nat × NibbleErr × NibbleErr)) (s : State) :
    (sweepLines c lo hi errs s).part = s.part ∧ (sweepLines c lo hi errs s).pending = s.pending ∧
    (sweepLines c lo hi errs s).memGen = s.memGen ∧ (sweepLines c lo hi errs s).mem = s.mem := by
  unfold sweepLines
  (repeat' (first | (simp only [State.setChannel_kept, markEpoch_kept, sweepCommands_kept, sweepLine_kept, foldl_part, foldl_pending, foldl_memGen, foldl_mem, and_self, implies_true]; done) | split | simp only []))

@[simp] theorem zeroLines_kept (c : Nat) (lo : Nat) (hi : Nat) (s0 : State) :
    (zeroLines c lo hi s0).part = s0.part ∧ (zeroLines c lo hi s0).pending = s0.pending ∧
    (zeroLines c lo hi s0).memGen = s0.memGen ∧ (zeroLines c lo hi s0).mem = s0.mem := by
  unfold zeroLines
  (repeat' (first | (simp only [State.setChannel_kept, markEpoch_kept, sweepCommands_kept, and_self]; done) | split | simp only [sweepCommands_kept]))

@[simp] theorem sweepTo_kept (c : Nat) (hi : Nat) (errs : List (Nat × NibbleErr × NibbleErr)) (s : State) :
    (sweepTo c hi errs s).part = s.part ∧ (sweepTo c hi errs s).pending = s.pending ∧
    (sweepTo c hi errs s).memGen = s.memGen ∧ (sweepTo c hi errs s).mem = s.mem := by
  unfold sweepTo
  simp only [sweepLines_kept, zeroLines_kept, ite_part, ite_pending, ite_memGen, ite_mem, ite_self, and_self]

@[simp] theorem closeContents_kept (c : Nat) (s : State) :
    (closeContents c s).part = s.part ∧ (closeContents c s).pending = s.pending ∧ (closeContents c s).memGen = s.memGen ∧
    (closeContents c s).mem = s.mem := by
  unfold closeContents
  simp only [State.setChannel_kept, and_self]

@[simp] theorem resweepLines_kept (c : Nat) (s : State) :
    (resweepLines c s).part = s.part ∧ (resweepLines c s).pending = s.pending ∧ (resweepLines c s).memGen = s.memGen ∧
    (resweepLines c s).mem = s.mem := by
  unfold resweepLines
  simp only [sweepLines_kept, ite_part, ite_pending, ite_memGen, ite_mem, ite_self, and_self]

@[simp] theorem sweepStep_kept (c : Nat) (s : State) :
    (sweepStep c s).part = s.part ∧ (sweepStep c s).pending = s.pending ∧ (sweepStep c s).memGen = s.memGen ∧
    (sweepStep c s).mem = s.mem := by
  unfold sweepStep
  simp only [State.draw_kept, sweepTo_kept, ite_part, ite_pending, ite_memGen, ite_mem, ite_self, and_self]

@[simp] theorem sweepsStep_kept (s : State) :
    (sweepsStep s).part = s.part ∧ (sweepsStep s).pending = s.pending ∧ (sweepsStep s).memGen = s.memGen ∧
    (sweepsStep s).mem = s.mem := by
  unfold sweepsStep
  simp only [sweepStep_kept, foldl_part, foldl_pending, foldl_memGen, foldl_mem, and_self, implies_true]

@[simp] theorem execSweepDone_kept (c : Fin 16) (errs : List (Nat × NibbleErr × NibbleErr)) (s : State) :
    (after (execSweepDone c errs s) s).part = s.part ∧ (after (execSweepDone c errs s) s).pending = s.pending ∧
    (after (execSweepDone c errs s) s).memGen = s.memGen ∧ (after (execSweepDone c errs s) s).mem = s.mem := by
  unfold execSweepDone
  simp only [State.setChannel_kept, closeContents_kept, raise_kept, resweepLines_kept, sweepTo_kept, ite_part, ite_pending,
      ite_memGen, ite_mem, ite_self, and_self, after_ite, after_done, settle_kept]

@[simp] theorem rekeyWrite_kept (c : Nat) (healthy : Bool) (s : State) :
    (rekeyWrite c healthy s).2.part = s.part ∧ (rekeyWrite c healthy s).2.pending = s.pending ∧
    (rekeyWrite c healthy s).2.memGen = s.memGen ∧ (rekeyWrite c healthy s).2.mem = s.mem := by
  unfold rekeyWrite
  have h := drawKey_kept healthy s
  revert h
  cases drawKey healthy s with
  | mk a t =>
    intro h
    dsimp only at h ⊢
    cases a <;> dsimp only <;> (repeat' split) <;> simp only [State.setChannel_kept, raise_kept, h, and_self]

@[simp] theorem execDramRekeyRequest_kept (path : Path) (c : BitVec 8) (healthy : Bool) (s : State) :
    (after (execDramRekeyRequest path c healthy s) s).part = s.part ∧
    (after (execDramRekeyRequest path c healthy s) s).pending = s.pending ∧
    (after (execDramRekeyRequest path c healthy s) s).memGen = s.memGen ∧
    (after (execDramRekeyRequest path c healthy s) s).mem = s.mem := by
  unfold execDramRekeyRequest
  simp only [onPath_part, onPath_pending, onPath_memGen, onPath_mem, rekeyWrite_kept, and_self, after_done, settle_kept]

@[simp] theorem execEntropyRetry_kept (c : Fin 16) (healthy : Bool) (s : State) :
    (after (execEntropyRetry c healthy s) s).part = s.part ∧ (after (execEntropyRetry c healthy s) s).pending = s.pending ∧
    (after (execEntropyRetry c healthy s) s).memGen = s.memGen ∧ (after (execEntropyRetry c healthy s) s).mem = s.mem := by
  unfold execEntropyRetry
  simp only [firstKey_kept, ite_part, ite_pending, ite_memGen, ite_mem, ite_self, and_self, after_ite, after_done,
      settle_kept]

@[simp] theorem respondChannel_kept (c : Nat) (s : State) :
    (respondChannel c s).part = s.part ∧ (respondChannel c s).pending = s.pending ∧ (respondChannel c s).memGen = s.memGen ∧
    (respondChannel c s).mem = s.mem := by
  unfold respondChannel
  have h := drawKey_kept (Config.entropyHealthy s.freeCtr) s
  revert h
  dsimp only
  generalize List.find? _ (List.range 16) = e
  cases drawKey (Config.entropyHealthy s.freeCtr) s with
  | mk a t =>
    intro h
    dsimp only at h
    cases e <;> cases a <;> (dsimp only; simp only [ite_part, ite_pending, ite_memGen, ite_mem, State.setChannel_kept, endHeld_kept, h, ite_self, and_self])

end Sys2Proof.Machine
end

