-- ==== Sys2Proof/Laws/ArchiveKept.lean ====
section
/-! SUPPORT. What the functions of Machine/Archive.lean keep: the factory part, the queue, and memory where they do not write it. -/

namespace Sys2Proof.Machine

@[simp] theorem State.setStream_kept (s : State) (i : Nat) (x : Stream) :
    (State.setStream s i x).part = s.part ∧ (State.setStream s i x).pending = s.pending ∧
    (State.setStream s i x).memGen = s.memGen ∧ (State.setStream s i x).mem = s.mem := by
  unfold State.setStream
  exact ⟨by with_reducible rfl, by with_reducible rfl, by with_reducible rfl, by with_reducible rfl⟩

@[simp] theorem updateFull_kept (i : Nat) (s : State) :
    (updateFull i s).part = s.part ∧ (updateFull i s).pending = s.pending ∧ (updateFull i s).memGen = s.memGen ∧
    (updateFull i s).mem = s.mem := by
  unfold updateFull
  simp only [State.setStream_kept, raiseIf_kept, and_self]

@[simp] theorem releaseSegs_kept (i : Nat) (p : Segment → Bool) (s : State) :
    (releaseSegs i p s).part = s.part ∧ (releaseSegs i p s).pending = s.pending ∧ (releaseSegs i p s).memGen = s.memGen ∧
    (releaseSegs i p s).mem = s.mem := by
  unfold releaseSegs
  simp only [State.setStream_kept, updateFull_kept, and_self]

@[simp] theorem autoRelease_kept (i : Nat) (s : State) :
    (autoRelease i s).part = s.part ∧ (autoRelease i s).pending = s.pending ∧ (autoRelease i s).memGen = s.memGen ∧
    (autoRelease i s).mem = s.mem := by
  unfold autoRelease
  simp only [State.setStream_kept, ite_part, ite_pending, ite_memGen, ite_mem, ite_self, and_self]

@[simp] theorem updateFrozen_kept (s : State) :
    (updateFrozen s).part = s.part ∧ (updateFrozen s).pending = s.pending ∧ (updateFrozen s).memGen = s.memGen ∧
    (updateFrozen s).mem = s.mem := by
  unfold updateFrozen
  simp only [State.setStream_kept, raise_kept, ite_part, ite_pending, ite_memGen, ite_mem, foldl_part, foldl_pending,
      foldl_memGen, foldl_mem, ite_self, and_self, implies_true]

@[simp] theorem storeRecord_kept (c : Nat) (off : Nat) (a : Nat) (v : Nat) (s0 : State) :
    (storeRecord c off a v s0).part = s0.part ∧ (storeRecord c off a v s0).pending = s0.pending ∧
    (storeRecord c off a v s0).memGen = s0.memGen ∧ (storeRecord c off a v s0).mem = s0.mem := by
  unfold storeRecord
  simp only [State.draw_kept, activate_kept, subWrite_kept, and_self]

@[simp] theorem writeRecord_kept (a : Nat) (v : Nat) (s : State) :
    (writeRecord a v s).part = s.part ∧ (writeRecord a v s).pending = s.pending ∧ (writeRecord a v s).memGen = s.memGen ∧
    (writeRecord a v s).mem = s.mem := by
  unfold writeRecord
  (repeat' split) <;> simp only [bufferFlit_kept, storeRecord_kept, and_self]

@[simp] theorem recordSeg_kept (i : Nat) (d : Nat) (g : Segment) (s : State) :
    (recordSeg i d g s).part = s.part ∧ (recordSeg i d g s).pending = s.pending ∧ (recordSeg i d g s).memGen = s.memGen ∧
    (recordSeg i d g s).mem = s.mem := by
  unfold recordSeg
  simp only [State.setStream_kept, writeRecord_kept, and_self]

@[simp] theorem recordDue_kept (i : Nat) (d : Nat) (rot : Nat) (s : State) :
    (recordDue i d rot s).part = s.part ∧ (recordDue i d rot s).pending = s.pending ∧
    (recordDue i d rot s).memGen = s.memGen ∧ (recordDue i d rot s).mem = s.mem := by
  unfold recordDue
  simp only [recordSeg_kept, foldl_part, foldl_pending, foldl_memGen, foldl_mem, and_self, implies_true]

@[simp] theorem recordAll_kept (i : Nat) (d : Nat) (s : State) :
    (recordAll i d s).part = s.part ∧ (recordAll i d s).pending = s.pending ∧ (recordAll i d s).memGen = s.memGen ∧
    (recordAll i d s).mem = s.mem := by
  unfold recordAll
  simp only [recordSeg_kept, foldl_part, foldl_pending, foldl_memGen, foldl_mem, and_self, implies_true]

@[simp] theorem pinStream_kept (classes : Nat) (i : Nat) (s : State) :
    (pinStream classes i s).part = s.part ∧ (pinStream classes i s).pending = s.pending ∧
    (pinStream classes i s).memGen = s.memGen ∧ (pinStream classes i s).mem = s.mem := by
  unfold pinStream
  simp only [State.setStream_kept, ite_part, ite_pending, ite_memGen, ite_mem, ite_self, and_self]

@[simp] theorem pinFlashes_kept (classes : Nat) (s : State) :
    (pinFlashes classes s).part = s.part ∧ (pinFlashes classes s).pending = s.pending ∧
    (pinFlashes classes s).memGen = s.memGen ∧ (pinFlashes classes s).mem = s.mem := by
  unfold pinFlashes
  simp only [pinStream_kept, ite_part, ite_pending, ite_memGen, ite_mem, foldl_part, foldl_pending, foldl_memGen, foldl_mem,
      ite_self, and_self, implies_true]

@[simp] theorem markBeat_kept (s : State) :
    (markBeat s).part = s.part ∧ (markBeat s).pending = s.pending ∧ (markBeat s).memGen = s.memGen ∧
    (markBeat s).mem = s.mem := by
  unfold markBeat
  simp only [State.setStream_kept, ite_part, ite_pending, ite_memGen, ite_mem, foldl_part, foldl_pending, foldl_memGen,
      foldl_mem, ite_self, and_self, implies_true]

@[simp] theorem performArchive_kept (f : ArchiveFlit) (s : State) :
    (performArchive f s).part = s.part ∧ (performArchive f s).pending = s.pending ∧ (performArchive f s).memGen = s.memGen ∧
    (performArchive f s).mem = s.mem := by
  unfold performArchive
  (repeat' split) <;> simp only [activate_kept, lineWrite_kept, storeRecord_kept, and_self]

@[simp] theorem commitFlit_kept (c : Nat) (s : State) :
    (commitFlit c s).part = s.part ∧ (commitFlit c s).pending = s.pending ∧ (commitFlit c s).memGen = s.memGen ∧
    (commitFlit c s).mem = s.mem := by
  unfold commitFlit
  (repeat' split) <;> simp only [State.setChannel_kept, performArchive_kept, serveSome_kept, and_self]

@[simp] theorem commitStream_kept (d : Nat) (c : Nat) (s : State) :
    (commitStream d c s).part = s.part ∧ (commitStream d c s).pending = s.pending ∧ (commitStream d c s).memGen = s.memGen ∧
    (commitStream d c s).mem = s.mem := by
  unfold commitStream
  simp only [commitFlit_kept, serveHeld_kept, ite_part, ite_pending, ite_memGen, ite_mem, iterate_part, iterate_pending,
      iterate_memGen, iterate_mem, ite_self, and_self, implies_true]

@[simp] theorem startStream_kept (i : Nat) (d : Nat) (s : State) :
    (startStream i d s).part = s.part ∧ (startStream i d s).pending = s.pending ∧ (startStream i d s).memGen = s.memGen ∧
    (startStream i d s).mem = s.mem := by
  unfold startStream
  simp only [State.setStream_kept, and_self]

@[simp] theorem resumeStream_kept (i : Nat) (s : State) :
    (resumeStream i s).part = s.part ∧ (resumeStream i s).pending = s.pending ∧ (resumeStream i s).memGen = s.memGen ∧
    (resumeStream i s).mem = s.mem := by
  unfold resumeStream
  simp only [State.setStream_kept, and_self]

@[simp] theorem moveStream_kept (i : Nat) (d : Nat) (s : State) :
    (moveStream i d s).part = s.part ∧ (moveStream i d s).pending = s.pending ∧ (moveStream i d s).memGen = s.memGen ∧
    (moveStream i d s).mem = s.mem := by
  unfold moveStream
  simp only [State.setStream_kept, and_self]

@[simp] theorem stopStream_kept (i : Nat) (d : Nat) (s : State) :
    (stopStream i d s).part = s.part ∧ (stopStream i d s).pending = s.pending ∧ (stopStream i d s).memGen = s.memGen ∧
    (stopStream i d s).mem = s.mem := by
  unfold stopStream
  simp only [State.setStream_kept, commitStream_kept, recordAll_kept, foldl_part, foldl_pending, foldl_memGen, foldl_mem,
      and_self, implies_true]

@[simp] theorem takeDescriptor_kept (i : Nat) (old : Nat) (new : Nat) (s : State) :
    (takeDescriptor i old new s).part = s.part ∧ (takeDescriptor i old new s).pending = s.pending ∧
    (takeDescriptor i old new s).memGen = s.memGen ∧ (takeDescriptor i old new s).mem = s.mem := by
  unfold takeDescriptor
  simp only [moveStream_kept, resumeStream_kept, startStream_kept, stopStream_kept, ite_part, ite_pending, ite_memGen,
      ite_mem, ite_self, and_self]

@[simp] theorem openRotation_kept (i : Nat) (s : State) :
    (openRotation i s).part = s.part ∧ (openRotation i s).pending = s.pending ∧ (openRotation i s).memGen = s.memGen ∧
    (openRotation i s).mem = s.mem := by
  unfold openRotation
  simp only [State.setStream_kept, autoRelease_kept, recordDue_kept, updateFull_kept, ite_part, ite_pending, ite_memGen,
      ite_mem, ite_self, and_self]

@[simp] theorem execArchiveFlitCommit_kept (c : Fin 16) (s : State) :
    (after (execArchiveFlitCommit c s) s).part = s.part ∧ (after (execArchiveFlitCommit c s) s).pending = s.pending ∧
    (after (execArchiveFlitCommit c s) s).memGen = s.memGen ∧ (after (execArchiveFlitCommit c s) s).mem = s.mem := by
  unfold execArchiveFlitCommit
  simp only [commitFlit_kept, serveHeld_kept, ite_part, ite_pending, ite_memGen, ite_mem, ite_self, and_self, after_ite,
      after_done, settle_kept]

@[simp] theorem archiveReleaseWrite_kept (data : List Byte) (s : State) :
    (archiveReleaseWrite data s).2.part = s.part ∧ (archiveReleaseWrite data s).2.pending = s.pending ∧
    (archiveReleaseWrite data s).2.memGen = s.memGen ∧ (archiveReleaseWrite data s).2.mem = s.mem := by
  unfold archiveReleaseWrite
  simp only [raise_kept, releaseSegs_kept, ite_part, ite_pending, ite_memGen, ite_mem, ite_self, ite_snd, and_self]

@[simp] theorem execArchiveRelease_kept (path : Path) (data : List Byte) (s : State) :
    (after (execArchiveRelease path data s) s).part = s.part ∧
    (after (execArchiveRelease path data s) s).pending = s.pending ∧
    (after (execArchiveRelease path data s) s).memGen = s.memGen ∧
    (after (execArchiveRelease path data s) s).mem = s.mem := by
  unfold execArchiveRelease
  simp only [archiveReleaseWrite_kept, onPath_part, onPath_pending, onPath_memGen, onPath_mem, and_self, after_done,
      settle_kept]

@[simp] theorem sendFlit_kept (i : Nat) (j : Nat) (ecc : List EccClass) (s : State) :
    (sendFlit i j ecc s).part = s.part ∧ (sendFlit i j ecc s).pending = s.pending ∧ (sendFlit i j ecc s).memGen = s.memGen ∧
    (sendFlit i j ecc s).mem = s.mem := by
  unfold sendFlit
  simp only [State.setStream_kept, State.setUnit_kept, takeWords_kept, updateFull_kept, and_self]

@[simp] theorem execStreamSlot_kept (i : Fin 32) (slot : Fin 64) (ecc : List EccClass) (s : State) :
    (after (execStreamSlot i slot ecc s) s).part = s.part ∧ (after (execStreamSlot i slot ecc s) s).pending = s.pending ∧
    (after (execStreamSlot i slot ecc s) s).memGen = s.memGen ∧ (after (execStreamSlot i slot ecc s) s).mem = s.mem := by
  unfold execStreamSlot
  simp only [sendFlit_kept, unitCauses_kept, ite_part, ite_pending, ite_memGen, ite_mem, ite_self, and_self, after_ite,
      after_done, settle_kept]

end Sys2Proof.Machine
end

