-- ==== Sys2Proof/Laws/CanCoreKept.lean ====
section
/-! SUPPORT. What the functions of Machine/CanCore.lean keep: the factory part, the queue, and memory where they do not write it. -/

namespace Sys2Proof.Machine

@[simp] theorem State.setWorker_kept (s : State) (w : Nat) (x : Worker) :
    (State.setWorker s w x).part = s.part ∧ (State.setWorker s w x).pending = s.pending ∧
    (State.setWorker s w x).memGen = s.memGen ∧ (State.setWorker s w x).mem = s.mem := by
  unfold State.setWorker
  exact ⟨by with_reducible rfl, by with_reducible rfl, by with_reducible rfl, by with_reducible rfl⟩

@[simp] theorem canSend_kept (cob : Nat) (data : List Byte) (s : State) :
    (canSend cob data s).part = s.part ∧ (canSend cob data s).pending = s.pending ∧ (canSend cob data s).memGen = s.memGen ∧
    (canSend cob data s).mem = s.mem := by
  unfold canSend
  simp only [ite_part, ite_pending, ite_memGen, ite_mem, ite_self, and_self]

@[simp] theorem freshTx_kept (s : State) :
    (freshTx s).part = s.part ∧ (freshTx s).pending = s.pending ∧ (freshTx s).memGen = s.memGen ∧
    (freshTx s).mem = s.mem := by
  unfold freshTx
  exact ⟨by with_reducible rfl, by with_reducible rfl, by with_reducible rfl, by with_reducible rfl⟩

@[simp] theorem setNmt_kept (v : Nmt) (s : State) :
    (setNmt v s).part = s.part ∧ (setNmt v s).pending = s.pending ∧ (setNmt v s).memGen = s.memGen ∧
    (setNmt v s).mem = s.mem := by
  unfold setNmt
  simp only [raise_kept, ite_part, ite_pending, ite_memGen, ite_mem, ite_self, and_self]

@[simp] theorem bootUp_kept (s : State) :
    (bootUp s).part = s.part ∧ (bootUp s).pending = s.pending ∧ (bootUp s).memGen = s.memGen ∧ (bootUp s).mem = s.mem := by
  unfold bootUp
  simp only [canSend_kept, and_self]

@[simp] theorem errorReset_kept (s : State) :
    (errorReset s).part = s.part ∧ (errorReset s).pending = s.pending ∧ (errorReset s).memGen = s.memGen ∧
    (errorReset s).mem = s.mem := by
  unfold errorReset
  simp only [emcyPush_kept, ite_part, ite_pending, ite_memGen, ite_mem, ite_self, and_self]

end Sys2Proof.Machine
end

