-- ==== Sys2Proof/Laws/KeepersKept.lean ====
section
/-! SUPPORT. What the functions of Machine/Keepers.lean keep: the factory part, the queue, and memory where they do not write it. -/

namespace Sys2Proof.Machine

@[simp] theorem coreReset_kept (k : Nat) (s : State) :
    (coreReset k s).part = s.part ∧ (coreReset k s).pending = s.pending ∧ (coreReset k s).memGen = s.memGen ∧
    (coreReset k s).mem = s.mem := by
  unfold coreReset
  simp only [State.setKeeper_kept, and_self]

@[simp] theorem keeperAck_kept (k : Nat) (s : State) :
    (keeperAck k s).part = s.part ∧ (keeperAck k s).pending = s.pending ∧ (keeperAck k s).memGen = s.memGen ∧
    (keeperAck k s).mem = s.mem := by
  unfold keeperAck
  simp only [State.setKeeper_kept, deviceFenceOff_kept, ite_part, ite_pending, ite_memGen, ite_mem, ite_self, and_self]

@[simp] theorem keeperFault_kept (k : Nat) (cause : Nat) (word : Nat) (addr : Nat) (s : State) :
    (keeperFault k cause word addr s).part = s.part ∧ (keeperFault k cause word addr s).pending = s.pending ∧
    (keeperFault k cause word addr s).memGen = s.memGen ∧ (keeperFault k cause word addr s).mem = s.mem := by
  unfold keeperFault
  simp only [State.setKeeper_kept, deviceFenceOn_kept, keeperAck_kept, raise_kept, ite_part, ite_pending, ite_memGen,
      ite_mem, ite_self, and_self]

@[simp] theorem issue_part (i : Issue) (word : Nat) (s : State) (f : State → State) (h_f : ∀ (y0 : State),
    (f y0).part = y0.part) : (issue i word s f).part = s.part := by
  unfold issue
  simp only [keeperFault_kept, h_f, ite_part, ite_self]

@[simp] theorem issue_pending (i : Issue) (word : Nat) (s : State) (f : State → State) (h_f : ∀ (y0 : State),
    (f y0).pending = y0.pending) : (issue i word s f).pending = s.pending := by
  unfold issue
  simp only [keeperFault_kept, h_f, ite_pending, ite_self]

@[simp] theorem issue_memGen (i : Issue) (word : Nat) (s : State) (f : State → State) (h_f : ∀ (y0 : State),
    (f y0).memGen = y0.memGen) : (issue i word s f).memGen = s.memGen := by
  unfold issue
  simp only [keeperFault_kept, h_f, ite_memGen, ite_self]

@[simp] theorem issue_mem (i : Issue) (word : Nat) (s : State) (f : State → State) (h_f : ∀ (y0 : State),
    (f y0).mem = y0.mem) : (issue i word s f).mem = s.mem := by
  unfold issue
  simp only [keeperFault_kept, h_f, ite_mem, ite_self]

@[simp] theorem takeOver_kept (k : Nat) (s : State) :
    (takeOver k s).part = s.part ∧ (takeOver k s).pending = s.pending ∧ (takeOver k s).memGen = s.memGen ∧
    (takeOver k s).mem = s.mem := by
  unfold takeOver
  simp only [keeperFault_kept, ite_part, ite_pending, ite_memGen, ite_mem, ite_self, and_self]

@[simp] theorem finish_kept (k : Nat) (c : Keeper) (cost : Nat) (s : State) :
    (finish k c cost s).part = s.part ∧ (finish k c cost s).pending = s.pending ∧ (finish k c cost s).memGen = s.memGen ∧
    (finish k c cost s).mem = s.mem := by
  unfold finish
  simp only [State.setKeeper_kept, takeOver_kept, and_self]

@[simp] theorem result_kept (i : Issue) (word : Nat) (cost : Nat) (kd : KReg) (v : Keeper → BitVec 64) (s : State) :
    (after (result i word cost kd v s) s).part = s.part ∧ (after (result i word cost kd v s) s).pending = s.pending ∧
    (after (result i word cost kd v s) s).memGen = s.memGen ∧ (after (result i word cost kd v s) s).mem = s.mem := by
  unfold result
  simp only [finish_kept, issue_part, issue_pending, issue_memGen, issue_mem, and_self, implies_true, after_done,
      settle_kept]

@[simp] theorem jump_kept (k : Nat) (target : ℤ) (c : Keeper) (cost : Nat) (s : State) :
    (jump k target c cost s).part = s.part ∧ (jump k target c cost s).pending = s.pending ∧
    (jump k target c cost s).memGen = s.memGen ∧ (jump k target c cost s).mem = s.mem := by
  unfold jump
  simp only [State.setKeeper_kept, keeperFault_kept, ite_part, ite_pending, ite_memGen, ite_mem, ite_self, and_self]

@[simp] theorem branch_kept (i : Issue) (op : Nat) (kd : KReg) (ka : KReg) (imm : BitVec 16)
    (p : BitVec 64 → BitVec 64 → Bool) (s : State) :
    (after (branch i op kd ka imm p s) s).part = s.part ∧ (after (branch i op kd ka imm p s) s).pending = s.pending ∧
    (after (branch i op kd ka imm p s) s).memGen = s.memGen ∧ (after (branch i op kd ka imm p s) s).mem = s.mem := by
  unfold branch
  simp only [finish_kept, issue_part, issue_pending, issue_memGen, issue_mem, jump_kept, ite_part, ite_pending, ite_memGen,
      ite_mem, ite_self, and_self, implies_true, after_done, settle_kept]

@[simp] theorem checkedAccess_part (i : Issue) (word : Nat) (limit : Nat) (size : Nat) (ka : KReg) (imm : BitVec 16)
    (ecc : EccClass) (s : State) (f : Nat → Keeper → State → State) (h_f : ∀ (y0 : Nat) (y1 : Keeper) (y2 : State),
    (f y0 y1 y2).part = y2.part) : (after (checkedAccess i word limit size ka imm ecc s f) s).part = s.part := by
  unfold checkedAccess
  (repeat' split) <;> simp only [issue_part, keeperFault_kept, h_f, ite_part, ite_self, implies_true, after_done, settle_kept]

@[simp] theorem checkedAccess_pending (i : Issue) (word : Nat) (limit : Nat) (size : Nat) (ka : KReg) (imm : BitVec 16)
    (ecc : EccClass) (s : State) (f : Nat → Keeper → State → State) (h_f : ∀ (y0 : Nat) (y1 : Keeper) (y2 : State),
    (f y0 y1 y2).pending = y2.pending) : (after (checkedAccess i word limit size ka imm ecc s f) s).pending = s.pending := by
  unfold checkedAccess
  (repeat' split) <;> simp only [issue_pending, keeperFault_kept, h_f, ite_pending, ite_self, implies_true, after_done, settle_kept]

@[simp] theorem checkedAccess_memGen (i : Issue) (word : Nat) (limit : Nat) (size : Nat) (ka : KReg) (imm : BitVec 16)
    (ecc : EccClass) (s : State) (f : Nat → Keeper → State → State) (h_f : ∀ (y0 : Nat) (y1 : Keeper) (y2 : State),
    (f y0 y1 y2).memGen = y2.memGen) : (after (checkedAccess i word limit size ka imm ecc s f) s).memGen = s.memGen := by
  unfold checkedAccess
  (repeat' split) <;> simp only [issue_memGen, keeperFault_kept, h_f, ite_memGen, ite_self, implies_true, after_done, settle_kept]

@[simp] theorem checkedAccess_mem (i : Issue) (word : Nat) (limit : Nat) (size : Nat) (ka : KReg) (imm : BitVec 16)
    (ecc : EccClass) (s : State) (f : Nat → Keeper → State → State) (h_f : ∀ (y0 : Nat) (y1 : Keeper) (y2 : State),
    (f y0 y1 y2).mem = y2.mem) : (after (checkedAccess i word limit size ka imm ecc s f) s).mem = s.mem := by
  unfold checkedAccess
  (repeat' split) <;> simp only [issue_mem, keeperFault_kept, h_f, ite_mem, ite_self, implies_true, after_done, settle_kept]

@[simp] theorem postTxn_kept (r : ReqId) (addr : Nat) (write : Bool) (size : Nat) (data : Nat) (s : State) :
    (postTxn r addr write size data s).part = s.part ∧ (postTxn r addr write size data s).pending = s.pending ∧
    (postTxn r addr write size data s).memGen = s.memGen ∧ (postTxn r addr write size data s).mem = s.mem := by
  unfold postTxn
  simp only [notePeak_kept, and_self]

@[simp] theorem post_kept (i : Issue) (kd : KReg) (addr : Nat) (write : Bool) (size : Nat) (data : Nat) (landing : Nat)
    (s : State) :
    (post i kd addr write size data landing s).part = s.part ∧
    (post i kd addr write size data landing s).pending = s.pending ∧
    (post i kd addr write size data landing s).memGen = s.memGen ∧
    (post i kd addr write size data landing s).mem = s.mem := by
  unfold post
  (repeat' (first | (simp only [finish_kept, postTxn_kept, and_self]; done) | split | simp only []))

@[simp] theorem coreRead_kept (k : Nat) (a : Nat) (n : Nat) (s : State) :
    (coreRead k a n s).2.part = s.part ∧ (coreRead k a n s).2.pending = s.pending ∧ (coreRead k a n s).2.memGen = s.memGen ∧
    (coreRead k a n s).2.mem = s.mem := by
  unfold coreRead
  simp only [State.draw_kept, ite_part, ite_pending, ite_memGen, ite_mem, ite_self, ite_snd, and_self]

@[simp] theorem coreWrite_kept (k : Nat) (a : Nat) (n : Nat) (v : Nat) (s : State) :
    (coreWrite k a n v s).part = s.part ∧ (coreWrite k a n v s).pending = s.pending ∧
    (coreWrite k a n v s).memGen = s.memGen := by
  unfold coreWrite
  simp only [State.draw_kept, State.setKeeper_kept, State.writeNat_kept, ite_part, ite_pending, ite_memGen, ite_self,
      and_self]

@[simp] theorem coreStore_kept (k : Nat) (a : Nat) (n : Nat) (v : Nat) (c : Keeper) (s : State) :
    (coreStore k a n v c s).part = s.part ∧ (coreStore k a n v c s).pending = s.pending ∧
    (coreStore k a n v c s).memGen = s.memGen := by
  unfold coreStore
  simp only [coreWrite_kept, finish_kept, and_self]

@[simp] theorem land_kept (k : Nat) (t : Tag) (data : Line) (s : State) :
    (land k t data s).part = s.part ∧ (land k t data s).pending = s.pending ∧ (land k t data s).memGen = s.memGen := by
  unfold land
  simp only [State.draw_kept, State.writeNat_kept, ite_part, ite_pending, ite_memGen, ite_self, and_self]

@[simp] theorem keeperEnded_kept (k : Nat) (n : Nat) (st : Status) (data : Line) (s : State) :
    (keeperEnded k n st data s).part = s.part ∧ (keeperEnded k n st data s).pending = s.pending ∧
    (keeperEnded k n st data s).memGen = s.memGen := by
  unfold keeperEnded
  (repeat' (first | (simp only [State.setKeeper_kept, land_kept, takeOver_kept, ite_part, ite_pending, ite_memGen, ite_self, and_self]; done) | split | simp only []))

@[simp] theorem resume_kept (k : Nat) (c : Keeper) (s : State) :
    (resume k c s).part = s.part ∧ (resume k c s).pending = s.pending ∧ (resume k c s).memGen = s.memGen ∧
    (resume k c s).mem = s.mem := by
  unfold resume
  simp only [State.setKeeper_kept, takeOver_kept, and_self]

@[simp] theorem overrun_kept (k : Nat) (s : State) :
    (overrun k s).part = s.part ∧ (overrun k s).pending = s.pending ∧ (overrun k s).memGen = s.memGen ∧
    (overrun k s).mem = s.mem := by
  unfold overrun
  simp only [State.setKeeper_kept, coreReset_kept, raise_kept, ite_part, ite_pending, ite_memGen, ite_mem, ite_self,
      and_self]

@[simp] theorem keeperDatum_kept (k : Nat) (s : State) :
    (keeperDatum k s).part = s.part ∧ (keeperDatum k s).pending = s.pending ∧ (keeperDatum k s).memGen = s.memGen ∧
    (keeperDatum k s).mem = s.mem := by
  unfold keeperDatum
  (repeat' (first | (simp only [overrun_kept, resume_kept, ite_part, ite_pending, ite_memGen, ite_mem, and_self]; done) | split | simp only []))

end Sys2Proof.Machine
end

