-- ==== Sys2Proof/Laws/KeeperAluKept.lean ====
section
/-! SUPPORT. What the functions of Machine/KeeperAlu.lean keep: the factory part, the queue, and memory where they do not write it. -/

namespace Sys2Proof.Machine

@[simp] theorem aluA_kept (i : Issue) (func : Nat) (cost : Nat) (kd : KReg) (ka : KReg) (kb : KReg)
    (f : BitVec 64 → BitVec 64 → BitVec 64) (s : State) :
    (after (aluA i func cost kd ka kb f s) s).part = s.part ∧
    (after (aluA i func cost kd ka kb f s) s).pending = s.pending ∧
    (after (aluA i func cost kd ka kb f s) s).memGen = s.memGen ∧ (after (aluA i func cost kd ka kb f s) s).mem = s.mem := by
  unfold aluA
  simp only [result_kept, and_self]

@[simp] theorem aluB_kept (i : Issue) (op : Nat) (kd : KReg) (ka : KReg) (imm : BitVec 16) (f : BitVec 64 → BitVec 64)
    (s : State) :
    (after (aluB i op kd ka imm f s) s).part = s.part ∧ (after (aluB i op kd ka imm f s) s).pending = s.pending ∧
    (after (aluB i op kd ka imm f s) s).memGen = s.memGen ∧ (after (aluB i op kd ka imm f s) s).mem = s.mem := by
  unfold aluB
  simp only [result_kept, and_self]

@[simp] theorem shiftB_kept (i : Issue) (op : Nat) (kd : KReg) (ka : KReg) (imm : BitVec 6) (f : BitVec 64 → BitVec 64)
    (s : State) :
    (after (shiftB i op kd ka imm f s) s).part = s.part ∧ (after (shiftB i op kd ka imm f s) s).pending = s.pending ∧
    (after (shiftB i op kd ka imm f s) s).memGen = s.memGen ∧ (after (shiftB i op kd ka imm f s) s).mem = s.mem := by
  unfold shiftB
  simp only [result_kept, and_self]

@[simp] theorem execAdd_kept (i : Issue) (kd : KReg) (ka : KReg) (kb : KReg) (s : State) :
    (after (execAdd i kd ka kb s) s).part = s.part ∧ (after (execAdd i kd ka kb s) s).pending = s.pending ∧
    (after (execAdd i kd ka kb s) s).memGen = s.memGen ∧ (after (execAdd i kd ka kb s) s).mem = s.mem := by
  unfold execAdd
  simp only [aluA_kept, and_self]

@[simp] theorem execSub_kept (i : Issue) (kd : KReg) (ka : KReg) (kb : KReg) (s : State) :
    (after (execSub i kd ka kb s) s).part = s.part ∧ (after (execSub i kd ka kb s) s).pending = s.pending ∧
    (after (execSub i kd ka kb s) s).memGen = s.memGen ∧ (after (execSub i kd ka kb s) s).mem = s.mem := by
  unfold execSub
  simp only [aluA_kept, and_self]

@[simp] theorem execAnd_kept (i : Issue) (kd : KReg) (ka : KReg) (kb : KReg) (s : State) :
    (after (execAnd i kd ka kb s) s).part = s.part ∧ (after (execAnd i kd ka kb s) s).pending = s.pending ∧
    (after (execAnd i kd ka kb s) s).memGen = s.memGen ∧ (after (execAnd i kd ka kb s) s).mem = s.mem := by
  unfold execAnd
  simp only [aluA_kept, and_self]

@[simp] theorem execOr_kept (i : Issue) (kd : KReg) (ka : KReg) (kb : KReg) (s : State) :
    (after (execOr i kd ka kb s) s).part = s.part ∧ (after (execOr i kd ka kb s) s).pending = s.pending ∧
    (after (execOr i kd ka kb s) s).memGen = s.memGen ∧ (after (execOr i kd ka kb s) s).mem = s.mem := by
  unfold execOr
  simp only [aluA_kept, and_self]

@[simp] theorem execXor_kept (i : Issue) (kd : KReg) (ka : KReg) (kb : KReg) (s : State) :
    (after (execXor i kd ka kb s) s).part = s.part ∧ (after (execXor i kd ka kb s) s).pending = s.pending ∧
    (after (execXor i kd ka kb s) s).memGen = s.memGen ∧ (after (execXor i kd ka kb s) s).mem = s.mem := by
  unfold execXor
  simp only [aluA_kept, and_self]

@[simp] theorem execSll_kept (i : Issue) (kd : KReg) (ka : KReg) (kb : KReg) (s : State) :
    (after (execSll i kd ka kb s) s).part = s.part ∧ (after (execSll i kd ka kb s) s).pending = s.pending ∧
    (after (execSll i kd ka kb s) s).memGen = s.memGen ∧ (after (execSll i kd ka kb s) s).mem = s.mem := by
  unfold execSll
  simp only [aluA_kept, and_self]

@[simp] theorem execSrl_kept (i : Issue) (kd : KReg) (ka : KReg) (kb : KReg) (s : State) :
    (after (execSrl i kd ka kb s) s).part = s.part ∧ (after (execSrl i kd ka kb s) s).pending = s.pending ∧
    (after (execSrl i kd ka kb s) s).memGen = s.memGen ∧ (after (execSrl i kd ka kb s) s).mem = s.mem := by
  unfold execSrl
  simp only [aluA_kept, and_self]

@[simp] theorem execSra_kept (i : Issue) (kd : KReg) (ka : KReg) (kb : KReg) (s : State) :
    (after (execSra i kd ka kb s) s).part = s.part ∧ (after (execSra i kd ka kb s) s).pending = s.pending ∧
    (after (execSra i kd ka kb s) s).memGen = s.memGen ∧ (after (execSra i kd ka kb s) s).mem = s.mem := by
  unfold execSra
  simp only [aluA_kept, and_self]

@[simp] theorem execSlt_kept (i : Issue) (kd : KReg) (ka : KReg) (kb : KReg) (s : State) :
    (after (execSlt i kd ka kb s) s).part = s.part ∧ (after (execSlt i kd ka kb s) s).pending = s.pending ∧
    (after (execSlt i kd ka kb s) s).memGen = s.memGen ∧ (after (execSlt i kd ka kb s) s).mem = s.mem := by
  unfold execSlt
  simp only [aluA_kept, and_self]

@[simp] theorem execSltu_kept (i : Issue) (kd : KReg) (ka : KReg) (kb : KReg) (s : State) :
    (after (execSltu i kd ka kb s) s).part = s.part ∧ (after (execSltu i kd ka kb s) s).pending = s.pending ∧
    (after (execSltu i kd ka kb s) s).memGen = s.memGen ∧ (after (execSltu i kd ka kb s) s).mem = s.mem := by
  unfold execSltu
  simp only [aluA_kept, and_self]

@[simp] theorem execMul_kept (i : Issue) (kd : KReg) (ka : KReg) (kb : KReg) (s : State) :
    (after (execMul i kd ka kb s) s).part = s.part ∧ (after (execMul i kd ka kb s) s).pending = s.pending ∧
    (after (execMul i kd ka kb s) s).memGen = s.memGen ∧ (after (execMul i kd ka kb s) s).mem = s.mem := by
  unfold execMul
  simp only [aluA_kept, and_self]

@[simp] theorem execMulhu_kept (i : Issue) (kd : KReg) (ka : KReg) (kb : KReg) (s : State) :
    (after (execMulhu i kd ka kb s) s).part = s.part ∧ (after (execMulhu i kd ka kb s) s).pending = s.pending ∧
    (after (execMulhu i kd ka kb s) s).memGen = s.memGen ∧ (after (execMulhu i kd ka kb s) s).mem = s.mem := by
  unfold execMulhu
  simp only [aluA_kept, and_self]

@[simp] theorem execAddi_kept (i : Issue) (kd : KReg) (ka : KReg) (imm : BitVec 16) (s : State) :
    (after (execAddi i kd ka imm s) s).part = s.part ∧ (after (execAddi i kd ka imm s) s).pending = s.pending ∧
    (after (execAddi i kd ka imm s) s).memGen = s.memGen ∧ (after (execAddi i kd ka imm s) s).mem = s.mem := by
  unfold execAddi
  simp only [aluB_kept, and_self]

@[simp] theorem execAndi_kept (i : Issue) (kd : KReg) (ka : KReg) (imm : BitVec 16) (s : State) :
    (after (execAndi i kd ka imm s) s).part = s.part ∧ (after (execAndi i kd ka imm s) s).pending = s.pending ∧
    (after (execAndi i kd ka imm s) s).memGen = s.memGen ∧ (after (execAndi i kd ka imm s) s).mem = s.mem := by
  unfold execAndi
  simp only [aluB_kept, and_self]

@[simp] theorem execOri_kept (i : Issue) (kd : KReg) (ka : KReg) (imm : BitVec 16) (s : State) :
    (after (execOri i kd ka imm s) s).part = s.part ∧ (after (execOri i kd ka imm s) s).pending = s.pending ∧
    (after (execOri i kd ka imm s) s).memGen = s.memGen ∧ (after (execOri i kd ka imm s) s).mem = s.mem := by
  unfold execOri
  simp only [aluB_kept, and_self]

@[simp] theorem execXori_kept (i : Issue) (kd : KReg) (ka : KReg) (imm : BitVec 16) (s : State) :
    (after (execXori i kd ka imm s) s).part = s.part ∧ (after (execXori i kd ka imm s) s).pending = s.pending ∧
    (after (execXori i kd ka imm s) s).memGen = s.memGen ∧ (after (execXori i kd ka imm s) s).mem = s.mem := by
  unfold execXori
  simp only [aluB_kept, and_self]

@[simp] theorem execSlli_kept (i : Issue) (kd : KReg) (ka : KReg) (imm : BitVec 6) (s : State) :
    (after (execSlli i kd ka imm s) s).part = s.part ∧ (after (execSlli i kd ka imm s) s).pending = s.pending ∧
    (after (execSlli i kd ka imm s) s).memGen = s.memGen ∧ (after (execSlli i kd ka imm s) s).mem = s.mem := by
  unfold execSlli
  simp only [shiftB_kept, and_self]

@[simp] theorem execSrli_kept (i : Issue) (kd : KReg) (ka : KReg) (imm : BitVec 6) (s : State) :
    (after (execSrli i kd ka imm s) s).part = s.part ∧ (after (execSrli i kd ka imm s) s).pending = s.pending ∧
    (after (execSrli i kd ka imm s) s).memGen = s.memGen ∧ (after (execSrli i kd ka imm s) s).mem = s.mem := by
  unfold execSrli
  simp only [shiftB_kept, and_self]

@[simp] theorem execSrai_kept (i : Issue) (kd : KReg) (ka : KReg) (imm : BitVec 6) (s : State) :
    (after (execSrai i kd ka imm s) s).part = s.part ∧ (after (execSrai i kd ka imm s) s).pending = s.pending ∧
    (after (execSrai i kd ka imm s) s).memGen = s.memGen ∧ (after (execSrai i kd ka imm s) s).mem = s.mem := by
  unfold execSrai
  simp only [shiftB_kept, and_self]

@[simp] theorem execSlti_kept (i : Issue) (kd : KReg) (ka : KReg) (imm : BitVec 16) (s : State) :
    (after (execSlti i kd ka imm s) s).part = s.part ∧ (after (execSlti i kd ka imm s) s).pending = s.pending ∧
    (after (execSlti i kd ka imm s) s).memGen = s.memGen ∧ (after (execSlti i kd ka imm s) s).mem = s.mem := by
  unfold execSlti
  simp only [aluB_kept, and_self]

@[simp] theorem execSltiu_kept (i : Issue) (kd : KReg) (ka : KReg) (imm : BitVec 16) (s : State) :
    (after (execSltiu i kd ka imm s) s).part = s.part ∧ (after (execSltiu i kd ka imm s) s).pending = s.pending ∧
    (after (execSltiu i kd ka imm s) s).memGen = s.memGen ∧ (after (execSltiu i kd ka imm s) s).mem = s.mem := by
  unfold execSltiu
  simp only [aluB_kept, and_self]

@[simp] theorem execLui_kept (i : Issue) (kd : KReg) (imm : BitVec 21) (s : State) :
    (after (execLui i kd imm s) s).part = s.part ∧ (after (execLui i kd imm s) s).pending = s.pending ∧
    (after (execLui i kd imm s) s).memGen = s.memGen ∧ (after (execLui i kd imm s) s).mem = s.mem := by
  unfold execLui
  simp only [result_kept, and_self]

@[simp] theorem execLd_kept (i : Issue) (kd : KReg) (ka : KReg) (imm : BitVec 16) (ecc : EccClass) (s : State) :
    (after (execLd i kd ka imm ecc s) s).part = s.part ∧ (after (execLd i kd ka imm ecc s) s).pending = s.pending ∧
    (after (execLd i kd ka imm ecc s) s).memGen = s.memGen ∧ (after (execLd i kd ka imm ecc s) s).mem = s.mem := by
  unfold execLd
  simp only [checkedAccess_part, checkedAccess_pending, checkedAccess_memGen, checkedAccess_mem, coreRead_kept, finish_kept,
      and_self, implies_true]

@[simp] theorem execLdw_kept (i : Issue) (kd : KReg) (ka : KReg) (imm : BitVec 16) (ecc : EccClass) (s : State) :
    (after (execLdw i kd ka imm ecc s) s).part = s.part ∧ (after (execLdw i kd ka imm ecc s) s).pending = s.pending ∧
    (after (execLdw i kd ka imm ecc s) s).memGen = s.memGen ∧ (after (execLdw i kd ka imm ecc s) s).mem = s.mem := by
  unfold execLdw
  simp only [checkedAccess_part, checkedAccess_pending, checkedAccess_memGen, checkedAccess_mem, coreRead_kept, finish_kept,
      and_self, implies_true]

@[simp] theorem execSt_kept (i : Issue) (kd : KReg) (ka : KReg) (imm : BitVec 16) (s : State) :
    (after (execSt i kd ka imm s) s).part = s.part ∧ (after (execSt i kd ka imm s) s).pending = s.pending ∧
    (after (execSt i kd ka imm s) s).memGen = s.memGen := by
  unfold execSt
  simp only [checkedAccess_part, checkedAccess_pending, checkedAccess_memGen, coreStore_kept, and_self, implies_true]

@[simp] theorem execStw_kept (i : Issue) (kd : KReg) (ka : KReg) (imm : BitVec 16) (ecc : EccClass) (s : State) :
    (after (execStw i kd ka imm ecc s) s).part = s.part ∧ (after (execStw i kd ka imm ecc s) s).pending = s.pending ∧
    (after (execStw i kd ka imm ecc s) s).memGen = s.memGen := by
  unfold execStw
  simp only [checkedAccess_part, checkedAccess_pending, checkedAccess_memGen, coreStore_kept, and_self, implies_true]

@[simp] theorem execPld_kept (i : Issue) (kd : KReg) (ka : KReg) (imm : BitVec 16) (ecc : EccClass) (s : State) :
    (after (execPld i kd ka imm ecc s) s).part = s.part ∧ (after (execPld i kd ka imm ecc s) s).pending = s.pending ∧
    (after (execPld i kd ka imm ecc s) s).memGen = s.memGen ∧ (after (execPld i kd ka imm ecc s) s).mem = s.mem := by
  unfold execPld
  simp only [checkedAccess_part, checkedAccess_pending, checkedAccess_memGen, checkedAccess_mem, finish_kept, and_self,
      implies_true]

@[simp] theorem execPst_kept (i : Issue) (kd : KReg) (ka : KReg) (imm : BitVec 16) (s : State) :
    (after (execPst i kd ka imm s) s).part = s.part ∧ (after (execPst i kd ka imm s) s).pending = s.pending ∧
    (after (execPst i kd ka imm s) s).memGen = s.memGen := by
  unfold execPst
  simp only [State.writeNat_kept, checkedAccess_part, checkedAccess_pending, checkedAccess_memGen, finish_kept, and_self,
      implies_true]

@[simp] theorem execPxchg_kept (i : Issue) (kd : KReg) (ka : KReg) (imm : BitVec 16) (ecc : EccClass) (s : State) :
    (after (execPxchg i kd ka imm ecc s) s).part = s.part ∧ (after (execPxchg i kd ka imm ecc s) s).pending = s.pending ∧
    (after (execPxchg i kd ka imm ecc s) s).memGen = s.memGen := by
  unfold execPxchg
  simp only [State.writeNat_kept, checkedAccess_part, checkedAccess_pending, checkedAccess_memGen, finish_kept, and_self,
      implies_true]

@[simp] theorem execBeq_kept (i : Issue) (kd : KReg) (ka : KReg) (imm : BitVec 16) (s : State) :
    (after (execBeq i kd ka imm s) s).part = s.part ∧ (after (execBeq i kd ka imm s) s).pending = s.pending ∧
    (after (execBeq i kd ka imm s) s).memGen = s.memGen ∧ (after (execBeq i kd ka imm s) s).mem = s.mem := by
  unfold execBeq
  simp only [branch_kept, and_self]

@[simp] theorem execBne_kept (i : Issue) (kd : KReg) (ka : KReg) (imm : BitVec 16) (s : State) :
    (after (execBne i kd ka imm s) s).part = s.part ∧ (after (execBne i kd ka imm s) s).pending = s.pending ∧
    (after (execBne i kd ka imm s) s).memGen = s.memGen ∧ (after (execBne i kd ka imm s) s).mem = s.mem := by
  unfold execBne
  simp only [branch_kept, and_self]

@[simp] theorem execBlt_kept (i : Issue) (kd : KReg) (ka : KReg) (imm : BitVec 16) (s : State) :
    (after (execBlt i kd ka imm s) s).part = s.part ∧ (after (execBlt i kd ka imm s) s).pending = s.pending ∧
    (after (execBlt i kd ka imm s) s).memGen = s.memGen ∧ (after (execBlt i kd ka imm s) s).mem = s.mem := by
  unfold execBlt
  simp only [branch_kept, and_self]

@[simp] theorem execBge_kept (i : Issue) (kd : KReg) (ka : KReg) (imm : BitVec 16) (s : State) :
    (after (execBge i kd ka imm s) s).part = s.part ∧ (after (execBge i kd ka imm s) s).pending = s.pending ∧
    (after (execBge i kd ka imm s) s).memGen = s.memGen ∧ (after (execBge i kd ka imm s) s).mem = s.mem := by
  unfold execBge
  simp only [branch_kept, and_self]

@[simp] theorem execBltu_kept (i : Issue) (kd : KReg) (ka : KReg) (imm : BitVec 16) (s : State) :
    (after (execBltu i kd ka imm s) s).part = s.part ∧ (after (execBltu i kd ka imm s) s).pending = s.pending ∧
    (after (execBltu i kd ka imm s) s).memGen = s.memGen ∧ (after (execBltu i kd ka imm s) s).mem = s.mem := by
  unfold execBltu
  simp only [branch_kept, and_self]

@[simp] theorem execBgeu_kept (i : Issue) (kd : KReg) (ka : KReg) (imm : BitVec 16) (s : State) :
    (after (execBgeu i kd ka imm s) s).part = s.part ∧ (after (execBgeu i kd ka imm s) s).pending = s.pending ∧
    (after (execBgeu i kd ka imm s) s).memGen = s.memGen ∧ (after (execBgeu i kd ka imm s) s).mem = s.mem := by
  unfold execBgeu
  simp only [branch_kept, and_self]

@[simp] theorem execJalr_kept (i : Issue) (kd : KReg) (ka : KReg) (imm : BitVec 16) (s : State) :
    (after (execJalr i kd ka imm s) s).part = s.part ∧ (after (execJalr i kd ka imm s) s).pending = s.pending ∧
    (after (execJalr i kd ka imm s) s).memGen = s.memGen ∧ (after (execJalr i kd ka imm s) s).mem = s.mem := by
  unfold execJalr
  simp only [issue_part, issue_pending, issue_memGen, issue_mem, jump_kept, and_self, implies_true, after_done, settle_kept]

@[simp] theorem execJ_kept (i : Issue) (off : BitVec 26) (s : State) :
    (after (execJ i off s) s).part = s.part ∧ (after (execJ i off s) s).pending = s.pending ∧
    (after (execJ i off s) s).memGen = s.memGen ∧ (after (execJ i off s) s).mem = s.mem := by
  unfold execJ
  simp only [issue_part, issue_pending, issue_memGen, issue_mem, jump_kept, and_self, implies_true, after_done, settle_kept]

@[simp] theorem execJal_kept (i : Issue) (off : BitVec 26) (s : State) :
    (after (execJal i off s) s).part = s.part ∧ (after (execJal i off s) s).pending = s.pending ∧
    (after (execJal i off s) s).memGen = s.memGen ∧ (after (execJal i off s) s).mem = s.mem := by
  unfold execJal
  simp only [issue_part, issue_pending, issue_memGen, issue_mem, jump_kept, and_self, implies_true, after_done, settle_kept]

end Sys2Proof.Machine
end

