-- ==== Sys2Proof/Laws/KeeperSystemKept.lean ====
section
/-! SUPPORT. What the functions of Machine/KeeperSystem.lean keep: the factory part, the queue, and memory where they do not write it. -/

namespace Sys2Proof.Machine

@[simp] theorem lineChecked_part (i : Issue) (func : Nat) (kd : KReg) (ka : KReg) (kb : KReg) (s : State)
    (f : Nat → Nat → State → State) (h_f : ∀ (y0 : Nat) (y1 : Nat) (y2 : State),
    (f y0 y1 y2).part = y2.part) : (after (lineChecked i func kd ka kb s f) s).part = s.part := by
  unfold lineChecked
  simp only [issue_part, keeperFault_kept, h_f, ite_part, ite_self, implies_true, after_done, settle_kept]

@[simp] theorem lineChecked_pending (i : Issue) (func : Nat) (kd : KReg) (ka : KReg) (kb : KReg) (s : State)
    (f : Nat → Nat → State → State) (h_f : ∀ (y0 : Nat) (y1 : Nat) (y2 : State),
    (f y0 y1 y2).pending = y2.pending) : (after (lineChecked i func kd ka kb s f) s).pending = s.pending := by
  unfold lineChecked
  simp only [issue_pending, keeperFault_kept, h_f, ite_pending, ite_self, implies_true, after_done, settle_kept]

@[simp] theorem lineChecked_memGen (i : Issue) (func : Nat) (kd : KReg) (ka : KReg) (kb : KReg) (s : State)
    (f : Nat → Nat → State → State) (h_f : ∀ (y0 : Nat) (y1 : Nat) (y2 : State),
    (f y0 y1 y2).memGen = y2.memGen) : (after (lineChecked i func kd ka kb s f) s).memGen = s.memGen := by
  unfold lineChecked
  simp only [issue_memGen, keeperFault_kept, h_f, ite_memGen, ite_self, implies_true, after_done, settle_kept]

@[simp] theorem lineChecked_mem (i : Issue) (func : Nat) (kd : KReg) (ka : KReg) (kb : KReg) (s : State)
    (f : Nat → Nat → State → State) (h_f : ∀ (y0 : Nat) (y1 : Nat) (y2 : State),
    (f y0 y1 y2).mem = y2.mem) : (after (lineChecked i func kd ka kb s f) s).mem = s.mem := by
  unfold lineChecked
  simp only [issue_mem, keeperFault_kept, h_f, ite_mem, ite_self, implies_true, after_done, settle_kept]

@[simp] theorem execNld_kept (i : Issue) (kd : KReg) (ka : KReg) (kb : KReg) (s : State) :
    (after (execNld i kd ka kb s) s).part = s.part ∧ (after (execNld i kd ka kb s) s).pending = s.pending ∧
    (after (execNld i kd ka kb s) s).memGen = s.memGen ∧ (after (execNld i kd ka kb s) s).mem = s.mem := by
  unfold execNld
  simp only [lineChecked_part, lineChecked_pending, lineChecked_memGen, lineChecked_mem, post_kept, and_self, implies_true]

@[simp] theorem lineCopied_part (i : Issue) (word : Nat) (b : Nat) (ecc : EccClass) (s : State) (f : Nat → State → State)
    (h_f : ∀ (y0 : Nat) (y1 : State), (f y0 y1).part = y1.part) : (lineCopied i word b ecc s f).part = s.part := by
  unfold lineCopied
  (repeat' split) <;> simp only [State.setKeeper_kept, coreRead_kept, keeperFault_kept, h_f]

@[simp] theorem lineCopied_pending (i : Issue) (word : Nat) (b : Nat) (ecc : EccClass) (s : State)
    (f : Nat → State → State) (h_f : ∀ (y0 : Nat) (y1 : State),
    (f y0 y1).pending = y1.pending) : (lineCopied i word b ecc s f).pending = s.pending := by
  unfold lineCopied
  (repeat' split) <;> simp only [State.setKeeper_kept, coreRead_kept, keeperFault_kept, h_f]

@[simp] theorem lineCopied_memGen (i : Issue) (word : Nat) (b : Nat) (ecc : EccClass) (s : State) (f : Nat → State → State)
    (h_f : ∀ (y0 : Nat) (y1 : State), (f y0 y1).memGen = y1.memGen) : (lineCopied i word b ecc s f).memGen = s.memGen := by
  unfold lineCopied
  (repeat' split) <;> simp only [State.setKeeper_kept, coreRead_kept, keeperFault_kept, h_f]

@[simp] theorem lineCopied_mem (i : Issue) (word : Nat) (b : Nat) (ecc : EccClass) (s : State) (f : Nat → State → State)
    (h_f : ∀ (y0 : Nat) (y1 : State), (f y0 y1).mem = y1.mem) : (lineCopied i word b ecc s f).mem = s.mem := by
  unfold lineCopied
  (repeat' split) <;> simp only [State.setKeeper_kept, coreRead_kept, keeperFault_kept, h_f]

@[simp] theorem execNst_kept (i : Issue) (kd : KReg) (ka : KReg) (kb : KReg) (ecc : EccClass) (s : State) :
    (after (execNst i kd ka kb ecc s) s).part = s.part ∧ (after (execNst i kd ka kb ecc s) s).pending = s.pending ∧
    (after (execNst i kd ka kb ecc s) s).memGen = s.memGen ∧ (after (execNst i kd ka kb ecc s) s).mem = s.mem := by
  unfold execNst
  simp only [lineChecked_part, lineChecked_pending, lineChecked_memGen, lineChecked_mem, lineCopied_part,
      lineCopied_pending, lineCopied_memGen, lineCopied_mem, post_kept, ite_part, ite_pending, ite_memGen, ite_mem,
      ite_self, and_self, implies_true]

@[simp] theorem execNstw_kept (i : Issue) (kd : KReg) (ka : KReg) (kb : KReg) (s : State) :
    (after (execNstw i kd ka kb s) s).part = s.part ∧ (after (execNstw i kd ka kb s) s).pending = s.pending ∧
    (after (execNstw i kd ka kb s) s).memGen = s.memGen ∧ (after (execNstw i kd ka kb s) s).mem = s.mem := by
  unfold execNstw
  simp only [issue_part, issue_pending, issue_memGen, issue_mem, keeperFault_kept, post_kept, ite_part, ite_pending,
      ite_memGen, ite_mem, ite_self, and_self, implies_true, after_done, settle_kept]

@[simp] theorem execWatch_kept (i : Issue) (kd : KReg) (s : State) :
    (after (execWatch i kd s) s).part = s.part ∧ (after (execWatch i kd s) s).pending = s.pending ∧
    (after (execWatch i kd s) s).memGen = s.memGen ∧ (after (execWatch i kd s) s).mem = s.mem := by
  unfold execWatch
  refine ⟨?_, ?_, ?_, ?_⟩
  · rw [after_done, settle_kept _ |> And.left]
    refine issue_part _ _ _ _ fun t => ?_
    dsimp only
    split <;> simp only [finish_kept]
  · rw [after_done, settle_kept _ |> (·.2.1)]
    refine issue_pending _ _ _ _ fun t => ?_
    dsimp only
    split <;> simp only [finish_kept]
  · rw [after_done, settle_kept _ |> (·.2.2.1)]
    refine issue_memGen _ _ _ _ fun t => ?_
    dsimp only
    split <;> simp only [finish_kept]
  · rw [after_done, settle_kept _ |> (·.2.2.2)]
    refine issue_mem _ _ _ _ fun t => ?_
    dsimp only
    split <;> simp only [finish_kept]

@[simp] theorem execSrd_kept (i : Issue) (kd : KReg) (sel : Fin 8) (s : State) :
    (after (execSrd i kd sel s) s).part = s.part ∧ (after (execSrd i kd sel s) s).pending = s.pending ∧
    (after (execSrd i kd sel s) s).memGen = s.memGen ∧ (after (execSrd i kd sel s) s).mem = s.mem := by
  unfold execSrd
  simp only [finish_kept, issue_part, issue_pending, issue_memGen, issue_mem, and_self, implies_true, after_done,
      settle_kept]

@[simp] theorem execRound_kept (i : Issue) (s : State) :
    (after (execRound i s) s).part = s.part ∧ (after (execRound i s) s).pending = s.pending ∧
    (after (execRound i s) s).memGen = s.memGen ∧ (after (execRound i s) s).mem = s.mem := by
  unfold execRound
  simp only [State.setKeeper_kept, finish_kept, issue_part, issue_pending, issue_memGen, issue_mem, ite_part, ite_pending,
      ite_memGen, ite_mem, ite_self, and_self, implies_true, after_done, settle_kept]

@[simp] theorem execHalt_kept (i : Issue) (s : State) :
    (after (execHalt i s) s).part = s.part ∧ (after (execHalt i s) s).pending = s.pending ∧
    (after (execHalt i s) s).memGen = s.memGen ∧ (after (execHalt i s) s).mem = s.mem := by
  unfold execHalt
  simp only [State.setKeeper_kept, issue_part, issue_pending, issue_memGen, issue_mem, and_self, implies_true, after_done,
      settle_kept]

@[simp] theorem execNwait_kept (i : Issue) (kd : KReg) (ka : KReg) (imm : BitVec 16) (s : State) :
    (after (execNwait i kd ka imm s) s).part = s.part ∧ (after (execNwait i kd ka imm s) s).pending = s.pending ∧
    (after (execNwait i kd ka imm s) s).memGen = s.memGen ∧ (after (execNwait i kd ka imm s) s).mem = s.mem := by
  unfold execNwait
  refine ⟨?_, ?_, ?_, ?_⟩
  · rw [after_done, settle_kept _ |> And.left]
    refine issue_part _ _ _ _ fun t => ?_
    dsimp only
    (repeat' split) <;> simp only [finish_kept, State.setKeeper_kept]
  · rw [after_done, settle_kept _ |> (·.2.1)]
    refine issue_pending _ _ _ _ fun t => ?_
    dsimp only
    (repeat' split) <;> simp only [finish_kept, State.setKeeper_kept]
  · rw [after_done, settle_kept _ |> (·.2.2.1)]
    refine issue_memGen _ _ _ _ fun t => ?_
    dsimp only
    (repeat' split) <;> simp only [finish_kept, State.setKeeper_kept]
  · rw [after_done, settle_kept _ |> (·.2.2.2)]
    refine issue_mem _ _ _ _ fun t => ?_
    dsimp only
    (repeat' split) <;> simp only [finish_kept, State.setKeeper_kept]

@[simp] theorem execNwaitTimeout_kept (core : Fin 4) (s : State) :
    (after (execNwaitTimeout core s) s).part = s.part ∧ (after (execNwaitTimeout core s) s).pending = s.pending ∧
    (after (execNwaitTimeout core s) s).memGen = s.memGen ∧ (after (execNwaitTimeout core s) s).mem = s.mem := by
  unfold execNwaitTimeout
  (repeat' (first | (simp only [State.setKeeper_kept, takeOver_kept, ite_part, ite_pending, ite_memGen, ite_mem, ite_self, and_self, after_ite, after_done, settle_kept]; done) | split | simp only []))

@[simp] theorem execWbeat_kept (i : Issue) (kd : KReg) (ka : KReg) (imm : BitVec 16) (s : State) :
    (after (execWbeat i kd ka imm s) s).part = s.part ∧ (after (execWbeat i kd ka imm s) s).pending = s.pending ∧
    (after (execWbeat i kd ka imm s) s).memGen = s.memGen ∧ (after (execWbeat i kd ka imm s) s).mem = s.mem := by
  unfold execWbeat
  simp only [State.setKeeper_kept, finish_kept, issue_part, issue_pending, issue_memGen, issue_mem, ite_part, ite_pending,
      ite_memGen, ite_mem, ite_self, and_self, implies_true, after_done, settle_kept]

@[simp] theorem execWbeatReturn_kept (core : Fin 4) (s : State) :
    (after (execWbeatReturn core s) s).part = s.part ∧ (after (execWbeatReturn core s) s).pending = s.pending ∧
    (after (execWbeatReturn core s) s).memGen = s.memGen ∧ (after (execWbeatReturn core s) s).mem = s.mem := by
  unfold execWbeatReturn
  (repeat' (first | (simp only [State.setKeeper_kept, takeOver_kept, ite_part, ite_pending, ite_memGen, ite_mem, ite_self, and_self, after_ite, after_done, settle_kept]; done) | split | simp only []))

@[simp] theorem execEvpost_kept (i : Issue) (ka : KReg) (n : Fin 16) (s : State) :
    (after (execEvpost i ka n s) s).part = s.part ∧ (after (execEvpost i ka n s) s).pending = s.pending ∧
    (after (execEvpost i ka n s) s).memGen = s.memGen ∧ (after (execEvpost i ka n s) s).mem = s.mem := by
  unfold execEvpost
  simp only [finish_kept, issue_part, issue_pending, issue_memGen, issue_mem, raise_kept, and_self, implies_true,
      after_done, settle_kept]

@[simp] theorem execEmcy_kept (i : Issue) (kd : KReg) (ka : KReg) (n : BitVec 6) (s : State) :
    (after (execEmcy i kd ka n s) s).part = s.part ∧ (after (execEmcy i kd ka n s) s).pending = s.pending ∧
    (after (execEmcy i kd ka n s) s).memGen = s.memGen ∧ (after (execEmcy i kd ka n s) s).mem = s.mem := by
  unfold execEmcy
  simp only [finish_kept, issue_part, issue_pending, issue_memGen, issue_mem, ite_part, ite_pending, ite_memGen, ite_mem,
      ite_self, and_self, implies_true, after_done, settle_kept]

@[simp] theorem execIllegalInstruction_kept (i : Issue) (s : State) :
    (after (execIllegalInstruction i s) s).part = s.part ∧ (after (execIllegalInstruction i s) s).pending = s.pending ∧
    (after (execIllegalInstruction i s) s).memGen = s.memGen ∧ (after (execIllegalInstruction i s) s).mem = s.mem := by
  unfold execIllegalInstruction
  simp only [keeperFault_kept, ite_part, ite_pending, ite_memGen, ite_mem, ite_self, and_self, after_ite, after_done,
      settle_kept]

@[simp] theorem keeperRunWrite_kept (k : Nat) (s : State) :
    (keeperRunWrite k s).2.part = s.part ∧ (keeperRunWrite k s).2.pending = s.pending ∧
    (keeperRunWrite k s).2.memGen = s.memGen ∧ (keeperRunWrite k s).2.mem = s.mem := by
  unfold keeperRunWrite
  (repeat' (first | (simp only [State.setKeeper_kept, coreReset_kept, ite_part, ite_pending, ite_memGen, ite_mem, ite_snd, and_self]; done) | split | simp only []))

@[simp] theorem keeperStopWrite_kept (k : Nat) (s : State) :
    (keeperStopWrite k s).2.part = s.part ∧ (keeperStopWrite k s).2.pending = s.pending ∧
    (keeperStopWrite k s).2.memGen = s.memGen ∧ (keeperStopWrite k s).2.mem = s.mem := by
  unfold keeperStopWrite
  simp only [State.setKeeper_kept, ite_part, ite_pending, ite_memGen, ite_mem, ite_self, ite_snd, and_self]

@[simp] theorem execKeeperRun_kept (path : Path) (core : Fin 4) (s : State) :
    (after (execKeeperRun path core s) s).part = s.part ∧ (after (execKeeperRun path core s) s).pending = s.pending ∧
    (after (execKeeperRun path core s) s).memGen = s.memGen ∧ (after (execKeeperRun path core s) s).mem = s.mem := by
  unfold execKeeperRun
  simp only [keeperRunWrite_kept, onPath_part, onPath_pending, onPath_memGen, onPath_mem, and_self, after_done, settle_kept]

@[simp] theorem execKeeperStop_kept (path : Path) (core : Fin 4) (s : State) :
    (after (execKeeperStop path core s) s).part = s.part ∧ (after (execKeeperStop path core s) s).pending = s.pending ∧
    (after (execKeeperStop path core s) s).memGen = s.memGen ∧ (after (execKeeperStop path core s) s).mem = s.mem := by
  unfold execKeeperStop
  simp only [keeperStopWrite_kept, onPath_part, onPath_pending, onPath_memGen, onPath_mem, and_self, after_done, settle_kept]

@[simp] theorem storeWrite_kept (addr : Nat) (data : List Byte) (be : Nat) (s : State) :
    (storeWrite addr data be s).part = s.part ∧ (storeWrite addr data be s).pending = s.pending ∧
    (storeWrite addr data be s).memGen = s.memGen := by
  unfold storeWrite
  simp only [State.writeBytes_kept, State.writeNat_kept, ite_part, ite_pending, ite_memGen, ite_self, and_self]

@[simp] theorem execKeeperCodeStoreWrite_kept (req : ReqId) (addr : BitVec 48) (data : List Byte) (be : BitVec 4)
    (s : State) :
    (after (execKeeperCodeStoreWrite req addr data be s) s).part = s.part ∧
    (after (execKeeperCodeStoreWrite req addr data be s) s).pending = s.pending ∧
    (after (execKeeperCodeStoreWrite req addr data be s) s).memGen = s.memGen := by
  unfold execKeeperCodeStoreWrite
  (repeat' split) <;> simp only [answerStatus_kept, openTxn_kept, storeWrite_kept, ite_part, ite_pending, ite_memGen, ite_self, and_self, after_ite, after_done, settle_kept]

end Sys2Proof.Machine
end

