-- ==== Sys2Proof/Laws/SessionsKept.lean ====
section
/-! SUPPORT. What the functions of Machine/Sessions.lean keep: the factory part, the queue, and memory where they do not write it. -/

namespace Sys2Proof.Machine

@[simp] theorem State.setSession_kept (s : State) (c : Nat) (x : Session) :
    (State.setSession s c x).part = s.part ∧ (State.setSession s c x).pending = s.pending ∧
    (State.setSession s c x).memGen = s.memGen ∧ (State.setSession s c x).mem = s.mem := by
  unfold State.setSession
  exact ⟨by with_reducible rfl, by with_reducible rfl, by with_reducible rfl, by with_reducible rfl⟩

@[simp] theorem grantNext_kept (s : State) :
    (grantNext s).part = s.part ∧ (grantNext s).pending = s.pending ∧ (grantNext s).memGen = s.memGen ∧
    (grantNext s).mem = s.mem := by
  unfold grantNext
  (repeat' split) <;> simp only [and_self]

@[simp] theorem enqueue_kept (c : Nat) (idx : Nat) (sub : Nat) (kind : JobKind) (s : State) :
    (enqueue c idx sub kind s).part = s.part ∧ (enqueue c idx sub kind s).pending = s.pending ∧
    (enqueue c idx sub kind s).memGen = s.memGen ∧ (enqueue c idx sub kind s).mem = s.mem := by
  unfold enqueue
  simp only [grantNext_kept, and_self]

@[simp] theorem dropJobs_kept (c : Nat) (s : State) :
    (dropJobs c s).part = s.part ∧ (dropJobs c s).pending = s.pending ∧ (dropJobs c s).memGen = s.memGen ∧
    (dropJobs c s).mem = s.mem := by
  unfold dropJobs
  exact ⟨by with_reducible rfl, by with_reducible rfl, by with_reducible rfl, by with_reducible rfl⟩

@[simp] theorem usdoSend_kept (a : Config.UsdoAnswer) (idx : Nat) (sub : Nat) (data : List Byte) (s : State) :
    (usdoSend a idx sub data s).part = s.part ∧ (usdoSend a idx sub data s).pending = s.pending ∧
    (usdoSend a idx sub data s).memGen = s.memGen ∧ (usdoSend a idx sub data s).mem = s.mem := by
  unfold usdoSend
  simp only [canSend_kept, and_self]

@[simp] theorem usdoCounted_kept (s : State) :
    (usdoCounted s).part = s.part ∧ (usdoCounted s).pending = s.pending ∧ (usdoCounted s).memGen = s.memGen ∧
    (usdoCounted s).mem = s.mem := by
  unfold usdoCounted
  simp only [raise_kept, and_self]

@[simp] theorem usdoAbortFrame_kept (idx : Nat) (sub : Nat) (code : Nat) (s : State) :
    (usdoAbortFrame idx sub code s).part = s.part ∧ (usdoAbortFrame idx sub code s).pending = s.pending ∧
    (usdoAbortFrame idx sub code s).memGen = s.memGen ∧ (usdoAbortFrame idx sub code s).mem = s.mem := by
  unfold usdoAbortFrame
  simp only [usdoCounted_kept, usdoSend_kept, and_self]

@[simp] theorem clientRespond_kept (c : Nat) (idx : Nat) (sub : Nat) (code : Nat) (len : Nat) (data : List Byte)
    (s : State) :
    (clientRespond c idx sub code len data s).part = s.part ∧
    (clientRespond c idx sub code len data s).pending = s.pending ∧
    (clientRespond c idx sub code len data s).memGen = s.memGen ∧ (clientRespond c idx sub code len data s).mem = s.mem := by
  unfold clientRespond
  simp only [usdoAbortFrame_kept, usdoSend_kept, ite_part, ite_pending, ite_memGen, ite_mem, ite_self, and_self]

@[simp] theorem endRequest_kept (c : Nat) (idx : Nat) (sub : Nat) (code : Nat) (seq : Nat) (len : Nat) (data : List Byte)
    (full : List Byte) (s : State) :
    (endRequest c idx sub code seq len data full s).part = s.part ∧
    (endRequest c idx sub code seq len data full s).pending = s.pending ∧
    (endRequest c idx sub code seq len data full s).memGen = s.memGen ∧
    (endRequest c idx sub code seq len data full s).mem = s.mem := by
  unfold endRequest
  simp only [clientRespond_kept, reply_kept, ite_part, ite_pending, ite_memGen, ite_mem, ite_self, and_self]

@[simp] theorem finishRead_kept (j : Job) (off : Nat) (len : Nat) (full : List Byte) (s : State) :
    (finishRead j off len full s).part = s.part ∧ (finishRead j off len full s).pending = s.pending ∧
    (finishRead j off len full s).memGen = s.memGen ∧ (finishRead j off len full s).mem = s.mem := by
  unfold finishRead
  simp only [State.setSession_kept, endRequest_kept, and_self]

@[simp] theorem finishUpload_kept (j : Job) (full : List Byte) (s : State) :
    (finishUpload j full s).part = s.part ∧ (finishUpload j full s).pending = s.pending ∧
    (finishUpload j full s).memGen = s.memGen ∧ (finishUpload j full s).mem = s.mem := by
  unfold finishUpload
  simp only [State.setSession_kept, endRequest_kept, ite_part, ite_pending, ite_memGen, ite_mem, ite_self, and_self]

@[simp] theorem finishCopy_kept (j : Job) (full : List Byte) (s : State) :
    (finishCopy j full s).part = s.part ∧ (finishCopy j full s).pending = s.pending ∧
    (finishCopy j full s).memGen = s.memGen ∧ (finishCopy j full s).mem = s.mem := by
  unfold finishCopy
  (repeat' split) <;> simp only [finishRead_kept, finishUpload_kept, and_self]

@[simp] theorem finishCode_kept (j : Job) (code : Nat) (seq : Nat) (len : Nat) (s : State) :
    (finishCode j code seq len s).part = s.part ∧ (finishCode j code seq len s).pending = s.pending ∧
    (finishCode j code seq len s).memGen = s.memGen ∧ (finishCode j code seq len s).mem = s.mem := by
  unfold finishCode
  simp only [State.setSession_kept, endRequest_kept, ite_part, ite_pending, ite_memGen, ite_mem, ite_self, and_self]

@[simp] theorem endRelayWait_kept (w : Nat) (code : Nat) (data : List Byte) (s : State) :
    (endRelayWait w code data s).part = s.part ∧ (endRelayWait w code data s).pending = s.pending ∧
    (endRelayWait w code data s).memGen = s.memGen ∧ (endRelayWait w code data s).mem = s.mem := by
  unfold endRelayWait
  refine ⟨?_, ?_, ?_, ?_⟩
  · refine (foldl_part _ _ _ fun t j => ?_).trans rfl
    (repeat' split) <;> simp only [finishCode_kept, finishCopy_kept]
  · refine (foldl_pending _ _ _ fun t j => ?_).trans rfl
    (repeat' split) <;> simp only [finishCode_kept, finishCopy_kept]
  · refine (foldl_memGen _ _ _ fun t j => ?_).trans rfl
    (repeat' split) <;> simp only [finishCode_kept, finishCopy_kept]
  · refine (foldl_mem _ _ _ fun t j => ?_).trans rfl
    (repeat' split) <;> simp only [finishCode_kept, finishCopy_kept]

@[simp] theorem discard_kept (c : Nat) (s : State) :
    (discard c s).part = s.part ∧ (discard c s).pending = s.pending ∧ (discard c s).memGen = s.memGen ∧
    (discard c s).mem = s.mem := by
  unfold discard
  simp only [State.setSession_kept, and_self]

@[simp] theorem collect_kept (c : Nat) (idx : Nat) (sub : Nat) (off : Nat) (data : List Byte) (s : State) :
    (collect c idx sub off data s).2.part = s.part ∧ (collect c idx sub off data s).2.pending = s.pending ∧
    (collect c idx sub off data s).2.memGen = s.memGen ∧ (collect c idx sub off data s).2.mem = s.mem := by
  unfold collect
  simp only [State.setSession_kept, discard_kept, ite_part, ite_pending, ite_memGen, ite_mem, ite_self, ite_snd, and_self]

@[simp] theorem readRequest_kept (c : Nat) (idx : Nat) (sub : Nat) (off : Nat) (len : Nat) (s : State) :
    (readRequest c idx sub off len s).part = s.part ∧ (readRequest c idx sub off len s).pending = s.pending ∧
    (readRequest c idx sub off len s).memGen = s.memGen ∧ (readRequest c idx sub off len s).mem = s.mem := by
  unfold readRequest
  simp only [State.setSession_kept, endRequest_kept, enqueue_kept, ite_part, ite_pending, ite_memGen, ite_mem, ite_self,
      and_self]

@[simp] theorem segmentRequest_kept (c : Nat) (idx : Nat) (sub : Nat) (off : Nat) (data : List Byte) (s : State) :
    (segmentRequest c idx sub off data s).part = s.part ∧ (segmentRequest c idx sub off data s).pending = s.pending ∧
    (segmentRequest c idx sub off data s).memGen = s.memGen ∧ (segmentRequest c idx sub off data s).mem = s.mem := by
  unfold segmentRequest
  simp only [collect_kept, endRequest_kept, and_self]

@[simp] theorem finalRequest_kept (c : Nat) (idx : Nat) (sub : Nat) (off : Nat) (data : List Byte) (s : State) :
    (finalRequest c idx sub off data s).part = s.part ∧ (finalRequest c idx sub off data s).pending = s.pending ∧
    (finalRequest c idx sub off data s).memGen = s.memGen ∧ (finalRequest c idx sub off data s).mem = s.mem := by
  unfold finalRequest
  simp only [collect_kept, endRequest_kept, enqueue_kept, ite_part, ite_pending, ite_memGen, ite_mem, ite_self, and_self]

@[simp] theorem surveyRequest_part (idx : Nat) (sub : Nat) (f : State → State) (s : State) (h_f : ∀ (y0 : State),
    (f y0).part = y0.part) : (surveyRequest idx sub f s).part = s.part := by
  unfold surveyRequest
  simp only [h_f, ite_part, ite_self]

@[simp] theorem surveyRequest_pending (idx : Nat) (sub : Nat) (f : State → State) (s : State) (h_f : ∀ (y0 : State),
    (f y0).pending = y0.pending) : (surveyRequest idx sub f s).pending = s.pending := by
  unfold surveyRequest
  simp only [h_f, ite_pending, ite_self]

@[simp] theorem surveyRequest_memGen (idx : Nat) (sub : Nat) (f : State → State) (s : State) (h_f : ∀ (y0 : State),
    (f y0).memGen = y0.memGen) : (surveyRequest idx sub f s).memGen = s.memGen := by
  unfold surveyRequest
  simp only [h_f, ite_memGen, ite_self]

@[simp] theorem surveyRequest_mem (idx : Nat) (sub : Nat) (f : State → State) (s : State) (h_f : ∀ (y0 : State),
    (f y0).mem = y0.mem) : (surveyRequest idx sub f s).mem = s.mem := by
  unfold surveyRequest
  simp only [h_f, ite_mem, ite_self]

@[simp] theorem windowRequest_kept (k : Nat) (op : Nat) (idx : Nat) (sub : Nat) (off : Nat) (len : Nat) (data : List Byte)
    (s : State) :
    (windowRequest k op idx sub off len data s).part = s.part ∧
    (windowRequest k op idx sub off len data s).pending = s.pending ∧
    (windowRequest k op idx sub off len data s).memGen = s.memGen ∧
    (windowRequest k op idx sub off len data s).mem = s.mem := by
  unfold windowRequest
  simp only [discard_kept, endRequest_kept, finalRequest_kept, readRequest_kept, segmentRequest_kept, ite_part, ite_pending,
      ite_memGen, ite_mem, ite_self, and_self]

@[simp] theorem windowTake_kept (q : ReqId) (k : Nat) (op : Nat) (idx : Nat) (sub : Nat) (off : Nat) (len : Nat)
    (data : List Byte) (s : State) :
    (windowTake q k op idx sub off len data s).part = s.part ∧
    (windowTake q k op idx sub off len data s).pending = s.pending ∧
    (windowTake q k op idx sub off len data s).memGen = s.memGen ∧
    (windowTake q k op idx sub off len data s).mem = s.mem := by
  unfold windowTake
  simp only [answerStatus_kept, windowRequest_kept, ite_part, ite_pending, ite_memGen, ite_mem, ite_self, and_self]

@[simp] theorem windowTakeLine_kept (q : ReqId) (k : Nat) (v : Nat) (s : State) :
    (windowTakeLine q k v s).part = s.part ∧ (windowTakeLine q k v s).pending = s.pending ∧
    (windowTakeLine q k v s).memGen = s.memGen ∧ (windowTakeLine q k v s).mem = s.mem := by
  unfold windowTakeLine
  simp only [windowTake_kept, and_self]

@[simp] theorem windowWrite_kept (q : ReqId) (k : Nat) (op : Nat) (idx : Nat) (sub : Nat) (off : Nat) (len : Nat)
    (data : List Byte) (s : State) :
    (windowWrite q k op idx sub off len data s).part = s.part ∧
    (windowWrite q k op idx sub off len data s).pending = s.pending ∧
    (windowWrite q k op idx sub off len data s).memGen = s.memGen ∧
    (windowWrite q k op idx sub off len data s).mem = s.mem := by
  unfold windowWrite
  simp only [State.draw_kept, windowTake_kept, windowTakeLine_kept, ite_part, ite_pending, ite_memGen, ite_mem, ite_self,
      and_self]

@[simp] theorem windowWriteLine_kept (q : ReqId) (k : Nat) (v : Nat) (s : State) :
    (windowWriteLine q k v s).part = s.part ∧ (windowWriteLine q k v s).pending = s.pending ∧
    (windowWriteLine q k v s).memGen = s.memGen ∧ (windowWriteLine q k v s).mem = s.mem := by
  unfold windowWriteLine
  simp only [State.draw_kept, windowTakeLine_kept, ite_part, ite_pending, ite_memGen, ite_mem, ite_self, and_self]

@[simp] theorem windowReadLine_kept (q : ReqId) (k : Nat) (s : State) :
    (windowReadLine q k s).part = s.part ∧ (windowReadLine q k s).pending = s.pending ∧
    (windowReadLine q k s).memGen = s.memGen ∧ (windowReadLine q k s).mem = s.mem := by
  unfold windowReadLine
  simp only [State.draw_kept, answer_kept, answerStatus_kept, ite_part, ite_pending, ite_memGen, ite_mem, ite_self, and_self]

@[simp] theorem usdoEnds_kept (s : State) :
    (usdoEnds s).part = s.part ∧ (usdoEnds s).pending = s.pending ∧ (usdoEnds s).memGen = s.memGen ∧
    (usdoEnds s).mem = s.mem := by
  unfold usdoEnds
  simp only [discard_kept, dropJobs_kept, and_self]

@[simp] theorem usdoAborted_kept (s : State) :
    (usdoAborted s).part = s.part ∧ (usdoAborted s).pending = s.pending ∧ (usdoAborted s).memGen = s.memGen ∧
    (usdoAborted s).mem = s.mem := by
  unfold usdoAborted
  simp only [usdoCounted_kept, usdoEnds_kept, and_self]

end Sys2Proof.Machine
end

