-- ==== Sys2Proof/Laws/NocKept.lean ====
section
/-! SUPPORT. What the functions of Machine/Noc.lean keep: the factory part, the queue, and memory where they do not write it. -/

namespace Sys2Proof.Machine

@[simp] theorem mapAnswers_kept (r : ReqId) (f : NocAnswer → NocAnswer) (s : State) :
    (mapAnswers r f s).part = s.part ∧ (mapAnswers r f s).pending = s.pending ∧ (mapAnswers r f s).memGen = s.memGen ∧
    (mapAnswers r f s).mem = s.mem := by
  unfold mapAnswers
  exact ⟨by with_reducible rfl, by with_reducible rfl, by with_reducible rfl, by with_reducible rfl⟩

@[simp] theorem correctFlit_kept (r : Nat) (f : Flit) (owner : Option ReqId) (s : State) :
    (correctFlit r f owner s).part = s.part ∧ (correctFlit r f owner s).pending = s.pending ∧
    (correctFlit r f owner s).memGen = s.memGen ∧ (correctFlit r f owner s).mem = s.mem := by
  unfold correctFlit
  (repeat' split) <;> simp only [mapAnswers_kept, raiseOnce_kept, and_self]

@[simp] theorem poisonFlit_kept (f : Flit) (owner : Option ReqId) (s : State) :
    (poisonFlit f owner s).part = s.part ∧ (poisonFlit f owner s).pending = s.pending ∧
    (poisonFlit f owner s).memGen = s.memGen ∧ (poisonFlit f owner s).mem = s.mem := by
  unfold poisonFlit
  (repeat' split) <;> simp only [mapAnswers_kept, raise_kept, and_self]

@[simp] theorem discardFlit_kept (p : Nat) (f : Flit) (owner : Option ReqId) (s : State) :
    (discardFlit p f owner s).part = s.part ∧ (discardFlit p f owner s).pending = s.pending ∧
    (discardFlit p f owner s).memGen = s.memGen ∧ (discardFlit p f owner s).mem = s.mem := by
  unfold discardFlit
  (repeat' split) <;> simp only [openTxn_kept, raise_kept, and_self]

@[simp] theorem requesterEnded_kept (t : Txn) (st : Status) (data : Line) (s : State) :
    (requesterEnded t st data s).part = s.part ∧ (requesterEnded t st data s).pending = s.pending ∧
    (requesterEnded t st data s).memGen = s.memGen := by
  unfold requesterEnded
  (repeat' split) <;> simp only [State.setGroup_kept, keeperEnded_kept, and_self]

@[simp] theorem endTxn_kept (r : ReqId) (st : Status) (data : Line) (s : State) :
    (endTxn r st data s).part = s.part ∧ (endTxn r st data s).pending = s.pending ∧
    (endTxn r st data s).memGen = s.memGen := by
  unfold endTxn
  (repeat' split) <;> simp only [closeTxn_kept, requesterEnded_kept, and_self]

@[simp] theorem lateResponse_kept (s : State) :
    (lateResponse s).part = s.part ∧ (lateResponse s).pending = s.pending ∧ (lateResponse s).memGen = s.memGen ∧
    (lateResponse s).mem = s.mem := by
  unfold lateResponse
  exact ⟨by with_reducible rfl, by with_reducible rfl, by with_reducible rfl, by with_reducible rfl⟩

@[simp] theorem respond_kept (r : ReqId) (st : Status) (data : Line) (s : State) :
    (respond r st data s).part = s.part ∧ (respond r st data s).pending = s.pending ∧
    (respond r st data s).memGen = s.memGen := by
  unfold respond
  simp only [endTxn_kept, lateResponse_kept, ite_part, ite_pending, ite_memGen, ite_self, and_self]

@[simp] theorem takeResponse_kept (req : ReqId) (outside : Option (Status × Line)) (s : State) :
    (takeResponse req outside s).part = s.part ∧ (takeResponse req outside s).pending = s.pending ∧
    (takeResponse req outside s).memGen = s.memGen := by
  unfold takeResponse
  (repeat' split) <;> simp only [respond_kept, and_self]

@[simp] theorem nocResponse_kept (req : ReqId) (outside : Option (Status × Line)) (s : State) :
    (nocResponse req outside s).part = s.part ∧ (nocResponse req outside s).pending = s.pending ∧
    (nocResponse req outside s).memGen = s.memGen := by
  unfold nocResponse
  simp only [lateResponse_kept, takeResponse_kept, ite_part, ite_pending, ite_memGen, ite_self, and_self]

@[simp] theorem execNocResponse_kept (req : ReqId) (outside : Option (Status × Line)) (s : State) :
    (after (execNocResponse req outside s) s).part = s.part ∧
    (after (execNocResponse req outside s) s).pending = s.pending ∧
    (after (execNocResponse req outside s) s).memGen = s.memGen := by
  unfold execNocResponse
  simp only [nocResponse_kept, and_self, after_done, settle_kept]

@[simp] theorem State.setMover_kept (s : State) (e : Nat) (x : MoveEngine) :
    (State.setMover s e x).part = s.part ∧ (State.setMover s e x).pending = s.pending ∧
    (State.setMover s e x).memGen = s.memGen ∧ (State.setMover s e x).mem = s.mem := by
  unfold State.setMover
  exact ⟨by with_reducible rfl, by with_reducible rfl, by with_reducible rfl, by with_reducible rfl⟩

@[simp] theorem moveAccept_kept (e : Nat) (d : Line) (s : State) :
    (moveAccept e d s).2.part = s.part ∧ (moveAccept e d s).2.pending = s.pending ∧ (moveAccept e d s).2.memGen = s.memGen ∧
    (moveAccept e d s).2.mem = s.mem := by
  unfold moveAccept
  simp only [State.setMover_kept, ite_part, ite_pending, ite_memGen, ite_mem, ite_self, ite_snd, and_self]

@[simp] theorem moveFromNoc_kept (e : Nat) (r : ReqId) (d : Line) (bad : Bool) (s : State) :
    (moveFromNoc e r d bad s).part = s.part ∧ (moveFromNoc e r d bad s).pending = s.pending ∧
    (moveFromNoc e r d bad s).memGen = s.memGen ∧ (moveFromNoc e r d bad s).mem = s.mem := by
  unfold moveFromNoc
  simp only [answerStatus_kept, moveAccept_kept, openTxn_kept, ite_part, ite_pending, ite_memGen, ite_mem, ite_self,
      and_self]

@[simp] theorem countCrc_kept (fails : Bool) (s : State) :
    (countCrc fails s).part = s.part ∧ (countCrc fails s).pending = s.pending ∧ (countCrc fails s).memGen = s.memGen ∧
    (countCrc fails s).mem = s.mem := by
  unfold countCrc
  simp only [raise_kept, ite_part, ite_pending, ite_memGen, ite_mem, ite_self, and_self]

@[simp] theorem storeLine_kept (f : Flit) (s : State) :
    (storeLine f s).part = s.part ∧ (storeLine f s).pending = s.pending ∧ (storeLine f s).memGen = s.memGen := by
  unfold storeLine
  simp only [State.writeNat_kept, and_self]

@[simp] theorem plainAccess_kept (q : ReqId) (f : Flit) (readOnly : Bool) (e : EccClass) (s : State) :
    (plainAccess q f readOnly e s).part = s.part ∧ (plainAccess q f readOnly e s).pending = s.pending ∧
    (plainAccess q f readOnly e s).memGen = s.memGen := by
  unfold plainAccess
  simp only [answer_kept, answerStatus_kept, storeWrite_kept, ite_part, ite_pending, ite_memGen, ite_self, and_self]

@[simp] theorem countStoreEcc_kept (k : Nat) (e : EccClass) (s : State) :
    (countStoreEcc k e s).part = s.part ∧ (countStoreEcc k e s).pending = s.pending ∧
    (countStoreEcc k e s).memGen = s.memGen ∧ (countStoreEcc k e s).mem = s.mem := by
  unfold countStoreEcc
  simp only [State.setKeeper_kept, ite_part, ite_pending, ite_memGen, ite_mem, ite_self, and_self]

@[simp] theorem countPoolEcc_kept (e : EccClass) (s : State) :
    (countPoolEcc e s).part = s.part ∧ (countPoolEcc e s).pending = s.pending ∧ (countPoolEcc e s).memGen = s.memGen ∧
    (countPoolEcc e s).mem = s.mem := by
  unfold countPoolEcc
  simp only [State.draw_kept, countStoreEcc_kept, ite_part, ite_pending, ite_memGen, ite_mem, ite_self, and_self]

@[simp] theorem windowDeliver_kept (q : ReqId) (k : Nat) (line : Nat) (f : Flit) (s : State) :
    (windowDeliver q k line f s).part = s.part ∧ (windowDeliver q k line f s).pending = s.pending ∧
    (windowDeliver q k line f s).memGen = s.memGen ∧ (windowDeliver q k line f s).mem = s.mem := by
  unfold windowDeliver
  simp only [answerStatus_kept, windowReadLine_kept, windowWriteLine_kept, ite_part, ite_pending, ite_memGen, ite_mem,
      ite_self, and_self]

@[simp] theorem performEntry_part (count : EccClass → State → State) (x : Entering) (s : State)
    (h_count : ∀ (y0 : EccClass) (y1 : State), (count y0 y1).part = y1.part) : (performEntry count x s).part = s.part := by
  unfold performEntry
  (repeat' split) <;> simp only [patternAccess_kept, patternScheduled_kept, plainAccess_kept, storeLine_kept, windowDeliver_kept, h_count]

@[simp] theorem performEntry_pending (count : EccClass → State → State) (x : Entering) (s : State)
    (h_count : ∀ (y0 : EccClass) (y1 : State),
    (count y0 y1).pending = y1.pending) : (performEntry count x s).pending = s.pending := by
  unfold performEntry
  (repeat' split) <;> simp only [patternAccess_kept, patternScheduled_kept, plainAccess_kept, storeLine_kept, windowDeliver_kept, h_count]

@[simp] theorem performEntry_memGen (count : EccClass → State → State) (x : Entering) (s : State)
    (h_count : ∀ (y0 : EccClass) (y1 : State),
    (count y0 y1).memGen = y1.memGen) : (performEntry count x s).memGen = s.memGen := by
  unfold performEntry
  (repeat' split) <;> simp only [patternAccess_kept, patternScheduled_kept, plainAccess_kept, storeLine_kept, windowDeliver_kept, h_count]

@[simp] theorem openEntry_kept (x : Entering) (s : State) :
    (openEntry x s).part = s.part ∧ (openEntry x s).pending = s.pending ∧ (openEntry x s).memGen = s.memGen ∧
    (openEntry x s).mem = s.mem := by
  unfold openEntry
  (repeat' split) <;> simp only [openTxn_kept, and_self]

@[simp] theorem enterTarget_kept (x : Entering) (s : State) :
    (enterTarget x s).part = s.part ∧ (enterTarget x s).pending = s.pending ∧ (enterTarget x s).memGen = s.memGen := by
  unfold enterTarget
  simp only [countPoolEcc_kept, openEntry_kept, performEntry_part, performEntry_pending, performEntry_memGen, ite_part,
      ite_pending, ite_memGen, ite_self, and_self, implies_true]

@[simp] theorem poolStep_kept (cycle : Nat) (s : State) :
    (poolStep cycle s).part = s.part ∧ (poolStep cycle s).pending = s.pending ∧ (poolStep cycle s).memGen = s.memGen := by
  unfold poolStep
  (repeat' split) <;> simp only [countStoreEcc_kept, performEntry_part, performEntry_pending, performEntry_memGen, and_self, implies_true]

@[simp] theorem targetStep_kept (cycle : Nat) (s : State) :
    (targetStep cycle s).part = s.part ∧ (targetStep cycle s).pending = s.pending ∧
    (targetStep cycle s).memGen = s.memGen := by
  unfold targetStep
  simp only [countPoolEcc_kept, performEntry_part, performEntry_pending, performEntry_memGen, poolStep_kept, foldl_part,
      foldl_pending, foldl_memGen, and_self, implies_true]

@[simp] theorem patternRequest_kept (req : ReqId) (addr : Nat) (legal : Bool) (data : Option Nat) (s : State) :
    (patternRequest req addr legal data s).part = s.part ∧ (patternRequest req addr legal data s).pending = s.pending ∧
    (patternRequest req addr legal data s).memGen = s.memGen := by
  unfold patternRequest
  simp only [enterTarget_kept, and_self]

@[simp] theorem execPatternLineRead_kept (req : ReqId) (addr : BitVec 48) (size : Nat) (s : State) :
    (after (execPatternLineRead req addr size s) s).part = s.part ∧
    (after (execPatternLineRead req addr size s) s).pending = s.pending ∧
    (after (execPatternLineRead req addr size s) s).memGen = s.memGen := by
  unfold execPatternLineRead
  simp only [patternRequest_kept, and_self, after_done, settle_kept]

@[simp] theorem execPatternLineWrite_kept (req : ReqId) (addr : BitVec 48) (data : List Byte) (s : State) :
    (after (execPatternLineWrite req addr data s) s).part = s.part ∧
    (after (execPatternLineWrite req addr data s) s).pending = s.pending ∧
    (after (execPatternLineWrite req addr data s) s).memGen = s.memGen := by
  unfold execPatternLineWrite
  simp only [patternRequest_kept, and_self, after_done, settle_kept]

@[simp] theorem deliverScheduled_kept (f : Flit) (s : State) :
    (deliverScheduled f s).part = s.part ∧ (deliverScheduled f s).pending = s.pending ∧
    (deliverScheduled f s).memGen = s.memGen := by
  unfold deliverScheduled
  (repeat' split) <;> simp only [bufferFlit_kept, countCrc_kept, enterTarget_kept, holdAccess_kept, storeLine_kept, and_self]

@[simp] theorem toCarriage_kept (q : ReqId) (w : Nat) (f : Flit) (s : State) :
    (toCarriage q w f s).part = s.part ∧ (toCarriage q w f s).pending = s.pending ∧ (toCarriage q w f s).memGen = s.memGen ∧
    (toCarriage q w f s).mem = s.mem := by
  unfold toCarriage
  (repeat' split) <;> simp only [State.setGroup_kept, answerStatus_kept, and_self]

@[simp] theorem deliverRequest_kept (q : ReqId) (f : Flit) (e : EccClass) (s : State) :
    (deliverRequest q f e s).part = s.part ∧ (deliverRequest q f e s).pending = s.pending ∧
    (deliverRequest q f e s).memGen = s.memGen := by
  unfold deliverRequest
  (repeat' split) <;> simp only [answer_kept, answerStatus_kept, countCrc_kept, countStoreEcc_kept, dramRequest_kept, enterTarget_kept, holdAccess_kept, moveFromNoc_kept, patternAccess_kept, plainAccess_kept, toCarriage_kept, and_self]

@[simp] theorem deliver_kept (f : Flit) (stale : Bool) (e : EccClass) (s : State) :
    (deliver f stale e s).part = s.part ∧ (deliver f stale e s).pending = s.pending ∧
    (deliver f stale e s).memGen = s.memGen := by
  unfold deliver
  (repeat' split) <;> simp only [deliverRequest_kept, deliverScheduled_kept, lateResponse_kept, takeResponse_kept, and_self]

@[simp] theorem sendOut_kept (r : Nat) (p : Nat) (out : Nat) (cycle : Nat) (f : Flit) (e : EccClass) (stale : Bool)
    (s : State) :
    (sendOut r p out cycle f e stale s).part = s.part ∧ (sendOut r p out cycle f e stale s).pending = s.pending ∧
    (sendOut r p out cycle f e stale s).memGen = s.memGen := by
  unfold sendOut
  simp only [deliver_kept, ite_part, ite_pending, ite_memGen, ite_self, and_self]

@[simp] theorem slotMiss_kept (r : Nat) (out : Nat) (j : Nat) (s : State) :
    (slotMiss r out j s).part = s.part ∧ (slotMiss r out j s).pending = s.pending ∧ (slotMiss r out j s).memGen = s.memGen ∧
    (slotMiss r out j s).mem = s.mem := by
  unfold slotMiss
  simp only [raiseOnce_kept, and_self]

@[simp] theorem noteGrant_kept (r : Nat) (out : Nat) (cycle : Nat) (s : State) :
    (noteGrant r out cycle s).part = s.part ∧ (noteGrant r out cycle s).pending = s.pending ∧
    (noteGrant r out cycle s).memGen = s.memGen ∧ (noteGrant r out cycle s).mem = s.mem := by
  unfold noteGrant
  simp only [ite_part, ite_pending, ite_memGen, ite_mem, ite_self, and_self]

@[simp] theorem grantOutput_kept (r : Nat) (out : Nat) (cycle : Nat) (s : State) :
    (grantOutput r out cycle s).part = s.part ∧ (grantOutput r out cycle s).pending = s.pending ∧
    (grantOutput r out cycle s).memGen = s.memGen := by
  unfold grantOutput
  (repeat' split) <;> simp only [noteGrant_kept, sendOut_kept, and_self]

@[simp] theorem bestEffort_kept (r : Nat) (p : Nat) (out : Nat) (j : Nat) (f : Flit) (e : EccClass) (stale : Bool)
    (s : State) :
    (bestEffort r p out j f e stale s).part = s.part ∧ (bestEffort r p out j f e stale s).pending = s.pending ∧
    (bestEffort r p out j f e stale s).memGen = s.memGen := by
  unfold bestEffort
  simp only [grantOutput_kept, ite_part, ite_pending, ite_memGen, ite_self, and_self]

@[simp] theorem scheduled_kept (r : Nat) (p : Nat) (out : Nat) (j : Nat) (f : Flit) (e : EccClass) (s : State) :
    (scheduled r p out j f e s).part = s.part ∧ (scheduled r p out j f e s).pending = s.pending ∧
    (scheduled r p out j f e s).memGen = s.memGen := by
  unfold scheduled
  simp only [bestEffort_kept, noteGrant_kept, sendOut_kept, slotMiss_kept, ite_part, ite_pending, ite_memGen, ite_self,
      and_self]

@[simp] theorem routeFlit_kept (r : Nat) (p : Nat) (j : Nat) (f : Flit) (e : EccClass) (stale : Bool) (s : State) :
    (routeFlit r p j f e stale s).part = s.part ∧ (routeFlit r p j f e stale s).pending = s.pending ∧
    (routeFlit r p j f e stale s).memGen = s.memGen := by
  unfold routeFlit
  simp only [bestEffort_kept, scheduled_kept, ite_part, ite_pending, ite_memGen, ite_self, and_self]

@[simp] theorem enterMesh_kept (r : Nat) (p : Nat) (j : Nat) (f : Flit) (e : EccClass) (s : State) :
    (enterMesh r p j f e s).part = s.part ∧ (enterMesh r p j f e s).pending = s.pending ∧
    (enterMesh r p j f e s).memGen = s.memGen := by
  unfold enterMesh
  (repeat' split) <;> simp only [answerStatus_kept, openTxn_kept, patternAccess_kept, routeFlit_kept, ite_part, ite_pending, ite_memGen, ite_self, and_self]

@[simp] theorem enterResponse_kept (r : Nat) (p : Nat) (j : Nat) (f : Flit) (e : EccClass) (s : State) :
    (enterResponse r p j f e s).part = s.part ∧ (enterResponse r p j f e s).pending = s.pending ∧
    (enterResponse r p j f e s).memGen = s.memGen := by
  unfold enterResponse
  (repeat' split) <;> simp only [routeFlit_kept, and_self]

@[simp] theorem acceptFlit_kept (r : Nat) (p : Nat) (j : Nat) (f : Flit) (e : EccClass) (stale : Bool) (s : State) :
    (acceptFlit r p j f e stale s).part = s.part ∧ (acceptFlit r p j f e stale s).pending = s.pending ∧
    (acceptFlit r p j f e stale s).memGen = s.memGen := by
  unfold acceptFlit
  simp only [enterMesh_kept, enterResponse_kept, raise_kept, routeFlit_kept, ite_part, ite_pending, ite_memGen, ite_self,
      and_self]

@[simp] theorem checkFlit_kept (r : Nat) (p : Nat) (err : FlitErr) (f : Flit) (owner : Option ReqId) (s : State) :
    (checkFlit r p err f owner s).2.part = s.part ∧ (checkFlit r p err f owner s).2.pending = s.pending ∧
    (checkFlit r p err f owner s).2.memGen = s.memGen ∧ (checkFlit r p err f owner s).2.mem = s.mem := by
  unfold checkFlit
  (repeat' split) <;> simp only [correctFlit_kept, discardFlit_kept, poisonFlit_kept, and_self]

@[simp] theorem flightChecked_kept (x : RouterFlit) (j : Nat) (err : FlitErr) (target : EccClass) (s : State) :
    (flightChecked x j err target s).part = s.part ∧ (flightChecked x j err target s).pending = s.pending ∧
    (flightChecked x j err target s).memGen = s.memGen := by
  unfold flightChecked
  (repeat' (first | (simp only [acceptFlit_kept, checkFlit_kept, and_self]; done) | split | simp only [checkFlit_kept]))

@[simp] theorem execRouterFlitIn_kept (router : Fin 64) (port : Fin 16) (flit : Flit) (slot : Fin 64) (err : FlitErr)
    (target : EccClass) (s : State) :
    (after (execRouterFlitIn router port flit slot err target s) s).part = s.part ∧
    (after (execRouterFlitIn router port flit slot err target s) s).pending = s.pending ∧
    (after (execRouterFlitIn router port flit slot err target s) s).memGen = s.memGen := by
  unfold execRouterFlitIn
  have h := checkFlit_kept router.val port.val err flit flit.req s
  revert h
  dsimp only
  cases checkFlit router.val port.val err flit flit.req s with
  | mk a t =>
    intro h
    dsimp only at h ⊢
    (repeat' split) <;> simp only [after_done, settle_kept, flightChecked_kept, acceptFlit_kept, h, and_self]

@[simp] theorem flightEnds_kept (cycle : Nat) (x : RouterFlit) (s : State) :
    (flightEnds cycle x s).part = s.part ∧ (flightEnds cycle x s).pending = s.pending ∧
    (flightEnds cycle x s).memGen = s.memGen := by
  unfold flightEnds
  simp only [acceptFlit_kept, deliver_kept, ite_part, ite_pending, ite_memGen, ite_self, and_self]

@[simp] theorem flightsStep_kept (cycle : Nat) (s : State) :
    (flightsStep cycle s).part = s.part ∧ (flightsStep cycle s).pending = s.pending ∧
    (flightsStep cycle s).memGen = s.memGen := by
  unfold flightsStep
  simp only [flightEnds_kept, foldl_part, foldl_pending, foldl_memGen, and_self, implies_true]

@[simp] theorem crossingsStep_kept (s : State) :
    (crossingsStep s).part = s.part ∧ (crossingsStep s).pending = s.pending ∧ (crossingsStep s).memGen = s.memGen ∧
    (crossingsStep s).mem = s.mem := by
  unfold crossingsStep
  simp only [ite_part, ite_pending, ite_memGen, ite_mem, ite_self, and_self]

@[simp] theorem nocGrants_kept (cycle : Nat) (s0 : State) :
    (nocGrants cycle s0).part = s0.part ∧ (nocGrants cycle s0).pending = s0.pending ∧
    (nocGrants cycle s0).memGen = s0.memGen := by
  unfold nocGrants
  simp only [crossingsStep_kept, flightsStep_kept, grantOutput_kept, targetStep_kept, ite_part, ite_pending, ite_memGen,
      foldl_part, foldl_pending, foldl_memGen, ite_self, and_self, implies_true]

@[simp] theorem forgetTxn_kept (r : ReqId) (s : State) :
    (forgetTxn r s).part = s.part ∧ (forgetTxn r s).pending = s.pending ∧ (forgetTxn r s).memGen = s.memGen ∧
    (forgetTxn r s).mem = s.mem := by
  unfold forgetTxn
  exact ⟨by with_reducible rfl, by with_reducible rfl, by with_reducible rfl, by with_reducible rfl⟩

@[simp] theorem endEarly_kept (r : ReqId) (st : Status) (s : State) :
    (endEarly r st s).part = s.part ∧ (endEarly r st s).pending = s.pending ∧ (endEarly r st s).memGen = s.memGen := by
  unfold endEarly
  simp only [endTxn_kept, forgetTxn_kept, and_self]

@[simp] theorem execNocTimeout_kept (req : ReqId) (s : State) :
    (after (execNocTimeout req s) s).part = s.part ∧ (after (execNocTimeout req s) s).pending = s.pending ∧
    (after (execNocTimeout req s) s).memGen = s.memGen := by
  unfold execNocTimeout
  simp only [endEarly_kept, raise_kept, ite_part, ite_pending, ite_memGen, ite_self, and_self, after_ite, after_done,
      settle_kept]

end Sys2Proof.Machine
end

