-- ==== Sys2Proof/Laws/ResetCoreKept.lean ====
section
/-! SUPPORT. What the functions of Machine/ResetCore.lean keep: the factory part, the queue, and memory where they do not write it. -/

namespace Sys2Proof.Machine

@[simp] theorem milestone_kept (i : Nat) (s : State) :
    (milestone i s).part = s.part ∧ (milestone i s).pending = s.pending ∧ (milestone i s).memGen = s.memGen ∧
    (milestone i s).mem = s.mem := by
  unfold milestone
  exact ⟨by with_reducible rfl, by with_reducible rfl, by with_reducible rfl, by with_reducible rfl⟩

@[simp] theorem optionLoad_kept (s : State) :
    (optionLoad s).part = s.part ∧ (optionLoad s).pending = s.pending ∧ (optionLoad s).memGen = s.memGen ∧
    (optionLoad s).mem = s.mem := by
  unfold optionLoad
  simp only [raiseIf_kept, and_self]

@[simp] theorem canOptions_kept (s : State) :
    (canOptions s).part = s.part ∧ (canOptions s).pending = s.pending ∧ (canOptions s).memGen = s.memGen ∧
    (canOptions s).mem = s.mem := by
  unfold canOptions
  simp only [raise_kept, ite_part, ite_pending, ite_memGen, ite_mem, ite_self, and_self]

@[simp] theorem otpLoad_kept (s : State) :
    (otpLoad s).part = s.part ∧ (otpLoad s).pending = s.pending ∧ (otpLoad s).memGen = s.memGen ∧
    (otpLoad s).mem = s.mem := by
  unfold otpLoad
  exact ⟨by with_reducible rfl, by with_reducible rfl, by with_reducible rfl, by with_reducible rfl⟩

@[simp] theorem resolveRole_kept (high : Bool) (s : State) :
    (resolveRole high s).part = s.part ∧ (resolveRole high s).pending = s.pending ∧ (resolveRole high s).memGen = s.memGen ∧
    (resolveRole high s).mem = s.mem := by
  unfold resolveRole
  exact ⟨by with_reducible rfl, by with_reducible rfl, by with_reducible rfl, by with_reducible rfl⟩

@[simp] theorem autostartDefault_kept (s : State) :
    (autostartDefault s).part = s.part ∧ (autostartDefault s).pending = s.pending ∧ (autostartDefault s).memGen = s.memGen ∧
    (autostartDefault s).mem = s.mem := by
  unfold autostartDefault
  simp only [State.setObj_kept, and_self]

@[simp] theorem logReset_kept (cause : Nat) (warm : Bool) (multi : Bool) (path : Nat) (s : State) :
    (logReset cause warm multi path s).part = s.part ∧ (logReset cause warm multi path s).pending = s.pending ∧
    (logReset cause warm multi path s).memGen = s.memGen ∧ (logReset cause warm multi path s).mem = s.mem := by
  unfold logReset
  exact ⟨by with_reducible rfl, by with_reducible rfl, by with_reducible rfl, by with_reducible rfl⟩

@[simp] theorem loseBackup_kept (s : State) :
    (loseBackup s).part = s.part ∧ (loseBackup s).pending = s.pending ∧ (loseBackup s).memGen = s.memGen ∧
    (loseBackup s).mem = s.mem := by
  unfold loseBackup
  exact ⟨by with_reducible rfl, by with_reducible rfl, by with_reducible rfl, by with_reducible rfl⟩

@[simp] theorem lifeCheck_kept (s : State) :
    (lifeCheck s).part = s.part ∧ (lifeCheck s).pending = s.pending ∧ (lifeCheck s).memGen = s.memGen ∧
    (lifeCheck s).mem = s.mem := by
  unfold lifeCheck
  exact ⟨by with_reducible rfl, by with_reducible rfl, by with_reducible rfl, by with_reducible rfl⟩

@[simp] theorem fenceWorkers_kept (s : State) :
    (fenceWorkers s).part = s.part ∧ (fenceWorkers s).pending = s.pending ∧ (fenceWorkers s).memGen = s.memGen ∧
    (fenceWorkers s).mem = s.mem := by
  unfold fenceWorkers
  simp only [deviceFenceOn_kept, ite_part, ite_pending, ite_memGen, ite_mem, foldl_part, foldl_pending, foldl_memGen,
      foldl_mem, ite_self, and_self, implies_true]

@[simp] theorem coldBase_kept (s : State) :
    (coldBase s).part = s.part ∧ (coldBase s).pending = s.pending := by
  unfold coldBase
  exact ⟨by with_reducible rfl, by with_reducible rfl⟩

@[simp] theorem freshNonce_kept (s : State) :
    (freshNonce s).part = s.part ∧ (freshNonce s).pending = s.pending ∧ (freshNonce s).memGen = s.memGen ∧
    (freshNonce s).mem = s.mem := by
  unfold freshNonce
  simp only [State.draw_kept, alarm_kept, ite_part, ite_pending, ite_memGen, ite_mem, ite_self, and_self]

@[simp] theorem testEntropy_kept (s : State) :
    (testEntropy s).part = s.part ∧ (testEntropy s).pending = s.pending ∧ (testEntropy s).memGen = s.memGen ∧
    (testEntropy s).mem = s.mem := by
  unfold testEntropy
  simp only [State.draw_kept, alarm_kept, ite_part, ite_pending, ite_memGen, ite_mem, ite_self, and_self]

@[simp] theorem coldLoad_kept (roleHigh : Bool) (lost : Bool) (s : State) :
    (coldLoad roleHigh lost s).part = s.part ∧ (coldLoad roleHigh lost s).pending = s.pending ∧
    (coldLoad roleHigh lost s).memGen = s.memGen ∧ (coldLoad roleHigh lost s).mem = s.mem := by
  unfold coldLoad
  simp only [State.setObj_kept, autostartDefault_kept, canOptions_kept, freshNonce_kept, lifeCheck_kept, milestone_kept,
      optionLoad_kept, otpLoad_kept, raiseIf_kept, resolveRole_kept, testEntropy_kept, ite_part, ite_pending, ite_memGen,
      ite_mem, ite_self, and_self]

@[simp] theorem holdReset_kept (lost : Bool) (s : State) :
    (holdReset lost s).part = s.part ∧ (holdReset lost s).pending = s.pending := by
  unfold holdReset
  simp only [coldBase_kept, and_self]

@[simp] theorem coldReset_kept (cause : Nat) (multi : Bool) (role : Bool) (path : Nat) (s : State) :
    (coldReset cause multi role path s).part = s.part ∧ (coldReset cause multi role path s).pending = s.pending := by
  unfold coldReset
  simp only [coldBase_kept, coldLoad_kept, holdReset_kept, logReset_kept, ite_part, ite_pending, ite_self, and_self]

@[simp] theorem settleArchive_kept (s : State) :
    (settleArchive s).part = s.part ∧ (settleArchive s).pending = s.pending ∧ (settleArchive s).memGen = s.memGen ∧
    (settleArchive s).mem = s.mem := by
  unfold settleArchive
  refine ⟨?_, ?_, ?_, ?_⟩
  · refine (foldl_part _ _ _ fun t i => ?_).trans (foldl_part _ _ _ fun t c => ?_)
    · split <;> simp only [stopStream_kept]
    · split
      · exact iterate_keeps State.part _ _ _ fun n u => by simp only [commitFlit_kept]
      · rfl
  · refine (foldl_pending _ _ _ fun t i => ?_).trans (foldl_pending _ _ _ fun t c => ?_)
    · split <;> simp only [stopStream_kept]
    · split
      · exact iterate_keeps State.pending _ _ _ fun n u => by simp only [commitFlit_kept]
      · rfl
  · refine (foldl_memGen _ _ _ fun t i => ?_).trans (foldl_memGen _ _ _ fun t c => ?_)
    · split <;> simp only [stopStream_kept]
    · split
      · exact iterate_keeps State.memGen _ _ _ fun n u => by simp only [commitFlit_kept]
      · rfl
  · refine (foldl_mem _ _ _ fun t i => ?_).trans (foldl_mem _ _ _ fun t c => ?_)
    · split <;> simp only [stopStream_kept]
    · split
      · exact iterate_keeps State.mem _ _ _ fun n u => by simp only [commitFlit_kept]
      · rfl

@[simp] theorem warmBase_kept (s : State) :
    (warmBase s).part = s.part ∧ (warmBase s).pending = s.pending := by
  unfold warmBase
  exact ⟨by with_reducible rfl, by with_reducible rfl⟩

@[simp] theorem warmReset_kept (cause : Nat) (multi : Bool) (path : Nat) (s : State) :
    (warmReset cause multi path s).part = s.part ∧ (warmReset cause multi path s).pending = s.pending := by
  unfold warmReset
  simp only [State.setObj_kept, autostartDefault_kept, fenceWorkers_kept, logReset_kept, settleArchive_kept,
      updateFrozen_kept, warmBase_kept, ite_part, ite_pending, ite_self, and_self]

@[simp] theorem resetSource_kept (cause : Nat) (warm : Bool) (multi : Bool) (role : Bool) (path : Nat) (s : State) :
    (resetSource cause warm multi role path s).part = s.part ∧
    (resetSource cause warm multi role path s).pending = s.pending := by
  unfold resetSource
  simp only [coldReset_kept, raise_kept, warmReset_kept, ite_part, ite_pending, ite_self, and_self]

end Sys2Proof.Machine
end

