-- ==== Sys2Proof/Laws/LaneCoreKept.lean ====
section
/-! SUPPORT. What the functions of Machine/LaneCore.lean keep: the factory part, the queue, and memory where they do not write it. -/

namespace Sys2Proof.Machine

@[simp] theorem State.setLane_kept (s : State) (i : Nat) (x : Lane) :
    (State.setLane s i x).part = s.part ∧ (State.setLane s i x).pending = s.pending ∧
    (State.setLane s i x).memGen = s.memGen ∧ (State.setLane s i x).mem = s.mem := by
  unfold State.setLane
  exact ⟨by with_reducible rfl, by with_reducible rfl, by with_reducible rfl, by with_reducible rfl⟩

@[simp] theorem groupCause_kept (g : Nat) (bits : Nat) (s : State) :
    (groupCause g bits s).part = s.part ∧ (groupCause g bits s).pending = s.pending ∧
    (groupCause g bits s).memGen = s.memGen ∧ (groupCause g bits s).mem = s.mem := by
  unfold groupCause
  simp only [State.setGroup_kept, and_self]

@[simp] theorem laneClaimRefuse_kept (g : Nat) (refused : Nat) (s : State) :
    (laneClaimRefuse g refused s).part = s.part ∧ (laneClaimRefuse g refused s).pending = s.pending ∧
    (laneClaimRefuse g refused s).memGen = s.memGen ∧ (laneClaimRefuse g refused s).mem = s.mem := by
  unfold laneClaimRefuse
  simp only [State.setGroup_kept, raise_kept, and_self]

@[simp] theorem endScan_kept (g : Nat) (st : Nat) (s : State) :
    (endScan g st s).part = s.part ∧ (endScan g st s).pending = s.pending ∧ (endScan g st s).memGen = s.memGen ∧
    (endScan g st s).mem = s.mem := by
  unfold endScan
  simp only [State.setGroup_kept, raise_kept, and_self]

@[simp] theorem abortScan_kept (g : Nat) (s : State) :
    (abortScan g s).part = s.part ∧ (abortScan g s).pending = s.pending ∧ (abortScan g s).memGen = s.memGen ∧
    (abortScan g s).mem = s.mem := by
  unfold abortScan
  simp only [endScan_kept, ite_part, ite_pending, ite_memGen, ite_mem, ite_self, and_self]

@[simp] theorem rxEvent_kept (g : Nat) (r : Rx) (s : State) :
    (rxEvent g r s).part = s.part ∧ (rxEvent g r s).pending = s.pending ∧ (rxEvent g r s).memGen = s.memGen ∧
    (rxEvent g r s).mem = s.mem := by
  unfold rxEvent
  (repeat' split) <;> simp only [raise_kept, and_self]

@[simp] theorem enterRx_kept (g : Nat) (r : Rx) (s : State) :
    (enterRx g r s).part = s.part ∧ (enterRx g r s).pending = s.pending ∧ (enterRx g r s).memGen = s.memGen ∧
    (enterRx g r s).mem = s.mem := by
  unfold enterRx
  simp only [State.setGroup_kept, abortScan_kept, rxEvent_kept, ite_part, ite_pending, ite_memGen, ite_mem, ite_self,
      and_self]

@[simp] theorem clearLanes_kept (g : Nat) (s : State) :
    (clearLanes g s).part = s.part ∧ (clearLanes g s).pending = s.pending ∧ (clearLanes g s).memGen = s.memGen ∧
    (clearLanes g s).mem = s.mem := by
  unfold clearLanes
  simp only [State.setLane_kept, foldl_part, foldl_pending, foldl_memGen, foldl_mem, and_self, implies_true]

@[simp] theorem toClock_kept (g : Nat) (adapt : Bool) (s : State) :
    (toClock g adapt s).part = s.part ∧ (toClock g adapt s).pending = s.pending ∧ (toClock g adapt s).memGen = s.memGen ∧
    (toClock g adapt s).mem = s.mem := by
  unfold toClock
  simp only [State.setGroup_kept, clearLanes_kept, enterRx_kept, laneClaimRefuse_kept, ite_part, ite_pending, ite_memGen,
      ite_mem, ite_self, and_self]

@[simp] theorem toDeep_kept (g : Nat) (s : State) :
    (toDeep g s).part = s.part ∧ (toDeep g s).pending = s.pending ∧ (toDeep g s).memGen = s.memGen ∧
    (toDeep g s).mem = s.mem := by
  unfold toDeep
  simp only [State.setGroup_kept, enterRx_kept, ite_part, ite_pending, ite_memGen, ite_mem, ite_self, and_self]

@[simp] theorem freeAdaptation_kept (g : Nat) (s : State) :
    (freeAdaptation g s).part = s.part ∧ (freeAdaptation g s).pending = s.pending ∧ (freeAdaptation g s).memGen = s.memGen ∧
    (freeAdaptation g s).mem = s.mem := by
  unfold freeAdaptation
  simp only [State.setGroup_kept, ite_part, ite_pending, ite_memGen, ite_mem, ite_self, and_self]

@[simp] theorem trainFail_kept (g : Nat) (s : State) :
    (trainFail g s).part = s.part ∧ (trainFail g s).pending = s.pending ∧ (trainFail g s).memGen = s.memGen ∧
    (trainFail g s).mem = s.mem := by
  unfold trainFail
  simp only [enterRx_kept, freeAdaptation_kept, groupCause_kept, and_self]

@[simp] theorem endWindows_kept (w : Nat) (s : State) :
    (endWindows w s).part = s.part ∧ (endWindows w s).pending = s.pending ∧ (endWindows w s).memGen = s.memGen := by
  unfold endWindows
  simp only [State.setGroup_kept, endEarly_kept, foldl_part, foldl_pending, foldl_memGen, and_self, implies_true]

@[simp] theorem relayAbortWith_kept (w : Nat) (code : Nat) (s : State) :
    (relayAbortWith w code s).part = s.part ∧ (relayAbortWith w code s).pending = s.pending ∧
    (relayAbortWith w code s).memGen = s.memGen ∧ (relayAbortWith w code s).mem = s.mem := by
  unfold relayAbortWith
  (repeat' (first | (simp only [State.setWorker_kept, answered_kept, endRelayWait_kept, raise_kept, and_self]; done) | split | simp only []))

@[simp] theorem workerDark_kept (w : Nat) (s : State) :
    (workerDark w s).part = s.part ∧ (workerDark w s).pending = s.pending ∧ (workerDark w s).memGen = s.memGen := by
  unfold workerDark
  simp only [State.setWorker_kept, deviceFenceOn_kept, emcyPush_kept, endWindows_kept, raise_kept, relayAbortWith_kept,
      ite_part, ite_pending, ite_memGen, ite_self, and_self]

@[simp] theorem managerLost_kept (w : Nat) (left : Bool) (s : State) :
    (managerLost w left s).part = s.part ∧ (managerLost w left s).pending = s.pending ∧
    (managerLost w left s).memGen = s.memGen := by
  unfold managerLost
  (repeat' (first | (simp only [State.setWorker_kept, raise_kept, workerDark_kept, and_self]; done) | split | simp only []))

@[simp] theorem workerLost_kept (left : Bool) (s : State) :
    (workerLost left s).part = s.part ∧ (workerLost left s).pending = s.pending ∧ (workerLost left s).memGen = s.memGen ∧
    (workerLost left s).mem = s.mem := by
  unfold workerLost
  simp only [raise_kept, raiseIf_kept, updateFrozen_kept, ite_part, ite_pending, ite_memGen, ite_mem, ite_self, and_self]

@[simp] theorem linkLost_kept (g : Nat) (s : State) :
    (linkLost g s).part = s.part ∧ (linkLost g s).pending = s.pending ∧ (linkLost g s).memGen = s.memGen := by
  unfold linkLost
  simp only [State.setGroup_kept, managerLost_kept, workerLost_kept, ite_part, ite_pending, ite_memGen, ite_self, and_self]

@[simp] theorem toLost_kept (g : Nat) (cause : Nat) (s : State) :
    (toLost g cause s).part = s.part ∧ (toLost g cause s).pending = s.pending ∧ (toLost g cause s).memGen = s.memGen := by
  unfold toLost
  simp only [enterRx_kept, groupCause_kept, linkLost_kept, and_self]

@[simp] theorem workerLive_kept (w : Nat) (s : State) :
    (workerLive w s).part = s.part ∧ (workerLive w s).pending = s.pending ∧ (workerLive w s).memGen = s.memGen ∧
    (workerLive w s).mem = s.mem := by
  unfold workerLive
  simp only [State.setWorker_kept, deviceFenceOff_kept, errorReset_kept, raise_kept, and_self]

@[simp] theorem managerUp_kept (w : Nat) (serial : Nat) (back : Bool) (s : State) :
    (managerUp w serial back s).part = s.part ∧ (managerUp w serial back s).pending = s.pending ∧
    (managerUp w serial back s).memGen = s.memGen ∧ (managerUp w serial back s).mem = s.mem := by
  unfold managerUp
  (repeat' (first | (simp only [State.setWorker_kept, raise_kept, and_self]; done) | split | simp only []))

@[simp] theorem workerUp_kept (wnum : Nat) (s : State) :
    (workerUp wnum s).part = s.part ∧ (workerUp wnum s).pending = s.pending ∧ (workerUp wnum s).memGen = s.memGen ∧
    (workerUp wnum s).mem = s.mem := by
  unfold workerUp
  exact ⟨by with_reducible rfl, by with_reducible rfl, by with_reducible rfl, by with_reducible rfl⟩

@[simp] theorem linkUp_kept (g : Nat) (wnum : Nat) (serial : Nat) (s : State) :
    (linkUp g wnum serial s).part = s.part ∧ (linkUp g wnum serial s).pending = s.pending ∧
    (linkUp g wnum serial s).memGen = s.memGen ∧ (linkUp g wnum serial s).mem = s.mem := by
  unfold linkUp
  simp only [State.setGroup_kept, managerUp_kept, workerUp_kept, ite_part, ite_pending, ite_memGen, ite_mem, ite_self,
      and_self]

@[simp] theorem toUp_kept (g : Nat) (s : State) :
    (toUp g s).part = s.part ∧ (toUp g s).pending = s.pending ∧ (toUp g s).memGen = s.memGen ∧ (toUp g s).mem = s.mem := by
  unfold toUp
  simp only [State.setGroup_kept, enterRx_kept, freeAdaptation_kept, and_self]

end Sys2Proof.Machine
end

