-- ==== Sys2Proof/Laws/LanesKept.lean ====
section
/-! SUPPORT. What the functions of Machine/Lanes.lean keep: the factory part, the queue, and memory where they do not write it. -/

namespace Sys2Proof.Machine

@[simp] theorem enqueuePairs_kept (l : List Flight) (s : State) :
    (enqueuePairs l s).part = s.part ∧ (enqueuePairs l s).pending = s.pending ∧ (enqueuePairs l s).memGen = s.memGen ∧
    (enqueuePairs l s).mem = s.mem := by
  unfold enqueuePairs
  exact ⟨by with_reducible rfl, by with_reducible rfl, by with_reducible rfl, by with_reducible rfl⟩

@[simp] theorem merigPairs_kept (g : Nat) (l : Nat) (start : Nat) (payload : Nat) (s : State) :
    (merigPairs g l start payload s).part = s.part ∧ (merigPairs g l start payload s).pending = s.pending ∧
    (merigPairs g l start payload s).memGen = s.memGen ∧ (merigPairs g l start payload s).mem = s.mem := by
  unfold merigPairs
  simp only [enqueuePairs_kept, and_self]

@[simp] theorem detectorPairs_kept (g : Nat) (l : Nat) (e : Nat) (payload : Nat) (s : State) :
    (detectorPairs g l e payload s).part = s.part ∧ (detectorPairs g l e payload s).pending = s.pending ∧
    (detectorPairs g l e payload s).memGen = s.memGen ∧ (detectorPairs g l e payload s).mem = s.mem := by
  unfold detectorPairs
  simp only [enqueuePairs_kept, and_self]

@[simp] theorem presentFrame_kept (g : Nat) (l : Nat) (payload : Nat) (s : State) :
    (presentFrame g l payload s).part = s.part ∧ (presentFrame g l payload s).pending = s.pending ∧
    (presentFrame g l payload s).memGen = s.memGen ∧ (presentFrame g l payload s).mem = s.mem := by
  unfold presentFrame
  simp only [detectorPairs_kept, merigPairs_kept, ite_part, ite_pending, ite_memGen, ite_mem, ite_self, and_self]

@[simp] theorem presentFlash_kept (g : Nat) (l : Nat) (payload : Nat) (s : State) :
    (presentFlash g l payload s).part = s.part ∧ (presentFlash g l payload s).pending = s.pending ∧
    (presentFlash g l payload s).memGen = s.memGen ∧ (presentFlash g l payload s).mem = s.mem := by
  unfold presentFlash
  simp only [enqueuePairs_kept, ite_part, ite_pending, ite_memGen, ite_mem, ite_self, and_self]

@[simp] theorem darkLane_kept (g : Nat) (l : Nat) (s : State) :
    (darkLane g l s).part = s.part ∧ (darkLane g l s).pending = s.pending ∧ (darkLane g l s).memGen = s.memGen ∧
    (darkLane g l s).mem = s.mem := by
  unfold darkLane
  simp only [State.setLane_kept, detectorPairs_kept, ite_part, ite_pending, ite_memGen, ite_mem, ite_self, and_self]

@[simp] theorem showDark_kept (g : Nat) (s : State) :
    (showDark g s).part = s.part ∧ (showDark g s).pending = s.pending ∧ (showDark g s).memGen = s.memGen ∧
    (showDark g s).mem = s.mem := by
  unfold showDark
  simp only [darkLane_kept, ite_part, ite_pending, ite_memGen, ite_mem, foldl_part, foldl_pending, foldl_memGen, foldl_mem,
      ite_self, and_self, implies_true]

@[simp] theorem countReplaced_kept (g : Nat) (l : Nat) (code : Nat) (s : State) :
    (countReplaced g l code s).part = s.part ∧ (countReplaced g l code s).pending = s.pending ∧
    (countReplaced g l code s).memGen = s.memGen ∧ (countReplaced g l code s).mem = s.mem := by
  unfold countReplaced
  simp only [State.setGroup_kept, raiseOnce_kept, and_self]

@[simp] theorem countCase_kept (g : Nat) (l : Nat) (c : RxCase) (s : State) :
    (countCase g l c s).part = s.part ∧ (countCase g l c s).pending = s.pending ∧ (countCase g l c s).memGen = s.memGen ∧
    (countCase g l c s).mem = s.mem := by
  unfold countCase
  (repeat' split) <;> simp only [State.setGroup_kept, countReplaced_kept, groupCause_kept, and_self]

@[simp] theorem keepAlive_kept (g : Nat) (ctl : Nat) (s : State) :
    (keepAlive g ctl s).part = s.part ∧ (keepAlive g ctl s).pending = s.pending ∧ (keepAlive g ctl s).memGen = s.memGen ∧
    (keepAlive g ctl s).mem = s.mem := by
  unfold keepAlive
  simp only [State.setGroup_kept, raiseIf_kept, and_self]

@[simp] theorem carriageAcks_kept (g : Nat) (ctl : Nat) (s : State) :
    (carriageAcks g ctl s).part = s.part ∧ (carriageAcks g ctl s).pending = s.pending ∧
    (carriageAcks g ctl s).memGen = s.memGen ∧ (carriageAcks g ctl s).mem = s.mem := by
  unfold carriageAcks
  (repeat' (first | (simp only [State.setGroup_kept, ite_part, ite_pending, ite_memGen, ite_mem, ite_self, and_self]; done) | split | simp only []))

@[simp] theorem carriageTake_kept (g : Nat) (block : Nat) (ctl : Nat) (s : State) :
    (carriageTake g block ctl s).part = s.part ∧ (carriageTake g block ctl s).pending = s.pending ∧
    (carriageTake g block ctl s).memGen = s.memGen ∧ (carriageTake g block ctl s).mem = s.mem := by
  unfold carriageTake
  simp only [State.setGroup_kept, and_self]

@[simp] theorem adoptCounter_kept (ctl : Nat) (s : State) :
    (adoptCounter ctl s).part = s.part ∧ (adoptCounter ctl s).pending = s.pending ∧ (adoptCounter ctl s).memGen = s.memGen ∧
    (adoptCounter ctl s).mem = s.mem := by
  unfold adoptCounter
  simp only [ite_part, ite_pending, ite_memGen, ite_mem, ite_self, and_self]

@[simp] theorem managerControl_kept (g : Nat) (ctl : Nat) (s : State) :
    (managerControl g ctl s).part = s.part ∧ (managerControl g ctl s).pending = s.pending ∧
    (managerControl g ctl s).memGen = s.memGen ∧ (managerControl g ctl s).mem = s.mem := by
  unfold managerControl
  simp only [State.setWorker_kept, workerLive_kept, ite_part, ite_pending, ite_memGen, ite_mem, ite_self, and_self]

@[simp] theorem farTrains_kept (g : Nat) (ctl : Nat) (s : State) :
    (farTrains g ctl s).part = s.part ∧ (farTrains g ctl s).pending = s.pending ∧ (farTrains g ctl s).memGen = s.memGen ∧
    (farTrains g ctl s).mem = s.mem := by
  unfold farTrains
  simp only [State.setGroup_kept, ite_part, ite_pending, ite_memGen, ite_mem, ite_self, and_self]

@[simp] theorem workerControl_kept (g : Nat) (ctl : Nat) (s : State) :
    (workerControl g ctl s).part = s.part ∧ (workerControl g ctl s).pending = s.pending ∧
    (workerControl g ctl s).memGen = s.memGen ∧ (workerControl g ctl s).mem = s.mem := by
  unfold workerControl
  simp only [State.setGroup_kept, adoptCounter_kept, farTrains_kept, and_self]

@[simp] theorem linkReceived_kept (g : Nat) (s : State) :
    (linkReceived g s).part = s.part ∧ (linkReceived g s).pending = s.pending ∧ (linkReceived g s).memGen = s.memGen ∧
    (linkReceived g s).mem = s.mem := by
  unfold linkReceived
  simp only [carriageAcks_kept, carriageTake_kept, keepAlive_kept, managerControl_kept, workerControl_kept, ite_part,
      ite_pending, ite_memGen, ite_mem, ite_self, and_self]

@[simp] theorem datumSeen_kept (g : Nat) (f : Option RxFrame) (c : RxCase) (s : State) :
    (datumSeen g f c s).part = s.part ∧ (datumSeen g f c s).pending = s.pending ∧ (datumSeen g f c s).memGen = s.memGen ∧
    (datumSeen g f c s).mem = s.mem := by
  unfold datumSeen
  (repeat' split) <;> simp only [State.setGroup_kept, raiseOnce_kept, ite_part, ite_pending, ite_memGen, ite_mem, ite_self, and_self]

@[simp] theorem groupAfterFrame_kept (g : Nat) (s : State) :
    (groupAfterFrame g s).part = s.part ∧ (groupAfterFrame g s).pending = s.pending ∧
    (groupAfterFrame g s).memGen = s.memGen ∧ (groupAfterFrame g s).mem = s.mem := by
  unfold groupAfterFrame
  simp only [clearLanes_kept, enterRx_kept, linkReceived_kept, toClock_kept, ite_part, ite_pending, ite_memGen, ite_mem,
      ite_self, and_self]

@[simp] theorem upFrame_kept (g : Nat) (l : Nat) (f : Option RxFrame) (s : State) :
    (upFrame g l f s).part = s.part ∧ (upFrame g l f s).pending = s.pending ∧ (upFrame g l f s).memGen = s.memGen ∧
    (upFrame g l f s).mem = s.mem := by
  unfold upFrame
  (repeat' split) <;> simp only [State.setLane_kept, countCase_kept, datumSeen_kept, groupAfterFrame_kept, presentFlash_kept, presentFrame_kept, ite_part, ite_pending, ite_memGen, ite_mem, ite_self, and_self]

@[simp] theorem noteWnum_kept (g : Nat) (f : Option RxFrame) (s : State) :
    (noteWnum g f s).part = s.part ∧ (noteWnum g f s).pending = s.pending ∧ (noteWnum g f s).memGen = s.memGen ∧
    (noteWnum g f s).mem = s.mem := by
  unfold noteWnum
  (repeat' split) <;> simp only [State.setGroup_kept, and_self]

@[simp] theorem lockFrame_kept (g : Nat) (l : Nat) (f : Option RxFrame) (s : State) :
    (lockFrame g l f s).part = s.part ∧ (lockFrame g l f s).pending = s.pending ∧ (lockFrame g l f s).memGen = s.memGen ∧
    (lockFrame g l f s).mem = s.mem := by
  unfold lockFrame
  simp only [State.setLane_kept, darkLane_kept, enterRx_kept, noteWnum_kept, ite_part, ite_pending, ite_memGen, ite_mem,
      ite_self, and_self]

@[simp] theorem wakeFrame_kept (g : Nat) (l : Nat) (f : Option RxFrame) (s : State) :
    (wakeFrame g l f s).part = s.part ∧ (wakeFrame g l f s).pending = s.pending ∧ (wakeFrame g l f s).memGen = s.memGen ∧
    (wakeFrame g l f s).mem = s.mem := by
  unfold wakeFrame
  (repeat' split) <;> simp only [State.setGroup_kept, State.setLane_kept, darkLane_kept, enterRx_kept, showDark_kept, ite_part, ite_pending, ite_memGen, ite_mem, ite_self, and_self]

@[simp] theorem acceptFrame_kept (g : Nat) (l : Nat) (f : Option RxFrame) (s : State) :
    (acceptFrame g l f s).part = s.part ∧ (acceptFrame g l f s).pending = s.pending ∧
    (acceptFrame g l f s).memGen = s.memGen ∧ (acceptFrame g l f s).mem = s.mem := by
  unfold acceptFrame
  (repeat' split) <;> simp only [lockFrame_kept, upFrame_kept, wakeFrame_kept, and_self]

@[simp] theorem readHalf_kept (g : Nat) (half : Nat) (s : State) :
    (readHalf g half s).part = s.part ∧ (readHalf g half s).pending = s.pending ∧ (readHalf g half s).memGen = s.memGen ∧
    (readHalf g half s).mem = s.mem := by
  unfold readHalf
  refine ⟨?_, ?_, ?_, ?_⟩
  · refine foldl_part _ _ _ fun t a => ?_
    split <;> simp only [acceptFrame_kept]
  · refine foldl_pending _ _ _ fun t a => ?_
    split <;> simp only [acceptFrame_kept]
  · refine foldl_memGen _ _ _ fun t a => ?_
    split <;> simp only [acceptFrame_kept]
  · refine foldl_mem _ _ _ fun t a => ?_
    split <;> simp only [acceptFrame_kept]

@[simp] theorem keyedFrame_kept (g : Nat) (l : Nat) (x : Option Nat) (s : State) :
    (keyedFrame g l x s).part = s.part ∧ (keyedFrame g l x s).pending = s.pending ∧ (keyedFrame g l x s).memGen = s.memGen ∧
    (keyedFrame g l x s).mem = s.mem := by
  unfold keyedFrame
  (repeat' split) <;> simp only [State.setLane_kept, acceptFrame_kept, readHalf_kept, ite_part, ite_pending, ite_memGen, ite_mem, ite_self, and_self]

@[simp] theorem noteMargin_kept (g : Nat) (margin : Nat) (s : State) :
    (noteMargin g margin s).part = s.part ∧ (noteMargin g margin s).pending = s.pending ∧
    (noteMargin g margin s).memGen = s.memGen ∧ (noteMargin g margin s).mem = s.mem := by
  unfold noteMargin
  simp only [State.setGroup_kept, ite_part, ite_pending, ite_memGen, ite_mem, ite_self, and_self]

@[simp] theorem judgeLoss_kept (g : Nat) (s : State) :
    (judgeLoss g s).part = s.part ∧ (judgeLoss g s).pending = s.pending ∧ (judgeLoss g s).memGen = s.memGen := by
  unfold judgeLoss
  simp only [toLost_kept, ite_part, ite_pending, ite_memGen, ite_self, and_self]

@[simp] theorem execLaneFrameReceived_kept (lane : Fin 256) (bits : Option (BitVec 400)) (margin : Nat) (s : State) :
    (after (execLaneFrameReceived lane bits margin s) s).part = s.part ∧
    (after (execLaneFrameReceived lane bits margin s) s).pending = s.pending ∧
    (after (execLaneFrameReceived lane bits margin s) s).memGen = s.memGen ∧
    (after (execLaneFrameReceived lane bits margin s) s).mem = s.mem := by
  unfold execLaneFrameReceived
  simp only [acceptFrame_kept, keyedFrame_kept, noteMargin_kept, ite_part, ite_pending, ite_memGen, ite_mem, ite_self,
      and_self, after_ite, after_done, settle_kept]

@[simp] theorem missingFrames_kept (g : Nat) (s : State) :
    (missingFrames g s).part = s.part ∧ (missingFrames g s).pending = s.pending ∧ (missingFrames g s).memGen = s.memGen ∧
    (missingFrames g s).mem = s.mem := by
  unfold missingFrames
  simp only [acceptFrame_kept, readHalf_kept, showDark_kept, ite_part, ite_pending, ite_memGen, ite_mem, foldl_part,
      foldl_pending, foldl_memGen, foldl_mem, ite_self, and_self, implies_true]

@[simp] theorem groupEndBeat_kept (g : Nat) (s : State) :
    (groupEndBeat g s).part = s.part ∧ (groupEndBeat g s).pending = s.pending ∧ (groupEndBeat g s).memGen = s.memGen := by
  unfold groupEndBeat
  simp only [State.setGroup_kept, State.setLane_kept, judgeLoss_kept, missingFrames_kept, ite_part, ite_pending, ite_memGen,
      foldl_part, foldl_pending, foldl_memGen, ite_self, and_self, implies_true]

@[simp] theorem writeRecords_kept (s : State) :
    (writeRecords s).part = s.part ∧ (writeRecords s).pending = s.pending ∧ (writeRecords s).memGen = s.memGen := by
  unfold writeRecords
  simp only [captureRecord_kept, foldl_part, foldl_pending, foldl_memGen, and_self, implies_true]

@[simp] theorem lanesEndBeat_kept (s : State) :
    (lanesEndBeat s).part = s.part ∧ (lanesEndBeat s).pending = s.pending ∧ (lanesEndBeat s).memGen = s.memGen := by
  unfold lanesEndBeat
  simp only [groupEndBeat_kept, writeRecords_kept, foldl_part, foldl_pending, foldl_memGen, and_self, implies_true]

@[simp] theorem execLaneClockOk_kept (g : Fin 32) (s : State) :
    (after (execLaneClockOk g s) s).part = s.part ∧ (after (execLaneClockOk g s) s).pending = s.pending ∧
    (after (execLaneClockOk g s) s).memGen = s.memGen ∧ (after (execLaneClockOk g s) s).mem = s.mem := by
  unfold execLaneClockOk
  simp only [clearLanes_kept, enterRx_kept, ite_part, ite_pending, ite_memGen, ite_mem, ite_self, and_self, after_ite,
      after_done, settle_kept]

@[simp] theorem execLaneAdaptDone_kept (g : Fin 32) (steps : List (List Nat)) (s : State) :
    (after (execLaneAdaptDone g steps s) s).part = s.part ∧ (after (execLaneAdaptDone g steps s) s).pending = s.pending ∧
    (after (execLaneAdaptDone g steps s) s).memGen = s.memGen ∧ (after (execLaneAdaptDone g steps s) s).mem = s.mem := by
  unfold execLaneAdaptDone
  simp only [State.setObj_kept, clearLanes_kept, enterRx_kept, ite_part, ite_pending, ite_memGen, ite_mem, ite_self,
      and_self, after_ite, after_done, settle_kept]

@[simp] theorem execLaneLockTimeout_kept (g : Fin 32) (s : State) :
    (after (execLaneLockTimeout g s) s).part = s.part ∧ (after (execLaneLockTimeout g s) s).pending = s.pending ∧
    (after (execLaneLockTimeout g s) s).memGen = s.memGen ∧ (after (execLaneLockTimeout g s) s).mem = s.mem := by
  unfold execLaneLockTimeout
  simp only [trainFail_kept, ite_part, ite_pending, ite_memGen, ite_mem, ite_self, and_self, after_ite, after_done,
      settle_kept]

@[simp] theorem renumberFrom_kept (m : Deskew) (k : Nat) (s : State) :
    (renumberFrom m k s).part = s.part ∧ (renumberFrom m k s).pending = s.pending ∧ (renumberFrom m k s).memGen = s.memGen ∧
    (renumberFrom m k s).mem = s.mem := by
  unfold renumberFrom
  exact ⟨by with_reducible rfl, by with_reducible rfl, by with_reducible rfl, by with_reducible rfl⟩

@[simp] theorem linkTrained_kept (g : Nat) (m : Deskew) (k : Nat) (chooses : Bool) (s : State) :
    (linkTrained g m k chooses s).part = s.part ∧ (linkTrained g m k chooses s).pending = s.pending ∧
    (linkTrained g m k chooses s).memGen = s.memGen ∧ (linkTrained g m k chooses s).mem = s.mem := by
  unfold linkTrained
  simp only [State.setGroup_kept, linkUp_kept, renumberFrom_kept, showDark_kept, toUp_kept, ite_part, ite_pending,
      ite_memGen, ite_mem, ite_self, and_self]

@[simp] theorem alignLanes_kept (g : Nat) (seq : Nat) (s : State) :
    (alignLanes g seq s).part = s.part ∧ (alignLanes g seq s).pending = s.pending ∧ (alignLanes g seq s).memGen = s.memGen ∧
    (alignLanes g seq s).mem = s.mem := by
  unfold alignLanes
  simp only [State.setLane_kept, ite_part, ite_pending, ite_memGen, ite_mem, foldl_part, foldl_pending, foldl_memGen,
      foldl_mem, ite_self, and_self, implies_true]

@[simp] theorem execLaneDeskewDone_kept (g : Fin 32) (measured : Deskew) (s : State) :
    (after (execLaneDeskewDone g measured s) s).part = s.part ∧
    (after (execLaneDeskewDone g measured s) s).pending = s.pending ∧
    (after (execLaneDeskewDone g measured s) s).memGen = s.memGen ∧
    (after (execLaneDeskewDone g measured s) s).mem = s.mem := by
  unfold execLaneDeskewDone
  (repeat' split) <;> simp only [State.setGroup_kept, alignLanes_kept, linkTrained_kept, showDark_kept, toUp_kept, trainFail_kept, ite_part, ite_pending, ite_memGen, ite_mem, ite_self, and_self, after_ite, after_done, settle_kept]

@[simp] theorem execMerigAlignTimeout_kept (g : Fin 32) (s : State) :
    (after (execMerigAlignTimeout g s) s).part = s.part ∧ (after (execMerigAlignTimeout g s) s).pending = s.pending ∧
    (after (execMerigAlignTimeout g s) s).memGen = s.memGen ∧ (after (execMerigAlignTimeout g s) s).mem = s.mem := by
  unfold execMerigAlignTimeout
  simp only [trainFail_kept, ite_part, ite_pending, ite_memGen, ite_mem, ite_self, and_self, after_ite, after_done,
      settle_kept]

@[simp] theorem wakeDeep_kept (g : Nat) (s : State) :
    (wakeDeep g s).part = s.part ∧ (wakeDeep g s).pending = s.pending ∧ (wakeDeep g s).memGen = s.memGen ∧
    (wakeDeep g s).mem = s.mem := by
  unfold wakeDeep
  simp only [State.setGroup_kept, toClock_kept, and_self]

@[simp] theorem execLaneAutoRetrain_kept (g : Fin 32) (s : State) :
    (after (execLaneAutoRetrain g s) s).part = s.part ∧ (after (execLaneAutoRetrain g s) s).pending = s.pending ∧
    (after (execLaneAutoRetrain g s) s).memGen = s.memGen ∧ (after (execLaneAutoRetrain g s) s).mem = s.mem := by
  unfold execLaneAutoRetrain
  simp only [toClock_kept, ite_part, ite_pending, ite_memGen, ite_mem, ite_self, and_self, after_ite, after_done,
      settle_kept]

@[simp] theorem execLaneShallowTimeout_kept (g : Fin 32) (s : State) :
    (after (execLaneShallowTimeout g s) s).part = s.part ∧ (after (execLaneShallowTimeout g s) s).pending = s.pending ∧
    (after (execLaneShallowTimeout g s) s).memGen = s.memGen := by
  unfold execLaneShallowTimeout
  simp only [toLost_kept, ite_part, ite_pending, ite_memGen, ite_self, and_self, after_ite, after_done, settle_kept]

@[simp] theorem trainingWrite_kept (g : Nat) (value : Nat) (s : State) :
    (trainingWrite g value s).2.part = s.part ∧ (trainingWrite g value s).2.pending = s.pending ∧
    (trainingWrite g value s).2.memGen = s.memGen ∧ (trainingWrite g value s).2.mem = s.mem := by
  unfold trainingWrite
  simp only [toClock_kept, ite_part, ite_pending, ite_memGen, ite_mem, ite_self, ite_snd, and_self]

@[simp] theorem execLaneTrainingRequest_kept (path : Path) (g : Fin 32) (value : BitVec 8) (s : State) :
    (after (execLaneTrainingRequest path g value s) s).part = s.part ∧
    (after (execLaneTrainingRequest path g value s) s).pending = s.pending ∧
    (after (execLaneTrainingRequest path g value s) s).memGen = s.memGen ∧
    (after (execLaneTrainingRequest path g value s) s).mem = s.mem := by
  unfold execLaneTrainingRequest
  simp only [onPath_part, onPath_pending, onPath_memGen, onPath_mem, trainingWrite_kept, and_self, after_done, settle_kept]

@[simp] theorem silenceLoop_kept (loop : Nat) (s : State) :
    (silenceLoop loop s).part = s.part ∧ (silenceLoop loop s).pending = s.pending ∧ (silenceLoop loop s).memGen = s.memGen ∧
    (silenceLoop loop s).mem = s.mem := by
  unfold silenceLoop
  simp only [State.setLane_kept, foldl_part, foldl_pending, foldl_memGen, foldl_mem, and_self, implies_true]

@[simp] theorem dropLoops_kept (g : Nat) (s : State) :
    (dropLoops g s).part = s.part ∧ (dropLoops g s).pending = s.pending ∧ (dropLoops g s).memGen = s.memGen ∧
    (dropLoops g s).mem = s.mem := by
  unfold dropLoops
  simp only [State.setGroup_kept, silenceLoop_kept, and_self]

@[simp] theorem applyLanePower_kept (g : Nat) (old : Nat) (new : Nat) (s : State) :
    (applyLanePower g old new s).part = s.part ∧ (applyLanePower g old new s).pending = s.pending ∧
    (applyLanePower g old new s).memGen = s.memGen ∧ (applyLanePower g old new s).mem = s.mem := by
  unfold applyLanePower
  simp only [State.setGroup_kept, clearLanes_kept, dropLoops_kept, enterRx_kept, toDeep_kept, wakeDeep_kept, ite_part,
      ite_pending, ite_memGen, ite_mem, ite_self, and_self]

@[simp] theorem applyLaneSettings_kept (g : Nat) (oldMode : Nat) (oldNui : Nat) (oldEnable : Nat) (s : State) :
    (applyLaneSettings g oldMode oldNui oldEnable s).part = s.part ∧
    (applyLaneSettings g oldMode oldNui oldEnable s).pending = s.pending ∧
    (applyLaneSettings g oldMode oldNui oldEnable s).memGen = s.memGen := by
  unfold applyLaneSettings
  simp only [State.setGroup_kept, State.setUnit_kept, captureRecord_kept, clearLanes_kept, dropLoops_kept, toDeep_kept,
      ite_part, ite_pending, ite_memGen, foldl_part, foldl_pending, foldl_memGen, ite_self, and_self, implies_true]

@[simp] theorem openCaptureMark_kept (g : Nat) (s : State) :
    (openCaptureMark g s).part = s.part ∧ (openCaptureMark g s).pending = s.pending ∧
    (openCaptureMark g s).memGen = s.memGen ∧ (openCaptureMark g s).mem = s.mem := by
  unfold openCaptureMark
  simp only [State.setUnit_kept, ite_part, ite_pending, ite_memGen, ite_mem, ite_self, and_self]

@[simp] theorem execLaneLoopLocked_kept (loop : Fin 64) (s : State) :
    (after (execLaneLoopLocked loop s) s).part = s.part ∧ (after (execLaneLoopLocked loop s) s).pending = s.pending ∧
    (after (execLaneLoopLocked loop s) s).memGen = s.memGen ∧ (after (execLaneLoopLocked loop s) s).mem = s.mem := by
  unfold execLaneLoopLocked
  simp only [wakeDeep_kept, ite_part, ite_pending, ite_memGen, ite_mem, ite_self, and_self, after_ite, after_done,
      settle_kept]

@[simp] theorem execLaneLoopUnlock_kept (loop : Fin 64) (s : State) :
    (after (execLaneLoopUnlock loop s) s).part = s.part ∧ (after (execLaneLoopUnlock loop s) s).pending = s.pending ∧
    (after (execLaneLoopUnlock loop s) s).memGen = s.memGen ∧ (after (execLaneLoopUnlock loop s) s).mem = s.mem := by
  unfold execLaneLoopUnlock
  simp only [raise_kept, silenceLoop_kept, ite_part, ite_pending, ite_memGen, ite_mem, ite_self, and_self, after_ite,
      after_done, settle_kept]

@[simp] theorem scanRefused_kept (g : Nat) (s : State) :
    (scanRefused g s).part = s.part ∧ (scanRefused g s).pending = s.pending ∧ (scanRefused g s).memGen = s.memGen ∧
    (scanRefused g s).mem = s.mem := by
  unfold scanRefused
  simp only [State.setGroup_kept, ite_part, ite_pending, ite_memGen, ite_mem, ite_self, and_self]

@[simp] theorem eyeScanWrite_kept (g : Nat) (data : List Byte) (s : State) :
    (eyeScanWrite g data s).2.part = s.part ∧ (eyeScanWrite g data s).2.pending = s.pending ∧
    (eyeScanWrite g data s).2.memGen = s.memGen ∧ (eyeScanWrite g data s).2.mem = s.mem := by
  unfold eyeScanWrite
  simp only [State.setGroup_kept, laneClaimRefuse_kept, scanRefused_kept, ite_part, ite_pending, ite_memGen, ite_mem,
      ite_self, ite_snd, and_self]

@[simp] theorem execEyeScanRequest_kept (path : Path) (g : Fin 32) (data : List Byte) (s : State) :
    (after (execEyeScanRequest path g data s) s).part = s.part ∧
    (after (execEyeScanRequest path g data s) s).pending = s.pending ∧
    (after (execEyeScanRequest path g data s) s).memGen = s.memGen ∧
    (after (execEyeScanRequest path g data s) s).mem = s.mem := by
  unfold execEyeScanRequest
  simp only [eyeScanWrite_kept, onPath_part, onPath_pending, onPath_memGen, onPath_mem, and_self, after_done, settle_kept]

@[simp] theorem postRows_kept (a0 : Nat) (a1 : Fin 32) (a2 : State) :
    (postRows a0 a1 a2).part = a2.part ∧ (postRows a0 a1 a2).pending = a2.pending ∧ (postRows a0 a1 a2).memGen = a2.memGen ∧
    (postRows a0 a1 a2).mem = a2.mem := by
  induction a0 generalizing a2 with
  | zero => exact ⟨rfl, rfl, rfl, rfl⟩
  | succ k ih =>
    simp only [postRows]
    split
    · simp only [ih, postTxn_kept, State.setGroup_kept, and_self]
    · exact ⟨rfl, rfl, rfl, rfl⟩

@[simp] theorem execEyeScanPointDone_kept (g : Fin 32) (counts : List Nat) (s : State) :
    (after (execEyeScanPointDone g counts s) s).part = s.part ∧
    (after (execEyeScanPointDone g counts s) s).pending = s.pending ∧
    (after (execEyeScanPointDone g counts s) s).memGen = s.memGen ∧
    (after (execEyeScanPointDone g counts s) s).mem = s.mem := by
  unfold execEyeScanPointDone
  simp only [State.setGroup_kept, endScan_kept, postRows_kept, ite_part, ite_pending, ite_memGen, ite_mem, ite_self,
      and_self, after_ite, after_done, settle_kept]

@[simp] theorem sendRecord_kept (t : Txn) (s : State) :
    (sendRecord t s).2.part = s.part ∧ (sendRecord t s).2.pending = s.pending ∧ (sendRecord t s).2.memGen = s.memGen := by
  unfold sendRecord
  (repeat' (first | (simp only [closeTxn_kept, holdRequest_kept, and_self]; done) | split | simp only [holdRequest_kept]))

@[simp] theorem takeScanWrite_kept (g : Fin 32) (status : Status) (s : State) :
    (takeScanWrite g status s).2.part = s.part ∧ (takeScanWrite g status s).2.pending = s.pending ∧
    (takeScanWrite g status s).2.memGen = s.memGen := by
  unfold takeScanWrite
  (repeat' (first | (simp only [State.setGroup_kept, closeTxn_kept, sendRecord_kept, and_self]; done) | split | simp only []))

@[simp] theorem scanWriteEnded_kept (g : Fin 32) (status : Status) (s : State) :
    (scanWriteEnded g status s).part = s.part ∧ (scanWriteEnded g status s).pending = s.pending ∧
    (scanWriteEnded g status s).memGen = s.memGen ∧ (scanWriteEnded g status s).mem = s.mem := by
  unfold scanWriteEnded
  simp only [State.setGroup_kept, endScan_kept, ite_part, ite_pending, ite_memGen, ite_mem, ite_self, and_self]

@[simp] theorem execEyeScanRecordWriteDone_kept (g : Fin 32) (status : Status) (s : State) :
    (after (execEyeScanRecordWriteDone g status s) s).part = s.part ∧
    (after (execEyeScanRecordWriteDone g status s) s).pending = s.pending ∧
    (after (execEyeScanRecordWriteDone g status s) s).memGen = s.memGen := by
  unfold execEyeScanRecordWriteDone
  (repeat' (first | (simp only [scanWriteEnded_kept, takeScanWrite_kept, and_self, after_done, settle_kept]; done) | split | simp only [after_done, settle_kept]))

end Sys2Proof.Machine
end

