-- ==== Sys2Proof/Laws/LaneTxKept.lean ====
section
/-! SUPPORT. What the functions of Machine/LaneTx.lean keep: the factory part, the queue, and memory where they do not write it. -/

namespace Sys2Proof.Machine

@[simp] theorem readoutUnderrun_kept (g : Nat) (s : State) :
    (readoutUnderrun g s).part = s.part ∧ (readoutUnderrun g s).pending = s.pending ∧
    (readoutUnderrun g s).memGen = s.memGen ∧ (readoutUnderrun g s).mem = s.mem := by
  unfold readoutUnderrun
  simp only [State.setGroup_kept, raiseOnce_kept, unitCauses_kept, ite_part, ite_pending, ite_memGen, ite_mem, ite_self,
      and_self]

@[simp] theorem readoutTake_kept (ecc : List RingEcc) (g : Nat) (s : State) :
    (readoutTake ecc g s).part = s.part ∧ (readoutTake ecc g s).pending = s.pending ∧
    (readoutTake ecc g s).memGen = s.memGen ∧ (readoutTake ecc g s).mem = s.mem := by
  unfold readoutTake
  simp only [State.setLane_kept, readoutUnderrun_kept, takeWords_kept, ite_part, ite_pending, ite_memGen, ite_mem,
      foldl_part, foldl_pending, foldl_memGen, foldl_mem, ite_self, and_self, implies_true]

@[simp] theorem readoutAll_kept (ecc : List RingEcc) (s : State) :
    (readoutAll ecc s).part = s.part ∧ (readoutAll ecc s).pending = s.pending ∧ (readoutAll ecc s).memGen = s.memGen ∧
    (readoutAll ecc s).mem = s.mem := by
  unfold readoutAll
  simp only [readoutTake_kept, foldl_part, foldl_pending, foldl_memGen, foldl_mem, and_self, implies_true]

@[simp] theorem carriagePick_kept (g : Nat) (s : State) :
    (carriagePick g s).2.part = s.part ∧ (carriagePick g s).2.pending = s.pending ∧ (carriagePick g s).2.memGen = s.memGen ∧
    (carriagePick g s).2.mem = s.mem := by
  unfold carriagePick
  (repeat' (first | (simp only [State.setGroup_kept, ite_part, ite_pending, ite_memGen, ite_mem, ite_self, ite_snd, and_self]; done) | split | simp only []))

@[simp] theorem relayPick_kept (g : Nat) (s : State) :
    (relayPick g s).2.part = s.part ∧ (relayPick g s).2.pending = s.pending ∧ (relayPick g s).2.memGen = s.memGen ∧
    (relayPick g s).2.mem = s.mem := by
  unfold relayPick
  (repeat' (first | (simp only [State.setWorker_kept, ite_part, ite_pending, ite_memGen, ite_mem, ite_self, ite_snd, and_self]; done) | split | simp only [ite_part, ite_pending, ite_memGen, ite_mem, ite_snd]))

@[simp] theorem linkBlockOf_kept (g : Nat) (s : State) :
    (linkBlockOf g s).2.part = s.part ∧ (linkBlockOf g s).2.pending = s.pending ∧ (linkBlockOf g s).2.memGen = s.memGen ∧
    (linkBlockOf g s).2.mem = s.mem := by
  unfold linkBlockOf
  simp only [State.setGroup_kept, carriagePick_kept, relayPick_kept, and_self]

@[simp] theorem framesLeave_kept (s : State) :
    (framesLeave s).part = s.part ∧ (framesLeave s).pending = s.pending ∧ (framesLeave s).memGen = s.memGen ∧
    (framesLeave s).mem = s.mem := by
  unfold framesLeave
  exact ⟨by with_reducible rfl, by with_reducible rfl, by with_reducible rfl, by with_reducible rfl⟩

@[simp] theorem putFrame_kept (g : Nat) (l : Nat) (sync : Nat) (control : Nat) (payload : Nat) (coded : Nat) (s : State) :
    (putFrame g l sync control payload coded s).part = s.part ∧
    (putFrame g l sync control payload coded s).pending = s.pending ∧
    (putFrame g l sync control payload coded s).memGen = s.memGen ∧
    (putFrame g l sync control payload coded s).mem = s.mem := by
  unfold putFrame
  simp only [State.setLane_kept, and_self]

@[simp] theorem putNothing_kept (i : Nat) (s : State) :
    (putNothing i s).part = s.part ∧ (putNothing i s).pending = s.pending ∧ (putNothing i s).memGen = s.memGen ∧
    (putNothing i s).mem = s.mem := by
  unfold putNothing
  simp only [State.setLane_kept, and_self]

@[simp] theorem sendNothing_kept (g : Nat) (s : State) :
    (sendNothing g s).part = s.part ∧ (sendNothing g s).pending = s.pending ∧ (sendNothing g s).memGen = s.memGen ∧
    (sendNothing g s).mem = s.mem := by
  unfold sendNothing
  simp only [putNothing_kept, foldl_part, foldl_pending, foldl_memGen, foldl_mem, and_self, implies_true]

@[simp] theorem sendIdle_kept (g : Nat) (code : Nat) (s : State) :
    (sendIdle g code s).part = s.part ∧ (sendIdle g code s).pending = s.pending ∧ (sendIdle g code s).memGen = s.memGen ∧
    (sendIdle g code s).mem = s.mem := by
  unfold sendIdle
  simp only [putFrame_kept, foldl_part, foldl_pending, foldl_memGen, foldl_mem, and_self, implies_true]

@[simp] theorem sendData_kept (g : Nat) (s : State) :
    (sendData g s).part = s.part ∧ (sendData g s).pending = s.pending ∧ (sendData g s).memGen = s.memGen ∧
    (sendData g s).mem = s.mem := by
  unfold sendData
  simp only [putFrame_kept, foldl_part, foldl_pending, foldl_memGen, foldl_mem, and_self, implies_true]

@[simp] theorem sendReadout_kept (g : Nat) (s : State) :
    (sendReadout g s).part = s.part ∧ (sendReadout g s).pending = s.pending ∧ (sendReadout g s).memGen = s.memGen ∧
    (sendReadout g s).mem = s.mem := by
  unfold sendReadout
  simp only [putFrame_kept, sendIdle_kept, ite_part, ite_pending, ite_memGen, ite_mem, foldl_part, foldl_pending,
      foldl_memGen, foldl_mem, ite_self, and_self, implies_true]

@[simp] theorem sendMerig_kept (g : Nat) (hold : Bool) (s : State) :
    (sendMerig g hold s).part = s.part ∧ (sendMerig g hold s).pending = s.pending ∧ (sendMerig g hold s).memGen = s.memGen ∧
    (sendMerig g hold s).mem = s.mem := by
  unfold sendMerig
  simp only [linkBlockOf_kept, putFrame_kept, foldl_part, foldl_pending, foldl_memGen, foldl_mem, and_self, implies_true]

@[simp] theorem afterSending_kept (g : Nat) (sent : Bool) (s : State) :
    (afterSending g sent s).part = s.part ∧ (afterSending g sent s).pending = s.pending ∧
    (afterSending g sent s).memGen = s.memGen ∧ (afterSending g sent s).mem = s.mem := by
  unfold afterSending
  simp only [State.setGroup_kept, dropLoops_kept, ite_part, ite_pending, ite_memGen, ite_mem, ite_self, and_self]

@[simp] theorem groupTransmit_kept (g : Nat) (s : State) :
    (groupTransmit g s).part = s.part ∧ (groupTransmit g s).pending = s.pending ∧ (groupTransmit g s).memGen = s.memGen ∧
    (groupTransmit g s).mem = s.mem := by
  unfold groupTransmit
  (repeat' split) <;> simp only [afterSending_kept, sendData_kept, sendIdle_kept, sendMerig_kept, sendNothing_kept, sendReadout_kept, and_self]

@[simp] theorem lanesTransmit_kept (s : State) :
    (lanesTransmit s).part = s.part ∧ (lanesTransmit s).pending = s.pending ∧ (lanesTransmit s).memGen = s.memGen ∧
    (lanesTransmit s).mem = s.mem := by
  unfold lanesTransmit
  simp only [groupTransmit_kept, foldl_part, foldl_pending, foldl_memGen, foldl_mem, and_self, implies_true]

@[simp] theorem resumeSending_kept (s : State) :
    (resumeSending s).part = s.part ∧ (resumeSending s).pending = s.pending ∧ (resumeSending s).memGen = s.memGen ∧
    (resumeSending s).mem = s.mem := by
  unfold resumeSending
  simp only [State.setGroup_kept, ite_part, ite_pending, ite_memGen, ite_mem, foldl_part, foldl_pending, foldl_memGen,
      foldl_mem, ite_self, and_self, implies_true]

end Sys2Proof.Machine
end

