-- ==== Sys2Proof/Laws/MerigKept.lean ====
section
/-! SUPPORT. What the functions of Machine/Merig.lean keep: the factory part, the queue, and memory where they do not write it. -/

namespace Sys2Proof.Machine

@[simp] theorem keepHeader_kept (r : ReqId) (header : Nat) (s : State) :
    (keepHeader r header s).part = s.part ∧ (keepHeader r header s).pending = s.pending ∧
    (keepHeader r header s).memGen = s.memGen ∧ (keepHeader r header s).mem = s.mem := by
  unfold keepHeader
  exact ⟨by with_reducible rfl, by with_reducible rfl, by with_reducible rfl, by with_reducible rfl⟩

@[simp] theorem workerAnswers_kept (q : ReqId) (f : Flit) (s : State) :
    (workerAnswers q f s).part = s.part ∧ (workerAnswers q f s).pending = s.pending ∧
    (workerAnswers q f s).memGen = s.memGen ∧ (workerAnswers q f s).mem = s.mem := by
  unfold workerAnswers
  simp only [answer_kept, ite_part, ite_pending, ite_memGen, ite_mem, ite_self, and_self]

@[simp] theorem carriageAccept_kept (g : Fin 32) (f : Flit) (s : State) :
    (carriageAccept g f s).part = s.part ∧ (carriageAccept g f s).pending = s.pending ∧
    (carriageAccept g f s).memGen = s.memGen := by
  unfold carriageAccept
  (repeat' split) <;> simp only [acceptFlit_kept, keepHeader_kept, workerAnswers_kept, and_self]

@[simp] theorem carriageCorrected_kept (g : Nat) (s : State) :
    (carriageCorrected g s).part = s.part ∧ (carriageCorrected g s).pending = s.pending ∧
    (carriageCorrected g s).memGen = s.memGen ∧ (carriageCorrected g s).mem = s.mem := by
  unfold carriageCorrected
  simp only [raiseOnce_kept, and_self]

@[simp] theorem execCarriageFlitReceived_kept (g : Fin 32) (err : FlitErr) (s : State) :
    (after (execCarriageFlitReceived g err s) s).part = s.part ∧
    (after (execCarriageFlitReceived g err s) s).pending = s.pending ∧
    (after (execCarriageFlitReceived g err s) s).memGen = s.memGen := by
  unfold execCarriageFlitReceived
  (repeat' (first | (simp only [State.setGroup_kept, carriageAccept_kept, carriageCorrected_kept, ite_part, ite_pending, ite_memGen, ite_self, and_self, after_ite, after_done, settle_kept]; done) | split | simp only []))

@[simp] theorem dropFlit_kept (f : Flit) (s : State) :
    (dropFlit f s).part = s.part ∧ (dropFlit f s).pending = s.pending ∧ (dropFlit f s).memGen = s.memGen := by
  unfold dropFlit
  (repeat' split) <;> simp only [endTxn_kept, and_self]

@[simp] theorem execCarriageResendTimeout_kept (g : Fin 32) (s : State) :
    (after (execCarriageResendTimeout g s) s).part = s.part ∧
    (after (execCarriageResendTimeout g s) s).pending = s.pending ∧
    (after (execCarriageResendTimeout g s) s).memGen = s.memGen := by
  unfold execCarriageResendTimeout
  (repeat' (first | (simp only [State.setGroup_kept, dropFlit_kept, raise_kept, ite_part, ite_pending, ite_memGen, ite_self, and_self, after_ite, after_done, settle_kept]; done) | split | simp only [State.setGroup_kept]))

@[simp] theorem execRemoteResetCommand_kept (multi : Bool) (s : State) :
    (after (execRemoteResetCommand multi s) s).part = s.part ∧
    (after (execRemoteResetCommand multi s) s).pending = s.pending := by
  unfold execRemoteResetCommand
  simp only [raise_kept, resetSource_kept, ite_part, ite_pending, ite_self, and_self, after_ite, after_done, settle_kept]

@[simp] theorem remoteResetWrite_kept (w : Nat) (value : Nat) (s : State) :
    (remoteResetWrite w value s).2.part = s.part ∧ (remoteResetWrite w value s).2.pending = s.pending ∧
    (remoteResetWrite w value s).2.memGen = s.memGen ∧ (remoteResetWrite w value s).2.mem = s.mem := by
  unfold remoteResetWrite
  simp only [State.setGroup_kept, State.setWorker_kept, ite_part, ite_pending, ite_memGen, ite_mem, foldl_part,
      foldl_pending, foldl_memGen, foldl_mem, ite_self, ite_snd, and_self, implies_true]

@[simp] theorem execRemoteResetOrder_kept (path : Path) (w : Fin 32) (value : BitVec 8) (s : State) :
    (after (execRemoteResetOrder path w value s) s).part = s.part ∧
    (after (execRemoteResetOrder path w value s) s).pending = s.pending ∧
    (after (execRemoteResetOrder path w value s) s).memGen = s.memGen ∧
    (after (execRemoteResetOrder path w value s) s).mem = s.mem := by
  unfold execRemoteResetOrder
  simp only [onPath_part, onPath_pending, onPath_memGen, onPath_mem, remoteResetWrite_kept, and_self, after_done,
      settle_kept]

@[simp] theorem relayStart_kept (p : Path) (w : Nat) (write : Option (List Byte)) (s : State) :
    (relayStart p w write s).2.part = s.part ∧ (relayStart p w write s).2.pending = s.pending ∧
    (relayStart p w write s).2.memGen = s.memGen ∧ (relayStart p w write s).2.mem = s.mem := by
  unfold relayStart
  simp only [State.setWorker_kept, raise_kept, ite_part, ite_pending, ite_memGen, ite_mem, ite_self, ite_snd, and_self]

@[simp] theorem execRelayTransfer_kept (path : Path) (w : Fin 32) (write : Option (List Byte)) (s : State) :
    (after (execRelayTransfer path w write s) s).part = s.part ∧
    (after (execRelayTransfer path w write s) s).pending = s.pending ∧
    (after (execRelayTransfer path w write s) s).memGen = s.memGen ∧
    (after (execRelayTransfer path w write s) s).mem = s.mem := by
  unfold execRelayTransfer
  split
  · simp only [after_done, settle_kept, and_self]
  · have h := relayStart_kept path w.val write s
    revert h
    cases relayStart path w.val write s with
    | mk a t => cases a <;> (intro h; simpa only [after_done, settle_kept, answered_kept] using h)

@[simp] theorem relayResponse_kept (w : Nat) (c : Nat) (data : List Byte) (s : State) :
    (relayResponse w c data s).part = s.part ∧ (relayResponse w c data s).pending = s.pending ∧
    (relayResponse w c data s).memGen = s.memGen ∧ (relayResponse w c data s).mem = s.mem := by
  unfold relayResponse
  (repeat' (first | (simp only [State.setWorker_kept, endRelayWait_kept, raiseIf_kept, reply_kept, and_self]; done) | split | simp only []))

@[simp] theorem chainLoadWrite_kept (data : List Byte) (answering : Nat) (s : State) :
    (chainLoadWrite data answering s).2.part = s.part ∧ (chainLoadWrite data answering s).2.pending = s.pending ∧
    (chainLoadWrite data answering s).2.memGen = s.memGen ∧ (chainLoadWrite data answering s).2.mem = s.mem := by
  unfold chainLoadWrite
  simp only [ite_part, ite_pending, ite_memGen, ite_mem, ite_self, ite_snd, and_self]

@[simp] theorem execChainLoadRequest_kept (path : Path) (data : List Byte) (answering : BitVec 32) (s : State) :
    (after (execChainLoadRequest path data answering s) s).part = s.part ∧
    (after (execChainLoadRequest path data answering s) s).pending = s.pending ∧
    (after (execChainLoadRequest path data answering s) s).memGen = s.memGen ∧
    (after (execChainLoadRequest path data answering s) s).mem = s.mem := by
  unfold execChainLoadRequest
  simp only [chainLoadWrite_kept, onPath_part, onPath_pending, onPath_memGen, onPath_mem, and_self, after_done, settle_kept]

@[simp] theorem execChainLoadDone_kept (results : List (Fin 32 × Fin 7)) (s : State) :
    (after (execChainLoadDone results s) s).part = s.part ∧ (after (execChainLoadDone results s) s).pending = s.pending ∧
    (after (execChainLoadDone results s) s).memGen = s.memGen ∧ (after (execChainLoadDone results s) s).mem = s.mem := by
  unfold execChainLoadDone
  simp only [ite_part, ite_pending, ite_memGen, ite_mem, ite_self, and_self, after_ite, after_done, settle_kept]

end Sys2Proof.Machine
end

