-- ==== Sys2Proof/Laws/PinsKept.lean ====
section
/-! SUPPORT. What the functions of Machine/Pins.lean keep: the factory part, the queue, and memory where they do not write it. -/

namespace Sys2Proof.Machine

@[simp] theorem beaconDatum_kept (s : State) :
    (beaconDatum s).part = s.part ∧ (beaconDatum s).pending = s.pending ∧ (beaconDatum s).memGen = s.memGen ∧
    (beaconDatum s).mem = s.mem := by
  unfold beaconDatum
  exact ⟨by with_reducible rfl, by with_reducible rfl, by with_reducible rfl, by with_reducible rfl⟩

@[simp] theorem drivePins_kept (s : State) :
    (drivePins s).part = s.part ∧ (drivePins s).pending = s.pending ∧ (drivePins s).memGen = s.memGen ∧
    (drivePins s).mem = s.mem := by
  unfold drivePins
  exact ⟨by with_reducible rfl, by with_reducible rfl, by with_reducible rfl, by with_reducible rfl⟩

@[simp] theorem sleepPins_kept (s : State) :
    (sleepPins s).part = s.part ∧ (sleepPins s).pending = s.pending ∧ (sleepPins s).memGen = s.memGen ∧
    (sleepPins s).mem = s.mem := by
  unfold sleepPins
  simp only [drivePins_kept, ite_part, ite_pending, ite_memGen, ite_mem, ite_self, and_self]

@[simp] theorem wakePins_kept (s : State) :
    (wakePins s).part = s.part ∧ (wakePins s).pending = s.pending ∧ (wakePins s).memGen = s.memGen ∧
    (wakePins s).mem = s.mem := by
  unfold wakePins
  simp only [ite_part, ite_pending, ite_memGen, ite_mem, ite_self, and_self]

@[simp] theorem muxDatum_kept (old : Nat) (s : State) :
    (muxDatum old s).part = s.part ∧ (muxDatum old s).pending = s.pending ∧ (muxDatum old s).memGen = s.memGen ∧
    (muxDatum old s).mem = s.mem := by
  unfold muxDatum
  simp only [raiseIf_kept, and_self]

@[simp] theorem muxSettled_kept (s : State) :
    (muxSettled s).part = s.part ∧ (muxSettled s).pending = s.pending ∧ (muxSettled s).memGen = s.memGen ∧
    (muxSettled s).mem = s.mem := by
  unfold muxSettled
  exact ⟨by with_reducible rfl, by with_reducible rfl, by with_reducible rfl, by with_reducible rfl⟩

@[simp] theorem sampleMarker_kept (s : State) :
    (sampleMarker s).part = s.part ∧ (sampleMarker s).pending = s.pending ∧ (sampleMarker s).memGen = s.memGen ∧
    (sampleMarker s).mem = s.mem := by
  unfold sampleMarker
  exact ⟨by with_reducible rfl, by with_reducible rfl, by with_reducible rfl, by with_reducible rfl⟩

@[simp] theorem State.setWatch_kept (s : State) (w : Nat) (x : PinWatch) :
    (State.setWatch s w x).part = s.part ∧ (State.setWatch s w x).pending = s.pending ∧
    (State.setWatch s w x).memGen = s.memGen ∧ (State.setWatch s w x).mem = s.mem := by
  unfold State.setWatch
  exact ⟨by with_reducible rfl, by with_reducible rfl, by with_reducible rfl, by with_reducible rfl⟩

@[simp] theorem sampleWatch_kept (w : Nat) (s : State) :
    (sampleWatch w s).part = s.part ∧ (sampleWatch w s).pending = s.pending ∧ (sampleWatch w s).memGen = s.memGen ∧
    (sampleWatch w s).mem = s.mem := by
  unfold sampleWatch
  simp only [State.setWatch_kept, and_self]

@[simp] theorem sampleWatches_kept (s : State) :
    (sampleWatches s).part = s.part ∧ (sampleWatches s).pending = s.pending ∧ (sampleWatches s).memGen = s.memGen ∧
    (sampleWatches s).mem = s.mem := by
  unfold sampleWatches
  simp only [sampleWatch_kept, foldl_part, foldl_pending, foldl_memGen, foldl_mem, and_self, implies_true]

@[simp] theorem freshWatch_kept (w : Nat) (s : State) :
    (freshWatch w s).part = s.part ∧ (freshWatch w s).pending = s.pending ∧ (freshWatch w s).memGen = s.memGen ∧
    (freshWatch w s).mem = s.mem := by
  unfold freshWatch
  simp only [State.setWatch_kept, and_self]

@[simp] theorem freshWatches_kept (keys : List Nat) (s : State) :
    (freshWatches keys s).part = s.part ∧ (freshWatches keys s).pending = s.pending ∧
    (freshWatches keys s).memGen = s.memGen ∧ (freshWatches keys s).mem = s.mem := by
  unfold freshWatches
  simp only [freshWatch_kept, ite_part, ite_pending, ite_memGen, ite_mem, foldl_part, foldl_pending, foldl_memGen,
      foldl_mem, ite_self, and_self, implies_true]

@[simp] theorem fireWatch_kept (w : Nat) (s : State) :
    (fireWatch w s).part = s.part ∧ (fireWatch w s).pending = s.pending ∧ (fireWatch w s).memGen = s.memGen ∧
    (fireWatch w s).mem = s.mem := by
  unfold fireWatch
  simp only [State.setWatch_kept, raise_kept, and_self]

@[simp] theorem judgeSequence_kept (w : Nat) (c : Nat) (s : State) :
    (judgeSequence w c s).part = s.part ∧ (judgeSequence w c s).pending = s.pending ∧
    (judgeSequence w c s).memGen = s.memGen ∧ (judgeSequence w c s).mem = s.mem := by
  unfold judgeSequence
  simp only [State.setWatch_kept, fireWatch_kept, ite_part, ite_pending, ite_memGen, ite_mem, ite_self, and_self]

@[simp] theorem judgeWatch_kept (w : Nat) (s : State) :
    (judgeWatch w s).part = s.part ∧ (judgeWatch w s).pending = s.pending ∧ (judgeWatch w s).memGen = s.memGen ∧
    (judgeWatch w s).mem = s.mem := by
  unfold judgeWatch
  (repeat' (first | (simp only [State.setWatch_kept, fireWatch_kept, judgeSequence_kept, ite_part, ite_pending, ite_memGen, ite_mem, ite_self, and_self]; done) | split | simp only []))

@[simp] theorem execPinWatchMatch_kept (w : Fin 8) (s : State) :
    (after (execPinWatchMatch w s) s).part = s.part ∧ (after (execPinWatchMatch w s) s).pending = s.pending ∧
    (after (execPinWatchMatch w s) s).memGen = s.memGen ∧ (after (execPinWatchMatch w s) s).mem = s.mem := by
  unfold execPinWatchMatch
  simp only [judgeWatch_kept, ite_part, ite_pending, ite_memGen, ite_mem, ite_self, and_self, after_ite, after_done,
      settle_kept, after_doneFab, deferRaises_kept]

@[simp] theorem execPinWatchWindowExpired_kept (w : Fin 8) (s : State) :
    (after (execPinWatchWindowExpired w s) s).part = s.part ∧
    (after (execPinWatchWindowExpired w s) s).pending = s.pending ∧
    (after (execPinWatchWindowExpired w s) s).memGen = s.memGen ∧ (after (execPinWatchWindowExpired w s) s).mem = s.mem := by
  unfold execPinWatchWindowExpired
  simp only [State.setWatch_kept, ite_part, ite_pending, ite_memGen, ite_mem, ite_self, and_self, after_ite, after_done,
      settle_kept]

@[simp] theorem pinsCycle_kept (ext : BitVec 96) (floating : BitVec 96) (s : State) :
    (pinsCycle ext floating s).part = s.part ∧ (pinsCycle ext floating s).pending = s.pending ∧
    (pinsCycle ext floating s).memGen = s.memGen ∧ (pinsCycle ext floating s).mem = s.mem := by
  unfold pinsCycle
  simp only [sampleWatches_kept, ite_part, ite_pending, ite_memGen, ite_mem, ite_self, and_self]

@[simp] theorem consoleSent_kept (k : Nat) (s : State) :
    (consoleSent k s).part = s.part ∧ (consoleSent k s).pending = s.pending ∧ (consoleSent k s).memGen = s.memGen ∧
    (consoleSent k s).mem = s.mem := by
  unfold consoleSent
  (repeat' split) <;> simp only [ite_part, ite_pending, ite_memGen, ite_mem, ite_self, and_self]

@[simp] theorem consoleRun_kept (units : Nat) (k : Nat) (s : State) :
    (consoleRun units k s).part = s.part ∧ (consoleRun units k s).pending = s.pending ∧
    (consoleRun units k s).memGen = s.memGen ∧ (consoleRun units k s).mem = s.mem := by
  unfold consoleRun
  simp only [consoleSent_kept, iterate_part, iterate_pending, iterate_memGen, iterate_mem, and_self, implies_true]

@[simp] theorem consolesRun_kept (units : Nat) (s : State) :
    (consolesRun units s).part = s.part ∧ (consolesRun units s).pending = s.pending ∧
    (consolesRun units s).memGen = s.memGen ∧ (consolesRun units s).mem = s.mem := by
  unfold consolesRun
  simp only [consoleRun_kept, ite_part, ite_pending, ite_memGen, ite_mem, foldl_part, foldl_pending, foldl_memGen,
      foldl_mem, ite_self, and_self, implies_true]

@[simp] theorem pmStep_kept (s : State) :
    (pmStep s).part = s.part ∧ (pmStep s).pending = s.pending ∧ (pmStep s).memGen = s.memGen ∧ (pmStep s).mem = s.mem := by
  unfold pmStep
  (repeat' split) <;> simp only [and_self]

@[simp] theorem pmRun_kept (units : Nat) (s : State) :
    (pmRun units s).part = s.part ∧ (pmRun units s).pending = s.pending ∧ (pmRun units s).memGen = s.memGen ∧
    (pmRun units s).mem = s.mem := by
  unfold pmRun
  simp only [pmStep_kept, ite_part, ite_pending, ite_memGen, ite_mem, iterate_part, iterate_pending, iterate_memGen,
      iterate_mem, ite_self, and_self, implies_true]

@[simp] theorem serialBeat_kept (s : State) :
    (serialBeat s).part = s.part ∧ (serialBeat s).pending = s.pending ∧ (serialBeat s).memGen = s.memGen ∧
    (serialBeat s).mem = s.mem := by
  unfold serialBeat
  simp only [consolesRun_kept, pmRun_kept, and_self]

@[simp] theorem serialWindow_kept (s : State) :
    (serialWindow s).part = s.part ∧ (serialWindow s).pending = s.pending ∧
    (serialWindow s).memGen = s.memGen ∧ (serialWindow s).mem = s.mem := by
  unfold serialWindow
  simp only [consolesRun_kept, drivePins_kept, pmRun_kept, ite_part, ite_pending, ite_memGen, ite_mem, ite_self, and_self]

@[simp] theorem pinsBeat_kept (s : State) :
    (pinsBeat s).part = s.part ∧ (pinsBeat s).pending = s.pending ∧ (pinsBeat s).memGen = s.memGen ∧
    (pinsBeat s).mem = s.mem := by
  unfold pinsBeat
  simp only [serialBeat_kept, and_self]

@[simp] theorem gpioWrite_kept (data : List Byte) (s : State) :
    (gpioWrite data s).2.part = s.part ∧ (gpioWrite data s).2.pending = s.pending ∧ (gpioWrite data s).2.memGen = s.memGen ∧
    (gpioWrite data s).2.mem = s.mem := by
  unfold gpioWrite
  simp only [State.setObj_kept, drivePins_kept, ite_part, ite_pending, ite_memGen, ite_mem, ite_self, ite_snd, and_self]

@[simp] theorem execGpioOutputWrite_kept (path : Path) (data : List Byte) (s : State) :
    (after (execGpioOutputWrite path data s) s).part = s.part ∧
    (after (execGpioOutputWrite path data s) s).pending = s.pending ∧
    (after (execGpioOutputWrite path data s) s).memGen = s.memGen ∧
    (after (execGpioOutputWrite path data s) s).mem = s.mem := by
  unfold execGpioOutputWrite
  simp only [gpioWrite_kept, onPath_part, onPath_pending, onPath_memGen, onPath_mem, and_self, after_done, settle_kept]

@[simp] theorem execBankRailMeasure_kept (bank : Fin 6) (millivolts : Nat) (s : State) :
    (after (execBankRailMeasure bank millivolts s) s).part = s.part ∧
    (after (execBankRailMeasure bank millivolts s) s).pending = s.pending ∧
    (after (execBankRailMeasure bank millivolts s) s).memGen = s.memGen ∧
    (after (execBankRailMeasure bank millivolts s) s).mem = s.mem := by
  unfold execBankRailMeasure
  simp only [drivePins_kept, raise_kept, ite_part, ite_pending, ite_memGen, ite_mem, ite_self, and_self, after_ite,
      after_done, settle_kept]

@[simp] theorem consoleWrite_kept (k : Nat) (data : List Byte) (s : State) :
    (consoleWrite k data s).2.part = s.part ∧ (consoleWrite k data s).2.pending = s.pending ∧
    (consoleWrite k data s).2.memGen = s.memGen ∧ (consoleWrite k data s).2.mem = s.mem := by
  unfold consoleWrite
  simp only [ite_part, ite_pending, ite_memGen, ite_mem, ite_self, ite_snd, and_self]

@[simp] theorem execConsoleTransmit_kept (path : Path) (core : Fin 4) (data : List Byte) (s : State) :
    (after (execConsoleTransmit path core data s) s).part = s.part ∧
    (after (execConsoleTransmit path core data s) s).pending = s.pending ∧
    (after (execConsoleTransmit path core data s) s).memGen = s.memGen ∧
    (after (execConsoleTransmit path core data s) s).mem = s.mem := by
  unfold execConsoleTransmit
  simp only [consoleWrite_kept, onPath_part, onPath_pending, onPath_memGen, onPath_mem, and_self, after_done, settle_kept]

@[simp] theorem consoleTake_kept (k : Nat) (s : State) :
    (consoleTake k s).2.part = s.part ∧ (consoleTake k s).2.pending = s.pending ∧ (consoleTake k s).2.memGen = s.memGen ∧
    (consoleTake k s).2.mem = s.mem := by
  unfold consoleTake
  exact ⟨by with_reducible rfl, by with_reducible rfl, by with_reducible rfl, by with_reducible rfl⟩

@[simp] theorem execConsoleReceive_kept (path : Path) (core : Fin 4) (s : State) :
    (after (execConsoleReceive path core s) s).part = s.part ∧
    (after (execConsoleReceive path core s) s).pending = s.pending ∧
    (after (execConsoleReceive path core s) s).memGen = s.memGen ∧
    (after (execConsoleReceive path core s) s).mem = s.mem := by
  unfold execConsoleReceive
  simp only [consoleTake_kept, reply_kept, ite_part, ite_pending, ite_memGen, ite_mem, ite_self, and_self, after_ite,
      after_done, settle_kept]

@[simp] theorem execConsoleByteReceived_kept (core : Fin 4) (byte : Byte) (s : State) :
    (after (execConsoleByteReceived core byte s) s).part = s.part ∧
    (after (execConsoleByteReceived core byte s) s).pending = s.pending ∧
    (after (execConsoleByteReceived core byte s) s).memGen = s.memGen ∧
    (after (execConsoleByteReceived core byte s) s).mem = s.mem := by
  unfold execConsoleByteReceived
  simp only [raiseOnce_kept, ite_part, ite_pending, ite_memGen, ite_mem, ite_self, and_self, after_ite, after_done,
      settle_kept]

end Sys2Proof.Machine
end

