-- ==== Sys2Proof/Laws/FabricKept.lean ====
section
/-! SUPPORT. What the functions of Machine/Fabric.lean keep: the factory part, the queue, and memory where they do not write it. -/

namespace Sys2Proof.Machine

@[simp] theorem holdPort_kept (ecc : List PortEcc) (sinks : Nat) (st : Nat) (h : Nat) (s : State) :
    (holdPort ecc sinks st h s).part = s.part ∧ (holdPort ecc sinks st h s).pending = s.pending ∧
    (holdPort ecc sinks st h s).memGen = s.memGen := by
  unfold holdPort
  (repeat' (first | (simp only [State.setStation_kept, stationAccess_kept, ite_part, ite_pending, ite_memGen, and_self]; done) | split | simp only [ite_part, ite_pending, ite_memGen]))

@[simp] theorem holdPorts_kept (ecc : List PortEcc) (sinks : Nat) (st : Nat) (s : State) :
    (holdPorts ecc sinks st s).part = s.part ∧ (holdPorts ecc sinks st s).pending = s.pending ∧
    (holdPorts ecc sinks st s).memGen = s.memGen := by
  unfold holdPorts
  simp only [holdPort_kept, foldl_part, foldl_pending, foldl_memGen, and_self, implies_true]

@[simp] theorem ssuDropped_kept (st : Nat) (op : Nat) (s : State) :
    (ssuDropped st op s).part = s.part ∧ (ssuDropped st op s).pending = s.pending ∧ (ssuDropped st op s).memGen = s.memGen ∧
    (ssuDropped st op s).mem = s.mem := by
  unfold ssuDropped
  simp only [State.setStation_kept, raiseOnce_kept, ite_part, ite_pending, ite_memGen, ite_mem, ite_self, and_self]

@[simp] theorem ssuStep_kept (sinks : Nat) (st : Nat) (s : State) :
    (ssuStep sinks st s).part = s.part ∧ (ssuStep sinks st s).pending = s.pending ∧ (ssuStep sinks st s).memGen = s.memGen ∧
    (ssuStep sinks st s).mem = s.mem := by
  unfold ssuStep
  simp only [State.setStation_kept, ssuDropped_kept, ite_part, ite_pending, ite_memGen, ite_mem, ite_self, and_self]

@[simp] theorem searchStep_kept (sinks : Nat) (st : Nat) (s : State) :
    (searchStep sinks st s).part = s.part ∧ (searchStep sinks st s).pending = s.pending ∧
    (searchStep sinks st s).memGen = s.memGen ∧ (searchStep sinks st s).mem = s.mem := by
  unfold searchStep
  simp only [noStrobe_kept, strobe_kept, ite_part, ite_pending, ite_memGen, ite_mem, ite_self, and_self]

@[simp] theorem laneTake_kept (sinks : Nat) (st : Nat) (dark : Bool) (s : State) :
    (laneTake sinks st dark s).part = s.part ∧ (laneTake sinks st dark s).pending = s.pending ∧
    (laneTake sinks st dark s).memGen = s.memGen ∧ (laneTake sinks st dark s).mem = s.mem := by
  unfold laneTake
  simp only [State.setLane_kept, ite_part, ite_pending, ite_memGen, ite_mem, ite_self, and_self]

@[simp] theorem countFlashes_kept (mask : Nat) (s : State) :
    (countFlashes mask s).part = s.part ∧ (countFlashes mask s).pending = s.pending ∧
    (countFlashes mask s).memGen = s.memGen ∧ (countFlashes mask s).mem = s.mem := by
  unfold countFlashes
  simp only [pinFlashes_kept, ite_part, ite_pending, ite_memGen, ite_mem, ite_self, and_self]

@[simp] theorem flashTake_kept (g : Nat) (s : State) :
    (flashTake g s).part = s.part ∧ (flashTake g s).pending = s.pending ∧ (flashTake g s).memGen = s.memGen ∧
    (flashTake g s).mem = s.mem := by
  unfold flashTake
  simp only [State.setGroup_kept, countFlashes_kept, ite_part, ite_pending, ite_memGen, ite_mem, ite_self, and_self]

@[simp] theorem flashShow_kept (g : Nat) (s : State) :
    (flashShow g s).part = s.part ∧ (flashShow g s).pending = s.pending ∧ (flashShow g s).memGen = s.memGen ∧
    (flashShow g s).mem = s.mem := by
  unfold flashShow
  simp only [State.setGroup_kept, countFlashes_kept, ite_part, ite_pending, ite_memGen, ite_mem, ite_self, and_self]

@[simp] theorem flashStep_kept (s : State) :
    (flashStep s).part = s.part ∧ (flashStep s).pending = s.pending ∧ (flashStep s).memGen = s.memGen ∧
    (flashStep s).mem = s.mem := by
  unfold flashStep
  simp only [flashShow_kept, flashTake_kept, foldl_part, foldl_pending, foldl_memGen, foldl_mem, and_self, implies_true]

@[simp] theorem probeLog_kept (s : State) :
    (probeLog s).part = s.part ∧ (probeLog s).pending = s.pending ∧ (probeLog s).memGen = s.memGen ∧
    (probeLog s).mem = s.mem := by
  unfold probeLog
  simp only [dropLogWord_kept, logWord_kept, ite_part, ite_pending, ite_memGen, ite_mem, ite_self, and_self]

@[simp] theorem probeStep_kept (s : State) :
    (probeStep s).part = s.part ∧ (probeStep s).pending = s.pending ∧ (probeStep s).memGen = s.memGen ∧
    (probeStep s).mem = s.mem := by
  unfold probeStep
  exact ⟨by with_reducible rfl, by with_reducible rfl, by with_reducible rfl, by with_reducible rfl⟩

@[simp] theorem probeShift_kept (s : State) :
    (probeShift s).part = s.part ∧ (probeShift s).pending = s.pending ∧ (probeShift s).memGen = s.memGen ∧
    (probeShift s).mem = s.mem := by
  unfold probeShift
  exact ⟨by with_reducible rfl, by with_reducible rfl, by with_reducible rfl, by with_reducible rfl⟩

@[simp] theorem snapshot_kept (st : Nat) (s : State) :
    (snapshot st s).part = s.part ∧ (snapshot st s).pending = s.pending ∧ (snapshot st s).memGen = s.memGen ∧
    (snapshot st s).mem = s.mem := by
  unfold snapshot
  simp only [State.setStation_kept, ite_part, ite_pending, ite_memGen, ite_mem, ite_self, and_self]

@[simp] theorem snapshots_kept (s : State) :
    (snapshots s).part = s.part ∧ (snapshots s).pending = s.pending ∧ (snapshots s).memGen = s.memGen ∧
    (snapshots s).mem = s.mem := by
  unfold snapshots
  simp only [snapshot_kept, foldl_part, foldl_pending, foldl_memGen, foldl_mem, and_self, implies_true]

@[simp] theorem stationEnd_kept (s0 : State) (st : Nat) (s : State) :
    (stationEnd s0 st s).part = s.part ∧ (stationEnd s0 st s).pending = s.pending ∧ (stationEnd s0 st s).memGen = s.memGen ∧
    (stationEnd s0 st s).mem = s.mem := by
  unfold stationEnd
  simp only [State.setStation_kept, and_self]

@[simp] theorem stationAsks_kept (ecc : List PortEcc) (st : Nat) (s : State) :
    (stationAsks ecc st s).part = s.part ∧ (stationAsks ecc st s).pending = s.pending ∧
    (stationAsks ecc st s).memGen = s.memGen := by
  unfold stationAsks
  simp only [holdPorts_kept, laneTake_kept, searchStep_kept, ssuStep_kept, and_self]

@[simp] theorem unitCycles_kept (s0 : State) (s : State) :
    (unitCycles s0 s).part = s.part ∧ (unitCycles s0 s).pending = s.pending ∧ (unitCycles s0 s).memGen = s.memGen := by
  unfold unitCycles
  simp only [unitCycle_kept, foldl_part, foldl_pending, foldl_memGen, and_self, implies_true]

@[simp] theorem fabricCycle_kept (ecc : List PortEcc) (s : State) :
    (fabricCycle ecc s).part = s.part ∧ (fabricCycle ecc s).pending = s.pending ∧ (fabricCycle ecc s).memGen = s.memGen := by
  unfold fabricCycle
  simp only [flashStep_kept, probeLog_kept, probeStep_kept, snapshots_kept, stationAsks_kept, stationEnd_kept,
      unitCycles_kept, foldl_part, foldl_pending, foldl_memGen, and_self, implies_true]

@[simp] theorem nocCycles_kept (s : State) :
    (nocCycles s).part = s.part ∧ (nocCycles s).pending = s.pending ∧ (nocCycles s).memGen = s.memGen := by
  unfold nocCycles
  simp only [guardStep_kept, nocGrants_kept, and_self]

@[simp] theorem dropShown_kept (s : State) :
    (dropShown s).part = s.part ∧ (dropShown s).pending = s.pending ∧ (dropShown s).memGen = s.memGen ∧
    (dropShown s).mem = s.mem := by
  unfold dropShown
  exact ⟨by with_reducible rfl, by with_reducible rfl, by with_reducible rfl, by with_reducible rfl⟩

@[simp] theorem lanesStep_kept (s : State) :
    (lanesStep s).part = s.part ∧ (lanesStep s).pending = s.pending ∧ (lanesStep s).memGen = s.memGen ∧
    (lanesStep s).mem = s.mem := by
  unfold lanesStep
  simp only [framesLeave_kept, lanesTransmit_kept, ite_part, ite_pending, ite_memGen, ite_mem, ite_self, and_self]

@[simp] theorem execFabCycle_kept (ecc : List PortEcc) (early : List EarlyPair) (pins : BitVec 96) (floating : BitVec 96)
    (s : State) :
    (after (execFabCycle ecc early pins floating s) s).part = s.part ∧
    (after (execFabCycle ecc early pins floating s) s).pending = s.pending ∧
    (after (execFabCycle ecc early pins floating s) s).memGen = s.memGen := by
  unfold execFabCycle
  simp only [deferRaises_kept, drivePins_kept, dropShown_kept, fabricCycle_kept, lanesStep_kept, nocCycles_kept,
      pinsCycle_kept, probeShift_kept, settle_kept, takeRaises_kept, ite_part, ite_pending, ite_memGen, ite_self, and_self,
      after_ite, after_done, settle_kept]

@[simp] theorem execProbeLogDrop_kept (s : State) :
    (after (execProbeLogDrop s) s).part = s.part ∧ (after (execProbeLogDrop s) s).pending = s.pending ∧
    (after (execProbeLogDrop s) s).memGen = s.memGen ∧ (after (execProbeLogDrop s) s).mem = s.mem := by
  unfold execProbeLogDrop
  simp only [dropLogWord_kept, and_self, settle_kept, after_doneFab, deferRaises_kept]

end Sys2Proof.Machine
end

