-- ==== Sys2Proof/Laws/FencesKept.lean ====
section
/-! SUPPORT. What the functions of Machine/Fences.lean keep: the factory part, the queue, and memory where they do not write it. -/

namespace Sys2Proof.Machine

@[simp] theorem switchOff_kept (k : Nat) (s : State) :
    (switchOff k s).part = s.part ∧ (switchOff k s).pending = s.pending ∧ (switchOff k s).memGen = s.memGen ∧
    (switchOff k s).mem = s.mem := by
  unfold switchOff
  simp only [raise_kept, ite_part, ite_pending, ite_memGen, ite_mem, ite_self, and_self]

@[simp] theorem patternOff_kept (s : State) :
    (patternOff s).part = s.part ∧ (patternOff s).pending = s.pending ∧ (patternOff s).memGen = s.memGen ∧
    (patternOff s).mem = s.mem := by
  unfold patternOff
  simp only [raise_kept, ite_part, ite_pending, ite_memGen, ite_mem, ite_self, and_self]

@[simp] theorem closeEntry_kept (s : State) :
    (closeEntry s).part = s.part ∧ (closeEntry s).pending = s.pending ∧ (closeEntry s).memGen = s.memGen ∧
    (closeEntry s).mem = s.mem := by
  unfold closeEntry
  simp only [ite_part, ite_pending, ite_memGen, ite_mem, ite_self, and_self]

@[simp] theorem fenceAcked_kept (n : Nat) (s : State) :
    (fenceAcked n s).part = s.part ∧ (fenceAcked n s).pending = s.pending ∧ (fenceAcked n s).memGen = s.memGen ∧
    (fenceAcked n s).mem = s.mem := by
  unfold fenceAcked
  simp only [closeEntry_kept, keeperAck_kept, patternOff_kept, switchOff_kept, withPowerEvent_part, withPowerEvent_pending,
      withPowerEvent_memGen, withPowerEvent_mem, ite_part, ite_pending, ite_memGen, ite_mem, ite_self, and_self,
      implies_true]

@[simp] theorem execFenceAck_kept (n : Fin 101) (s : State) :
    (after (execFenceAck n s) s).part = s.part ∧ (after (execFenceAck n s) s).pending = s.pending ∧
    (after (execFenceAck n s) s).memGen = s.memGen ∧ (after (execFenceAck n s) s).mem = s.mem := by
  unfold execFenceAck
  simp only [fenceAcked_kept, raise_kept, setFenceState_kept, ite_part, ite_pending, ite_memGen, ite_mem, ite_self,
      and_self, after_ite, after_done, settle_kept]

@[simp] theorem withdraw_kept (r : ReqId) (s : State) :
    (withdraw r s).part = s.part ∧ (withdraw r s).pending = s.pending ∧ (withdraw r s).memGen = s.memGen ∧
    (withdraw r s).mem = s.mem := by
  unfold withdraw
  exact ⟨by with_reducible rfl, by with_reducible rfl, by with_reducible rfl, by with_reducible rfl⟩

@[simp] theorem execFenceDrainForced_kept (n : Fin 101) (s : State) :
    (after (execFenceDrainForced n s) s).part = s.part ∧ (after (execFenceDrainForced n s) s).pending = s.pending ∧
    (after (execFenceDrainForced n s) s).memGen = s.memGen := by
  unfold execFenceDrainForced
  simp only [answerStatus_kept, endEarly_kept, fenceAcked_kept, raise_kept, setFenceState_kept, withdraw_kept, ite_part,
      ite_pending, ite_memGen, foldl_part, foldl_pending, foldl_memGen, ite_self, and_self, implies_true, after_ite,
      after_done, settle_kept]

@[simp] theorem issueHeld_kept (n : Nat) (s : State) :
    (issueHeld n s).part = s.part ∧ (issueHeld n s).pending = s.pending ∧ (issueHeld n s).memGen = s.memGen ∧
    (issueHeld n s).mem = s.mem := by
  unfold issueHeld
  exact ⟨by with_reducible rfl, by with_reducible rfl, by with_reducible rfl, by with_reducible rfl⟩

@[simp] theorem execFenceLiftDone_kept (n : Fin 101) (s : State) :
    (after (execFenceLiftDone n s) s).part = s.part ∧ (after (execFenceLiftDone n s) s).pending = s.pending ∧
    (after (execFenceLiftDone n s) s).memGen = s.memGen ∧ (after (execFenceLiftDone n s) s).mem = s.mem := by
  unfold execFenceLiftDone
  simp only [issueHeld_kept, setFenceState_kept, ite_part, ite_pending, ite_memGen, ite_mem, ite_self, and_self, after_ite,
      after_done, settle_kept]

@[simp] theorem fenceWrite_kept (word : Nat) (s : State) :
    (fenceWrite word s).2.part = s.part ∧ (fenceWrite word s).2.pending = s.pending ∧
    (fenceWrite word s).2.memGen = s.memGen ∧ (fenceWrite word s).2.mem = s.mem := by
  unfold fenceWrite
  simp only [fenceBegin_kept, fenceEnd_kept, raise_kept, ite_part, ite_pending, ite_memGen, ite_mem, ite_self, ite_snd,
      and_self]

@[simp] theorem execFenceRequest_kept (path : Path) (word : BitVec 16) (s : State) :
    (after (execFenceRequest path word s) s).part = s.part ∧ (after (execFenceRequest path word s) s).pending = s.pending ∧
    (after (execFenceRequest path word s) s).memGen = s.memGen ∧ (after (execFenceRequest path word s) s).mem = s.mem := by
  unfold execFenceRequest
  simp only [fenceWrite_kept, onPath_part, onPath_pending, onPath_memGen, onPath_mem, and_self, after_done, settle_kept]

@[simp] theorem execFenceLift_kept (path : Path) (word : BitVec 16) (s : State) :
    (after (execFenceLift path word s) s).part = s.part ∧ (after (execFenceLift path word s) s).pending = s.pending ∧
    (after (execFenceLift path word s) s).memGen = s.memGen ∧ (after (execFenceLift path word s) s).mem = s.mem := by
  unfold execFenceLift
  simp only [fenceWrite_kept, onPath_part, onPath_pending, onPath_memGen, onPath_mem, and_self, after_done, settle_kept]

end Sys2Proof.Machine
end

