-- ==== Sys2Proof/Laws/SecurityKept.lean ====
section
/-! SUPPORT. What the functions of Machine/Security.lean keep: the factory part, the queue, and memory where they do not write it. -/

namespace Sys2Proof.Machine

@[simp] theorem startWipe_kept (s : State) :
    (startWipe s).part = s.part ∧ (startWipe s).pending = s.pending ∧ (startWipe s).memGen = s.memGen := by
  unfold startWipe
  exact ⟨by with_reducible rfl, by with_reducible rfl, by with_reducible rfl⟩

@[simp] theorem execSecureSramWipeDone_kept (s : State) :
    (after (execSecureSramWipeDone s) s).part = s.part ∧ (after (execSecureSramWipeDone s) s).pending = s.pending ∧
    (after (execSecureSramWipeDone s) s).memGen = s.memGen ∧ (after (execSecureSramWipeDone s) s).mem = s.mem := by
  unfold execSecureSramWipeDone
  simp only [raise_kept, ite_part, ite_pending, ite_memGen, ite_mem, ite_self, and_self, after_ite, after_done, settle_kept]

@[simp] theorem zeroLinkKeys_kept (s : State) :
    (zeroLinkKeys s).part = s.part ∧ (zeroLinkKeys s).pending = s.pending ∧ (zeroLinkKeys s).memGen = s.memGen ∧
    (zeroLinkKeys s).mem = s.mem := by
  unfold zeroLinkKeys
  simp only [State.setGroup_kept, foldl_part, foldl_pending, foldl_memGen, foldl_mem, and_self, implies_true]

@[simp] theorem abandonReport_kept (s : State) :
    (abandonReport s).part = s.part ∧ (abandonReport s).pending = s.pending ∧ (abandonReport s).memGen = s.memGen ∧
    (abandonReport s).mem = s.mem := by
  unfold abandonReport
  simp only [ite_part, ite_pending, ite_memGen, ite_mem, ite_self, and_self]

@[simp] theorem respondAll_kept (s : State) :
    (respondAll s).part = s.part ∧ (respondAll s).pending = s.pending ∧ (respondAll s).memGen = s.memGen := by
  unfold respondAll
  simp only [abandonReport_kept, respondChannel_kept, startWipe_kept, zeroLinkKeys_kept, foldl_part, foldl_pending,
      foldl_memGen, and_self, implies_true]

@[simp] theorem securityResponse_kept (bits : Nat) (s : State) :
    (securityResponse bits s).part = s.part ∧ (securityResponse bits s).pending = s.pending ∧
    (securityResponse bits s).memGen = s.memGen := by
  unfold securityResponse
  simp only [alarm_kept, respondAll_kept, and_self]

@[simp] theorem execTamperLatch_kept (pin : Fin 2) (s : State) :
    (after (execTamperLatch pin s) s).part = s.part ∧ (after (execTamperLatch pin s) s).pending = s.pending ∧
    (after (execTamperLatch pin s) s).memGen = s.memGen := by
  unfold execTamperLatch
  simp only [securityResponse_kept, ite_part, ite_pending, ite_memGen, ite_self, and_self, after_ite, after_done,
      settle_kept]

@[simp] theorem execGlitchDetected_kept (voltage : Bool) (s : State) :
    (after (execGlitchDetected voltage s) s).part = s.part ∧ (after (execGlitchDetected voltage s) s).pending = s.pending ∧
    (after (execGlitchDetected voltage s) s).memGen = s.memGen := by
  unfold execGlitchDetected
  simp only [securityResponse_kept, ite_part, ite_pending, ite_memGen, ite_self, and_self, after_ite, after_done,
      settle_kept]

@[simp] theorem zeroDramKeys_kept (s : State) :
    (zeroDramKeys s).part = s.part ∧ (zeroDramKeys s).pending = s.pending ∧ (zeroDramKeys s).memGen = s.memGen ∧
    (zeroDramKeys s).mem = s.mem := by
  unfold zeroDramKeys
  simp only [State.setChannel_kept, foldl_part, foldl_pending, foldl_memGen, foldl_mem, and_self, implies_true]

@[simp] theorem lcAccept_kept (data : List Byte) (s : State) :
    (lcAccept data s).part = s.part ∧ (lcAccept data s).pending = s.pending ∧ (lcAccept data s).memGen = s.memGen := by
  unfold lcAccept
  simp only [startWipe_kept, zeroDramKeys_kept, zeroLinkKeys_kept, and_self]

@[simp] theorem lcWrite_kept (data : List Byte) (s : State) :
    (lcWrite data s).2.part = s.part ∧ (lcWrite data s).2.pending = s.pending ∧ (lcWrite data s).2.memGen = s.memGen := by
  unfold lcWrite
  simp only [alarm_kept, freshNonce_kept, lcAccept_kept, raise_kept, ite_part, ite_pending, ite_memGen, ite_self, ite_snd,
      and_self]

@[simp] theorem execLcRequestDeployed_kept (path : Path) (data : List Byte) (s : State) :
    (after (execLcRequestDeployed path data s) s).part = s.part ∧
    (after (execLcRequestDeployed path data s) s).pending = s.pending ∧
    (after (execLcRequestDeployed path data s) s).memGen = s.memGen := by
  unfold execLcRequestDeployed
  simp only [lcWrite_kept, onPath_part, onPath_pending, onPath_memGen, and_self, after_done, settle_kept]

@[simp] theorem execLcRequestReturned_kept (path : Path) (data : List Byte) (s : State) :
    (after (execLcRequestReturned path data s) s).part = s.part ∧
    (after (execLcRequestReturned path data s) s).pending = s.pending ∧
    (after (execLcRequestReturned path data s) s).memGen = s.memGen := by
  unfold execLcRequestReturned
  simp only [lcWrite_kept, onPath_part, onPath_pending, onPath_memGen, and_self, after_done, settle_kept]

@[simp] theorem execLcRequestScrapped_kept (path : Path) (data : List Byte) (s : State) :
    (after (execLcRequestScrapped path data s) s).part = s.part ∧
    (after (execLcRequestScrapped path data s) s).pending = s.pending ∧
    (after (execLcRequestScrapped path data s) s).memGen = s.memGen := by
  unfold execLcRequestScrapped
  simp only [lcWrite_kept, onPath_part, onPath_pending, onPath_memGen, and_self, after_done, settle_kept]

@[simp] theorem execLifeCycleReset_kept (multi : Bool) (role : Bool) (s : State) :
    (after (execLifeCycleReset multi role s) s).part = s.part ∧
    (after (execLifeCycleReset multi role s) s).pending = s.pending := by
  unfold execLifeCycleReset
  simp only [resetSource_kept, ite_part, ite_pending, ite_self, and_self, after_ite, after_done, settle_kept]

@[simp] theorem attestWrite_kept (nonce : List Byte) (s : State) :
    (attestWrite nonce s).2.part = s.part ∧ (attestWrite nonce s).2.pending = s.pending ∧
    (attestWrite nonce s).2.memGen = s.memGen ∧ (attestWrite nonce s).2.mem = s.mem := by
  unfold attestWrite
  simp only [ite_part, ite_pending, ite_memGen, ite_mem, ite_self, ite_snd, and_self]

@[simp] theorem execAttestationRequest_kept (path : Path) (nonce : List Byte) (s : State) :
    (after (execAttestationRequest path nonce s) s).part = s.part ∧
    (after (execAttestationRequest path nonce s) s).pending = s.pending ∧
    (after (execAttestationRequest path nonce s) s).memGen = s.memGen ∧
    (after (execAttestationRequest path nonce s) s).mem = s.mem := by
  unfold execAttestationRequest
  simp only [attestWrite_kept, onPath_part, onPath_pending, onPath_memGen, onPath_mem, and_self, after_done, settle_kept]

@[simp] theorem execAttestationDone_kept (s : State) :
    (after (execAttestationDone s) s).part = s.part ∧ (after (execAttestationDone s) s).pending = s.pending ∧
    (after (execAttestationDone s) s).memGen = s.memGen ∧ (after (execAttestationDone s) s).mem = s.mem := by
  unfold execAttestationDone
  simp only [raise_kept, ite_part, ite_pending, ite_memGen, ite_mem, ite_self, and_self, after_ite, after_done, settle_kept]

@[simp] theorem linkKeyWrite_kept (data : List Byte) (s : State) :
    (linkKeyWrite data s).2.part = s.part ∧ (linkKeyWrite data s).2.pending = s.pending ∧
    (linkKeyWrite data s).2.memGen = s.memGen ∧ (linkKeyWrite data s).2.mem = s.mem := by
  unfold linkKeyWrite
  simp only [State.setGroup_kept, ite_part, ite_pending, ite_memGen, ite_mem, ite_self, ite_snd, and_self]

@[simp] theorem execLinkKeyLoad_kept (path : Path) (data : List Byte) (s : State) :
    (after (execLinkKeyLoad path data s) s).part = s.part ∧ (after (execLinkKeyLoad path data s) s).pending = s.pending ∧
    (after (execLinkKeyLoad path data s) s).memGen = s.memGen ∧ (after (execLinkKeyLoad path data s) s).mem = s.mem := by
  unfold execLinkKeyLoad
  simp only [linkKeyWrite_kept, onPath_part, onPath_pending, onPath_memGen, onPath_mem, and_self, after_done, settle_kept]

@[simp] theorem applyLinkKey_kept (g : Nat) (s : State) :
    (applyLinkKey g s).part = s.part ∧ (applyLinkKey g s).pending = s.pending ∧ (applyLinkKey g s).memGen = s.memGen ∧
    (applyLinkKey g s).mem = s.mem := by
  unfold applyLinkKey
  simp only [State.setGroup_kept, raise_kept, ite_part, ite_pending, ite_memGen, ite_mem, ite_self, and_self]

@[simp] theorem applyLinkKeys_kept (s : State) :
    (applyLinkKeys s).part = s.part ∧ (applyLinkKeys s).pending = s.pending ∧ (applyLinkKeys s).memGen = s.memGen ∧
    (applyLinkKeys s).mem = s.mem := by
  unfold applyLinkKeys
  simp only [applyLinkKey_kept, foldl_part, foldl_pending, foldl_memGen, foldl_mem, and_self, implies_true]

end Sys2Proof.Machine
end

