-- ==== Sys2Proof/Laws/ResetKept.lean ====
section
/-! SUPPORT. What the functions of Machine/Reset.lean keep: the factory part, the queue, and memory where they do not write it. -/

namespace Sys2Proof.Machine

@[simp] theorem wornOut_kept (r : Nat) (s : State) :
    (wornOut r s).part = s.part ∧ (wornOut r s).pending = s.pending ∧ (wornOut r s).memGen = s.memGen ∧
    (wornOut r s).mem = s.mem := by
  unfold wornOut
  simp only [raise_kept, and_self]

@[simp] theorem countNvm_kept (r : Nat) (s : State) :
    (countNvm r s).part = s.part ∧ (countNvm r s).pending = s.pending ∧ (countNvm r s).memGen = s.memGen ∧
    (countNvm r s).mem = s.mem := by
  unfold countNvm
  exact ⟨by with_reducible rfl, by with_reducible rfl, by with_reducible rfl, by with_reducible rfl⟩

@[simp] theorem writeCopyA_kept (img : List Byte) (s : State) :
    (writeCopyA img s).2.part = s.part ∧ (writeCopyA img s).2.pending = s.pending ∧ (writeCopyA img s).2.memGen = s.memGen ∧
    (writeCopyA img s).2.mem = s.mem := by
  unfold writeCopyA
  simp only [countNvm_kept, wornOut_kept, ite_part, ite_pending, ite_memGen, ite_mem, ite_self, ite_snd, and_self]

@[simp] theorem writeOptions_kept (img : List Byte) (verifyB : Bool) (s : State) :
    (writeOptions img verifyB s).2.part = s.part ∧ (writeOptions img verifyB s).2.pending = s.pending ∧
    (writeOptions img verifyB s).2.memGen = s.memGen ∧ (writeOptions img verifyB s).2.mem = s.mem := by
  unfold writeOptions
  simp only [State.draw_kept, countNvm_kept, wornOut_kept, writeCopyA_kept, ite_part, ite_pending, ite_memGen, ite_mem,
      ite_self, ite_snd, and_self]

@[simp] theorem pendNvm_kept (mask : Nat) (s : State) :
    (pendNvm mask s).part = s.part ∧ (pendNvm mask s).pending = s.pending ∧ (pendNvm mask s).memGen = s.memGen ∧
    (pendNvm mask s).mem = s.mem := by
  unfold pendNvm
  simp only [raise_kept, and_self]

@[simp] theorem dropOptions_kept (s : State) :
    (dropOptions s).part = s.part ∧ (dropOptions s).pending = s.pending ∧ (dropOptions s).memGen = s.memGen ∧
    (dropOptions s).mem = s.mem := by
  unfold dropOptions
  exact ⟨by with_reducible rfl, by with_reducible rfl, by with_reducible rfl, by with_reducible rfl⟩

@[simp] theorem optionWrite_kept (data : List Byte) (verifyB : Bool) (s : State) :
    (optionWrite data verifyB s).2.part = s.part ∧ (optionWrite data verifyB s).2.pending = s.pending ∧
    (optionWrite data verifyB s).2.memGen = s.memGen ∧ (optionWrite data verifyB s).2.mem = s.mem := by
  unfold optionWrite
  simp only [dropOptions_kept, pendNvm_kept, writeOptions_kept, ite_part, ite_pending, ite_memGen, ite_mem, ite_self,
      ite_snd, and_self]

@[simp] theorem execOptionWrite_kept (path : Path) (data : List Byte) (verifyB : Bool) (s : State) :
    (after (execOptionWrite path data verifyB s) s).part = s.part ∧
    (after (execOptionWrite path data verifyB s) s).pending = s.pending ∧
    (after (execOptionWrite path data verifyB s) s).memGen = s.memGen ∧
    (after (execOptionWrite path data verifyB s) s).mem = s.mem := by
  unfold execOptionWrite
  simp only [onPath_part, onPath_pending, onPath_memGen, onPath_mem, optionWrite_kept, and_self, after_done, settle_kept]

@[simp] theorem copyShutdown_kept (s : State) :
    (copyShutdown s).part = s.part ∧ (copyShutdown s).pending = s.pending ∧ (copyShutdown s).memGen = s.memGen ∧
    (copyShutdown s).mem = s.mem := by
  unfold copyShutdown
  simp only [countNvm_kept, wornOut_kept, ite_part, ite_pending, ite_memGen, ite_mem, ite_self, and_self]

@[simp] theorem performNvm_kept (s : State) :
    (performNvm s).part = s.part ∧ (performNvm s).pending = s.pending ∧ (performNvm s).memGen = s.memGen ∧
    (performNvm s).mem = s.mem := by
  unfold performNvm
  simp only [State.draw_kept, copyShutdown_kept, writeOptions_kept, ite_part, ite_pending, ite_memGen, ite_mem, ite_self,
      and_self]

@[simp] theorem execPowerOnRelease_kept (resetLow : Bool) (multi : Bool) (roleHigh : Bool) (backupLost : Bool)
    (options : Option (List Byte × List Byte)) (s : State) :
    (after (execPowerOnRelease resetLow multi roleHigh backupLost options s) s).part = s.part ∧
    (after (execPowerOnRelease resetLow multi roleHigh backupLost options s) s).pending = s.pending := by
  unfold execPowerOnRelease
  (repeat' split) <;> simp only [coldBase_kept, coldLoad_kept, holdReset_kept, logReset_kept, loseBackup_kept, and_self, after_done, settle_kept]

@[simp] theorem execResetPin_kept (low : Bool) (multi : Bool) (role : Bool) (s : State) :
    (after (execResetPin low multi role s) s).part = s.part ∧
    (after (execResetPin low multi role s) s).pending = s.pending := by
  unfold execResetPin
  simp only [coldLoad_kept, holdReset_kept, logReset_kept, ite_part, ite_pending, ite_self, and_self, after_ite, after_done,
      settle_kept]

@[simp] theorem execWresetPin_kept (multi : Bool) (s : State) :
    (after (execWresetPin multi s) s).part = s.part ∧ (after (execWresetPin multi s) s).pending = s.pending := by
  unfold execWresetPin
  simp only [resetSource_kept, and_self, after_done, settle_kept]

@[simp] theorem requestReset_kept (warm : Bool) (path : Nat) (s : State) :
    (requestReset warm path s).part = s.part ∧ (requestReset warm path s).pending = s.pending ∧
    (requestReset warm path s).memGen = s.memGen ∧ (requestReset warm path s).mem = s.mem := by
  unfold requestReset
  (repeat' split) <;> simp only [and_self]

@[simp] theorem resetRequestWrite_kept (value : Nat) (path : Nat) (s : State) :
    (resetRequestWrite value path s).2.part = s.part ∧ (resetRequestWrite value path s).2.pending = s.pending ∧
    (resetRequestWrite value path s).2.memGen = s.memGen ∧ (resetRequestWrite value path s).2.mem = s.mem := by
  unfold resetRequestWrite
  simp only [requestReset_kept, ite_part, ite_pending, ite_memGen, ite_mem, ite_self, ite_snd, and_self]

@[simp] theorem execResetRequestWarm_kept (path : Path) (s : State) :
    (after (execResetRequestWarm path s) s).part = s.part ∧ (after (execResetRequestWarm path s) s).pending = s.pending ∧
    (after (execResetRequestWarm path s) s).memGen = s.memGen ∧ (after (execResetRequestWarm path s) s).mem = s.mem := by
  unfold execResetRequestWarm
  simp only [onPath_part, onPath_pending, onPath_memGen, onPath_mem, resetRequestWrite_kept, and_self, after_done,
      settle_kept]

@[simp] theorem execResetRequestCold_kept (path : Path) (s : State) :
    (after (execResetRequestCold path s) s).part = s.part ∧ (after (execResetRequestCold path s) s).pending = s.pending ∧
    (after (execResetRequestCold path s) s).memGen = s.memGen ∧ (after (execResetRequestCold path s) s).mem = s.mem := by
  unfold execResetRequestCold
  simp only [onPath_part, onPath_pending, onPath_memGen, onPath_mem, resetRequestWrite_kept, and_self, after_done,
      settle_kept]

@[simp] theorem execDictResetTakesEffect_kept (multi : Bool) (role : Bool) (s : State) :
    (after (execDictResetTakesEffect multi role s) s).part = s.part ∧
    (after (execDictResetTakesEffect multi role s) s).pending = s.pending := by
  unfold execDictResetTakesEffect
  (repeat' split) <;> simp only [resetSource_kept, and_self, after_done, settle_kept]

@[simp] theorem execRailOutOfWindow_kept (multi : Bool) (s : State) :
    (after (execRailOutOfWindow multi s) s).part = s.part ∧ (after (execRailOutOfWindow multi s) s).pending = s.pending := by
  unfold execRailOutOfWindow
  simp only [coldBase_kept, logReset_kept, ite_part, ite_pending, ite_self, and_self, after_ite, after_done, settle_kept]

@[simp] theorem execOptionShadowParity_kept (multi : Bool) (role : Bool) (s : State) :
    (after (execOptionShadowParity multi role s) s).part = s.part ∧
    (after (execOptionShadowParity multi role s) s).pending = s.pending := by
  unfold execOptionShadowParity
  simp only [resetSource_kept, and_self, after_done, settle_kept]

@[simp] theorem execClockStateParity_kept (multi : Bool) (role : Bool) (s : State) :
    (after (execClockStateParity multi role s) s).part = s.part ∧
    (after (execClockStateParity multi role s) s).pending = s.pending := by
  unfold execClockStateParity
  simp only [resetSource_kept, and_self, after_done, settle_kept]

@[simp] theorem execDictEngineStateError_kept (multi : Bool) (s : State) :
    (after (execDictEngineStateError multi s) s).part = s.part ∧
    (after (execDictEngineStateError multi s) s).pending = s.pending := by
  unfold execDictEngineStateError
  simp only [resetSource_kept, and_self, after_done, settle_kept]

@[simp] theorem execNocTableParity_kept (multi : Bool) (s : State) :
    (after (execNocTableParity multi s) s).part = s.part ∧ (after (execNocTableParity multi s) s).pending = s.pending := by
  unfold execNocTableParity
  simp only [resetSource_kept, and_self, after_done, settle_kept]

@[simp] theorem serviceMilestones_kept (s : State) :
    (serviceMilestones s).part = s.part ∧ (serviceMilestones s).pending = s.pending ∧
    (serviceMilestones s).memGen = s.memGen ∧ (serviceMilestones s).mem = s.mem := by
  unfold serviceMilestones
  simp only [milestone_kept, ite_part, ite_pending, ite_memGen, ite_mem, ite_self, and_self]

@[simp] theorem lanternStart_kept (s : State) :
    (lanternStart s).part = s.part ∧ (lanternStart s).pending = s.pending ∧ (lanternStart s).memGen = s.memGen ∧
    (lanternStart s).mem = s.mem := by
  unfold lanternStart
  simp only [ite_part, ite_pending, ite_memGen, ite_mem, ite_self, and_self]

@[simp] theorem reportShutdown_kept (s : State) :
    (reportShutdown s).part = s.part ∧ (reportShutdown s).pending = s.pending ∧ (reportShutdown s).memGen = s.memGen ∧
    (reportShutdown s).mem = s.mem := by
  unfold reportShutdown
  simp only [copyShutdown_kept, pendNvm_kept, raise_kept, ite_part, ite_pending, ite_memGen, ite_mem, ite_self, and_self]

@[simp] theorem answerTamper_kept (s : State) :
    (answerTamper s).part = s.part ∧ (answerTamper s).pending = s.pending ∧ (answerTamper s).memGen = s.memGen := by
  unfold answerTamper
  simp only [securityResponse_kept, ite_part, ite_pending, ite_memGen, ite_self, and_self]

@[simp] theorem toService_kept (s : State) :
    (toService s).part = s.part ∧ (toService s).pending = s.pending ∧ (toService s).memGen = s.memGen ∧
    (toService s).mem = s.mem := by
  unfold toService
  simp only [bootUp_kept, freshTx_kept, lanternStart_kept, raise_kept, serviceMilestones_kept, setNmt_kept, and_self]

@[simp] theorem execEnterService_kept (s : State) :
    (after (execEnterService s) s).part = s.part ∧ (after (execEnterService s) s).pending = s.pending ∧
    (after (execEnterService s) s).memGen = s.memGen := by
  unfold execEnterService
  simp only [answerTamper_kept, reportShutdown_kept, toService_kept, ite_part, ite_pending, ite_memGen, ite_self, and_self,
      after_ite, after_done, settle_kept]

@[simp] theorem blockWrite_part (sub : Nat) (n : Nat) (base : Nat) (held : Nat → State → State) (value : Nat) (s : State)
    (h_held : ∀ (y0 : Nat) (y1 : State),
    (held y0 y1).part = y1.part) : (blockWrite sub n base held value s).part = s.part := by
  unfold blockWrite
  simp only [State.setObj_kept, h_held, ite_part, foldl_part, ite_self, implies_true]

@[simp] theorem blockWrite_pending (sub : Nat) (n : Nat) (base : Nat) (held : Nat → State → State) (value : Nat)
    (s : State) (h_held : ∀ (y0 : Nat) (y1 : State),
    (held y0 y1).pending = y1.pending) : (blockWrite sub n base held value s).pending = s.pending := by
  unfold blockWrite
  simp only [State.setObj_kept, h_held, ite_pending, foldl_pending, ite_self, implies_true]

@[simp] theorem blockWrite_memGen (sub : Nat) (n : Nat) (base : Nat) (held : Nat → State → State) (value : Nat) (s : State)
    (h_held : ∀ (y0 : Nat) (y1 : State),
    (held y0 y1).memGen = y1.memGen) : (blockWrite sub n base held value s).memGen = s.memGen := by
  unfold blockWrite
  simp only [State.setObj_kept, h_held, ite_memGen, foldl_memGen, ite_self, implies_true]

@[simp] theorem blockWrite_mem (sub : Nat) (n : Nat) (base : Nat) (held : Nat → State → State) (value : Nat) (s : State)
    (h_held : ∀ (y0 : Nat) (y1 : State), (held y0 y1).mem = y1.mem) : (blockWrite sub n base held value s).mem = s.mem := by
  unfold blockWrite
  simp only [State.setObj_kept, h_held, ite_mem, foldl_mem, ite_self, implies_true]

@[simp] theorem blockObject_part (sub : Nat) (n : Nat) (base : Nat) (len : Nat) (held : Nat → State → State)
    (data : List Byte) (s : State) (h_held : ∀ (y0 : Nat) (y1 : State),
    (held y0 y1).part = y1.part) : (blockObject sub n base len held data s).2.part = s.part := by
  unfold blockObject
  simp only [blockWrite_part, h_held, ite_part, ite_self, ite_snd, implies_true]

@[simp] theorem blockObject_pending (sub : Nat) (n : Nat) (base : Nat) (len : Nat) (held : Nat → State → State)
    (data : List Byte) (s : State) (h_held : ∀ (y0 : Nat) (y1 : State),
    (held y0 y1).pending = y1.pending) : (blockObject sub n base len held data s).2.pending = s.pending := by
  unfold blockObject
  simp only [blockWrite_pending, h_held, ite_pending, ite_self, ite_snd, implies_true]

@[simp] theorem blockObject_memGen (sub : Nat) (n : Nat) (base : Nat) (len : Nat) (held : Nat → State → State)
    (data : List Byte) (s : State) (h_held : ∀ (y0 : Nat) (y1 : State),
    (held y0 y1).memGen = y1.memGen) : (blockObject sub n base len held data s).2.memGen = s.memGen := by
  unfold blockObject
  simp only [blockWrite_memGen, h_held, ite_memGen, ite_self, ite_snd, implies_true]

@[simp] theorem blockObject_mem (sub : Nat) (n : Nat) (base : Nat) (len : Nat) (held : Nat → State → State)
    (data : List Byte) (s : State) (h_held : ∀ (y0 : Nat) (y1 : State),
    (held y0 y1).mem = y1.mem) : (blockObject sub n base len held data s).2.mem = s.mem := by
  unfold blockObject
  simp only [blockWrite_mem, h_held, ite_mem, ite_self, ite_snd, implies_true]

@[simp] theorem holdLane_kept (g : Nat) (s : State) :
    (holdLane g s).part = s.part ∧ (holdLane g s).pending = s.pending ∧ (holdLane g s).memGen = s.memGen := by
  unfold holdLane
  simp only [State.setGroup_kept, abortScan_kept, clearLanes_kept, linkLost_kept, and_self]

@[simp] theorem holdDram_kept (c : Nat) (s : State) :
    (holdDram c s).part = s.part ∧ (holdDram c s).pending = s.pending ∧ (holdDram c s).memGen = s.memGen ∧
    (holdDram c s).mem = s.mem := by
  unfold holdDram
  simp only [State.draw_kept, State.setChannel_kept, deviceFenceOn_kept, endHeld_kept, and_self]

@[simp] theorem holdKeeper_kept (k : Nat) (s : State) :
    (holdKeeper k s).part = s.part ∧ (holdKeeper k s).pending = s.pending ∧ (holdKeeper k s).memGen = s.memGen ∧
    (holdKeeper k s).mem = s.mem := by
  unfold holdKeeper
  simp only [State.setKeeper_kept, and_self]

@[simp] theorem holdBank_kept (st : Nat) (s : State) :
    (holdBank st s).part = s.part ∧ (holdBank st s).pending = s.pending ∧ (holdBank st s).memGen = s.memGen ∧
    (holdBank st s).mem = s.mem := by
  unfold holdBank
  simp only [State.setBank_kept, and_self]

@[simp] theorem abortClaim_kept (u : Nat) (s : State) :
    (abortClaim u s).part = s.part ∧ (abortClaim u s).pending = s.pending ∧ (abortClaim u s).memGen = s.memGen := by
  unfold abortClaim
  (repeat' (first | (simp only [State.draw_kept, State.fillRange_kept, State.setUnit_kept, ite_part, ite_pending, ite_memGen, and_self]; done) | split | simp only [State.setUnit_kept, ite_part, ite_pending, ite_memGen]))

@[simp] theorem holdQueue_kept (n : Nat) (s : State) :
    (holdQueue n s).part = s.part ∧ (holdQueue n s).pending = s.pending ∧ (holdQueue n s).memGen = s.memGen := by
  unfold holdQueue
  simp only [abortClaim_kept, resetGroupUnits_kept, foldl_part, foldl_pending, foldl_memGen, and_self, implies_true]

@[simp] theorem stationResetWrite_kept (data : List Byte) (s : State) :
    (stationResetWrite data s).2.part = s.part ∧ (stationResetWrite data s).2.pending = s.pending ∧
    (stationResetWrite data s).2.memGen = s.memGen ∧ (stationResetWrite data s).2.mem = s.mem := by
  unfold stationResetWrite
  simp only [blockObject_part, blockObject_pending, blockObject_memGen, blockObject_mem, and_self, implies_true]

@[simp] theorem execStationResetWrite_kept (path : Path) (data : List Byte) (s : State) :
    (after (execStationResetWrite path data s) s).part = s.part ∧
    (after (execStationResetWrite path data s) s).pending = s.pending ∧
    (after (execStationResetWrite path data s) s).memGen = s.memGen ∧
    (after (execStationResetWrite path data s) s).mem = s.mem := by
  unfold execStationResetWrite
  simp only [onPath_part, onPath_pending, onPath_memGen, onPath_mem, stationResetWrite_kept, and_self, after_done,
      settle_kept]

@[simp] theorem laneGroupResetWrite_kept (value : Nat) (s : State) :
    (laneGroupResetWrite value s).2.part = s.part ∧ (laneGroupResetWrite value s).2.pending = s.pending ∧
    (laneGroupResetWrite value s).2.memGen = s.memGen := by
  unfold laneGroupResetWrite
  simp only [blockWrite_part, blockWrite_pending, blockWrite_memGen, holdLane_kept, and_self, implies_true]

@[simp] theorem execLaneGroupResetWrite_kept (path : Path) (value : BitVec 32) (s : State) :
    (after (execLaneGroupResetWrite path value s) s).part = s.part ∧
    (after (execLaneGroupResetWrite path value s) s).pending = s.pending ∧
    (after (execLaneGroupResetWrite path value s) s).memGen = s.memGen := by
  unfold execLaneGroupResetWrite
  simp only [laneGroupResetWrite_kept, onPath_part, onPath_pending, onPath_memGen, and_self, after_done, settle_kept]

@[simp] theorem dramChannelResetWrite_kept (value : Nat) (s : State) :
    (dramChannelResetWrite value s).2.part = s.part ∧ (dramChannelResetWrite value s).2.pending = s.pending ∧
    (dramChannelResetWrite value s).2.memGen = s.memGen ∧ (dramChannelResetWrite value s).2.mem = s.mem := by
  unfold dramChannelResetWrite
  simp only [blockWrite_part, blockWrite_pending, blockWrite_memGen, blockWrite_mem, holdDram_kept, and_self, implies_true]

@[simp] theorem execDramChannelResetWrite_kept (path : Path) (value : BitVec 16) (s : State) :
    (after (execDramChannelResetWrite path value s) s).part = s.part ∧
    (after (execDramChannelResetWrite path value s) s).pending = s.pending ∧
    (after (execDramChannelResetWrite path value s) s).memGen = s.memGen ∧
    (after (execDramChannelResetWrite path value s) s).mem = s.mem := by
  unfold execDramChannelResetWrite
  simp only [dramChannelResetWrite_kept, onPath_part, onPath_pending, onPath_memGen, onPath_mem, and_self, after_done,
      settle_kept]

@[simp] theorem keeperResetWrite_kept (value : Nat) (s : State) :
    (keeperResetWrite value s).2.part = s.part ∧ (keeperResetWrite value s).2.pending = s.pending ∧
    (keeperResetWrite value s).2.memGen = s.memGen ∧ (keeperResetWrite value s).2.mem = s.mem := by
  unfold keeperResetWrite
  simp only [blockWrite_part, blockWrite_pending, blockWrite_memGen, blockWrite_mem, holdKeeper_kept, and_self, implies_true]

@[simp] theorem execKeeperResetWrite_kept (path : Path) (value : BitVec 8) (s : State) :
    (after (execKeeperResetWrite path value s) s).part = s.part ∧
    (after (execKeeperResetWrite path value s) s).pending = s.pending ∧
    (after (execKeeperResetWrite path value s) s).memGen = s.memGen ∧
    (after (execKeeperResetWrite path value s) s).mem = s.mem := by
  unfold execKeeperResetWrite
  simp only [keeperResetWrite_kept, onPath_part, onPath_pending, onPath_memGen, onPath_mem, and_self, after_done,
      settle_kept]

@[simp] theorem patternBankResetWrite_kept (data : List Byte) (s : State) :
    (patternBankResetWrite data s).2.part = s.part ∧ (patternBankResetWrite data s).2.pending = s.pending ∧
    (patternBankResetWrite data s).2.memGen = s.memGen ∧ (patternBankResetWrite data s).2.mem = s.mem := by
  unfold patternBankResetWrite
  simp only [blockObject_part, blockObject_pending, blockObject_memGen, blockObject_mem, holdBank_kept, and_self,
      implies_true]

@[simp] theorem execPatternBankResetWrite_kept (path : Path) (data : List Byte) (s : State) :
    (after (execPatternBankResetWrite path data s) s).part = s.part ∧
    (after (execPatternBankResetWrite path data s) s).pending = s.pending ∧
    (after (execPatternBankResetWrite path data s) s).memGen = s.memGen ∧
    (after (execPatternBankResetWrite path data s) s).mem = s.mem := by
  unfold execPatternBankResetWrite
  simp only [onPath_part, onPath_pending, onPath_memGen, onPath_mem, patternBankResetWrite_kept, and_self, after_done,
      settle_kept]

@[simp] theorem queueGroupResetWrite_kept (data : List Byte) (s : State) :
    (queueGroupResetWrite data s).2.part = s.part ∧ (queueGroupResetWrite data s).2.pending = s.pending ∧
    (queueGroupResetWrite data s).2.memGen = s.memGen := by
  unfold queueGroupResetWrite
  simp only [blockObject_part, blockObject_pending, blockObject_memGen, holdQueue_kept, and_self, implies_true]

@[simp] theorem execQueueGroupResetWrite_kept (path : Path) (data : List Byte) (s : State) :
    (after (execQueueGroupResetWrite path data s) s).part = s.part ∧
    (after (execQueueGroupResetWrite path data s) s).pending = s.pending ∧
    (after (execQueueGroupResetWrite path data s) s).memGen = s.memGen := by
  unfold execQueueGroupResetWrite
  simp only [onPath_part, onPath_pending, onPath_memGen, queueGroupResetWrite_kept, and_self, after_done, settle_kept]

@[simp] theorem closeSessions_kept (s : State) :
    (closeSessions s).part = s.part ∧ (closeSessions s).pending = s.pending ∧ (closeSessions s).memGen = s.memGen ∧
    (closeSessions s).mem = s.mem := by
  unfold closeSessions
  simp only [answerStatus_kept, foldl_part, foldl_pending, foldl_memGen, foldl_mem, and_self, implies_true]

@[simp] theorem engineResetWrite_kept (value : Nat) (s : State) :
    (engineResetWrite value s).2.part = s.part ∧ (engineResetWrite value s).2.pending = s.pending ∧
    (engineResetWrite value s).2.memGen = s.memGen ∧ (engineResetWrite value s).2.mem = s.mem := by
  unfold engineResetWrite
  simp only [closeSessions_kept, ite_part, ite_pending, ite_memGen, ite_mem, ite_self, ite_snd, and_self]

@[simp] theorem execDictEngineReset_kept (path : Path) (value : BitVec 8) (s : State) :
    (after (execDictEngineReset path value s) s).part = s.part ∧
    (after (execDictEngineReset path value s) s).pending = s.pending ∧
    (after (execDictEngineReset path value s) s).memGen = s.memGen ∧
    (after (execDictEngineReset path value s) s).mem = s.mem := by
  unfold execDictEngineReset
  simp only [engineResetWrite_kept, onPath_part, onPath_pending, onPath_memGen, onPath_mem, and_self, after_done,
      settle_kept]

@[simp] theorem releaseBlock_kept (b : Nat) (s : State) :
    (releaseBlock b s).part = s.part ∧ (releaseBlock b s).pending = s.pending ∧ (releaseBlock b s).memGen = s.memGen ∧
    (releaseBlock b s).mem = s.mem := by
  unfold releaseBlock
  simp only [coreReset_kept, startTraining_kept, toClock_kept, ite_part, ite_pending, ite_memGen, ite_mem, ite_self,
      and_self]

@[simp] theorem execBlockResetDone_kept (block : Nat) (s : State) :
    (after (execBlockResetDone block s) s).part = s.part ∧ (after (execBlockResetDone block s) s).pending = s.pending ∧
    (after (execBlockResetDone block s) s).memGen = s.memGen ∧ (after (execBlockResetDone block s) s).mem = s.mem := by
  unfold execBlockResetDone
  simp only [raise_kept, releaseBlock_kept, ite_part, ite_pending, ite_memGen, ite_mem, ite_self, and_self, after_ite,
      after_done, settle_kept]

end Sys2Proof.Machine
end

