-- ==== Sys2Proof/Laws/ClocksKept.lean ====
section
/-! SUPPORT. What the functions of Machine/Clocks.lean keep: the factory part, the queue, and memory where they do not write it. -/

namespace Sys2Proof.Machine

@[simp] theorem clockCause_kept (bits : Nat) (s : State) :
    (clockCause bits s).part = s.part ∧ (clockCause bits s).pending = s.pending ∧ (clockCause bits s).memGen = s.memGen ∧
    (clockCause bits s).mem = s.mem := by
  unfold clockCause
  exact ⟨by with_reducible rfl, by with_reducible rfl, by with_reducible rfl, by with_reducible rfl⟩

@[simp] theorem enterCoast_kept (s : State) :
    (enterCoast s).part = s.part ∧ (enterCoast s).pending = s.pending ∧ (enterCoast s).memGen = s.memGen ∧
    (enterCoast s).mem = s.mem := by
  unfold enterCoast
  simp only [clockCause_kept, raise_kept, updateFrozen_kept, and_self]

@[simp] theorem referenceFailed_kept (s : State) :
    (referenceFailed s).part = s.part ∧ (referenceFailed s).pending = s.pending ∧ (referenceFailed s).memGen = s.memGen ∧
    (referenceFailed s).mem = s.mem := by
  unfold referenceFailed
  (repeat' split) <;> simp only [enterCoast_kept, and_self]

@[simp] theorem goodVerdict_kept (s : State) :
    (goodVerdict s).part = s.part ∧ (goodVerdict s).pending = s.pending ∧ (goodVerdict s).memGen = s.memGen ∧
    (goodVerdict s).mem = s.mem := by
  unfold goodVerdict
  (repeat' split) <;> simp only [and_self]

@[simp] theorem refPass_kept (s : State) :
    (refPass s).part = s.part ∧ (refPass s).pending = s.pending ∧ (refPass s).memGen = s.memGen ∧
    (refPass s).mem = s.mem := by
  unfold refPass
  simp only [goodVerdict_kept, raise_kept, ite_part, ite_pending, ite_memGen, ite_mem, ite_self, and_self]

@[simp] theorem refFail_kept (s : State) :
    (refFail s).part = s.part ∧ (refFail s).pending = s.pending ∧ (refFail s).memGen = s.memGen ∧
    (refFail s).mem = s.mem := by
  unfold refFail
  simp only [clockCause_kept, referenceFailed_kept, ite_part, ite_pending, ite_memGen, ite_mem, ite_self, and_self]

@[simp] theorem execRefWindowEnd_kept (edges : Nat) (s : State) :
    (after (execRefWindowEnd edges s) s).part = s.part ∧ (after (execRefWindowEnd edges s) s).pending = s.pending ∧
    (after (execRefWindowEnd edges s) s).memGen = s.memGen ∧ (after (execRefWindowEnd edges s) s).mem = s.mem := by
  unfold execRefWindowEnd
  dsimp only
  (repeat' split) <;> rw [after_done] <;> simp only [settle_kept, refPass_kept, refFail_kept, and_self]

@[simp] theorem execMissingEdge_kept (s : State) :
    (after (execMissingEdge s) s).part = s.part ∧ (after (execMissingEdge s) s).pending = s.pending ∧
    (after (execMissingEdge s) s).memGen = s.memGen ∧ (after (execMissingEdge s) s).mem = s.mem := by
  unfold execMissingEdge
  simp only [referenceFailed_kept, ite_part, ite_pending, ite_memGen, ite_mem, ite_self, and_self, after_ite, after_done,
      settle_kept]

@[simp] theorem startRoot_kept (s : State) :
    (startRoot s).part = s.part ∧ (startRoot s).pending = s.pending ∧ (startRoot s).memGen = s.memGen ∧
    (startRoot s).mem = s.mem := by
  unfold startRoot
  exact ⟨by with_reducible rfl, by with_reducible rfl, by with_reducible rfl, by with_reducible rfl⟩

@[simp] theorem firstLock_kept (s : State) :
    (firstLock s).part = s.part ∧ (firstLock s).pending = s.pending ∧ (firstLock s).memGen = s.memGen ∧
    (firstLock s).mem = s.mem := by
  unfold firstLock
  simp only [milestone_kept, ite_part, ite_pending, ite_memGen, ite_mem, ite_self, and_self]

@[simp] theorem execLanternLock_kept (s : State) :
    (after (execLanternLock s) s).part = s.part ∧ (after (execLanternLock s) s).pending = s.pending ∧
    (after (execLanternLock s) s).memGen = s.memGen ∧ (after (execLanternLock s) s).mem = s.mem := by
  unfold execLanternLock
  (repeat' split) <;> simp only [firstLock_kept, raise_kept, startRoot_kept, and_self, after_done, settle_kept]

@[simp] theorem execLanternLockTimeout_kept (s : State) :
    (after (execLanternLockTimeout s) s).part = s.part ∧ (after (execLanternLockTimeout s) s).pending = s.pending ∧
    (after (execLanternLockTimeout s) s).memGen = s.memGen ∧ (after (execLanternLockTimeout s) s).mem = s.mem := by
  unfold execLanternLockTimeout
  (repeat' split) <;> simp only [clockCause_kept, enterCoast_kept, raise_kept, and_self, after_done, settle_kept]

@[simp] theorem endAlign_kept (s : State) :
    (endAlign s).part = s.part ∧ (endAlign s).pending = s.pending ∧ (endAlign s).memGen = s.memGen ∧
    (endAlign s).mem = s.mem := by
  unfold endAlign
  simp only [raise_kept, updateFrozen_kept, ite_part, ite_pending, ite_memGen, ite_mem, ite_self, and_self]

@[simp] theorem rampRegulators_kept (s : State) :
    (rampRegulators s).part = s.part ∧ (rampRegulators s).pending = s.pending ∧ (rampRegulators s).memGen = s.memGen ∧
    (rampRegulators s).mem = s.mem := by
  unfold rampRegulators
  simp only [rampLayer_kept, and_self]

@[simp] theorem releaseL0_kept (march : Bool) (s : State) :
    (releaseL0 march s).part = s.part ∧ (releaseL0 march s).pending = s.pending ∧ (releaseL0 march s).memGen = s.memGen ∧
    (releaseL0 march s).mem = s.mem := by
  unfold releaseL0
  simp only [claimMarch_kept, rampRegulators_kept, startTraining_kept, ite_part, ite_pending, ite_memGen, ite_mem,
      foldl_part, foldl_pending, foldl_memGen, foldl_mem, ite_self, and_self, implies_true]

@[simp] theorem execDaymarkLock_kept (s : State) :
    (after (execDaymarkLock s) s).part = s.part ∧ (after (execDaymarkLock s) s).pending = s.pending ∧
    (after (execDaymarkLock s) s).memGen = s.memGen ∧ (after (execDaymarkLock s) s).mem = s.mem := by
  unfold execDaymarkLock
  simp only [goodVerdict_kept, milestone_kept, releaseL0_kept, ite_part, ite_pending, ite_memGen, ite_mem, ite_self,
      and_self, after_ite, after_done, settle_kept]

@[simp] theorem canOff_kept (s : State) :
    (canOff s).part = s.part ∧ (canOff s).pending = s.pending ∧ (canOff s).memGen = s.memGen ∧ (canOff s).mem = s.mem := by
  unfold canOff
  simp only [raise_kept, ite_part, ite_pending, ite_memGen, ite_mem, ite_self, and_self]

@[simp] theorem chainFailed_kept (s : State) :
    (chainFailed s).part = s.part ∧ (chainFailed s).pending = s.pending ∧ (chainFailed s).memGen = s.memGen ∧
    (chainFailed s).mem = s.mem := by
  unfold chainFailed
  simp only [ite_part, ite_pending, ite_memGen, ite_mem, ite_self, and_self]

@[simp] theorem memoryHoldover_kept (s : State) :
    (memoryHoldover s).part = s.part ∧ (memoryHoldover s).pending = s.pending ∧ (memoryHoldover s).memGen = s.memGen ∧
    (memoryHoldover s).mem = s.mem := by
  unfold memoryHoldover
  simp only [clockCause_kept, raise_kept, ite_part, ite_pending, ite_memGen, ite_mem, ite_self, and_self]

@[simp] theorem aonFallback_kept (s : State) :
    (aonFallback s).part = s.part ∧ (aonFallback s).pending = s.pending ∧ (aonFallback s).memGen = s.memGen ∧
    (aonFallback s).mem = s.mem := by
  unfold aonFallback
  simp only [canOff_kept, and_self]

@[simp] theorem xoFailed_kept (s : State) :
    (xoFailed s).part = s.part ∧ (xoFailed s).pending = s.pending ∧ (xoFailed s).memGen = s.memGen ∧
    (xoFailed s).mem = s.mem := by
  unfold xoFailed
  simp only [aonFallback_kept, chainFailed_kept, clockCause_kept, memoryHoldover_kept, raise_kept, and_self]

@[simp] theorem xoJudgedGood_kept (s : State) :
    (xoJudgedGood s).part = s.part ∧ (xoJudgedGood s).pending = s.pending ∧ (xoJudgedGood s).memGen = s.memGen ∧
    (xoJudgedGood s).mem = s.mem := by
  unfold xoJudgedGood
  simp only [milestone_kept, raise_kept, ite_part, ite_pending, ite_memGen, ite_mem, ite_self, and_self]

@[simp] theorem xoPass_kept (s : State) :
    (xoPass s).part = s.part ∧ (xoPass s).pending = s.pending ∧ (xoPass s).memGen = s.memGen ∧ (xoPass s).mem = s.mem := by
  unfold xoPass
  simp only [xoJudgedGood_kept, ite_part, ite_pending, ite_memGen, ite_mem, ite_self, and_self]

@[simp] theorem xoFail_kept (s : State) :
    (xoFail s).part = s.part ∧ (xoFail s).pending = s.pending ∧ (xoFail s).memGen = s.memGen ∧ (xoFail s).mem = s.mem := by
  unfold xoFail
  simp only [xoFailed_kept, ite_part, ite_pending, ite_memGen, ite_mem, ite_self, and_self]

@[simp] theorem xoGivenUp_kept (s : State) :
    (xoGivenUp s).part = s.part ∧ (xoGivenUp s).pending = s.pending ∧ (xoGivenUp s).memGen = s.memGen ∧
    (xoGivenUp s).mem = s.mem := by
  unfold xoGivenUp
  simp only [aonFallback_kept, releaseL0_kept, ite_part, ite_pending, ite_memGen, ite_mem, ite_self, and_self]

@[simp] theorem execXoWindowEnd_kept (count : Nat) (s : State) :
    (after (execXoWindowEnd count s) s).part = s.part ∧ (after (execXoWindowEnd count s) s).pending = s.pending ∧
    (after (execXoWindowEnd count s) s).memGen = s.memGen ∧ (after (execXoWindowEnd count s) s).mem = s.mem := by
  unfold execXoWindowEnd
  simp only [serialWindow_kept, xoFail_kept, xoGivenUp_kept, xoPass_kept, ite_part, ite_pending, ite_memGen, ite_mem,
      ite_self, and_self, after_ite, after_done, settle_kept]

@[simp] theorem execMemoryLoopLock_kept (s : State) :
    (after (execMemoryLoopLock s) s).part = s.part ∧ (after (execMemoryLoopLock s) s).pending = s.pending ∧
    (after (execMemoryLoopLock s) s).memGen = s.memGen ∧ (after (execMemoryLoopLock s) s).mem = s.mem := by
  unfold execMemoryLoopLock
  simp only [ite_part, ite_pending, ite_memGen, ite_mem, ite_self, and_self, after_ite, after_done, settle_kept]

@[simp] theorem relockLanes_kept (s : State) :
    (relockLanes s).part = s.part ∧ (relockLanes s).pending = s.pending ∧ (relockLanes s).memGen = s.memGen ∧
    (relockLanes s).mem = s.mem := by
  unfold relockLanes
  simp only [dropLoops_kept, foldl_part, foldl_pending, foldl_memGen, foldl_mem, and_self, implies_true]

@[simp] theorem multiplierWrite_kept (m : Nat) (s : State) :
    (multiplierWrite m s).2.part = s.part ∧ (multiplierWrite m s).2.pending = s.pending ∧
    (multiplierWrite m s).2.memGen = s.memGen ∧ (multiplierWrite m s).2.mem = s.mem := by
  unfold multiplierWrite
  simp only [State.setObj_kept, raise_kept, relockLanes_kept, ite_part, ite_pending, ite_memGen, ite_mem, ite_self, ite_snd,
      and_self]

@[simp] theorem execMultiplierWrite_kept (path : Path) (value : BitVec 8) (s : State) :
    (after (execMultiplierWrite path value s) s).part = s.part ∧
    (after (execMultiplierWrite path value s) s).pending = s.pending ∧
    (after (execMultiplierWrite path value s) s).memGen = s.memGen ∧
    (after (execMultiplierWrite path value s) s).mem = s.mem := by
  unfold execMultiplierWrite
  simp only [multiplierWrite_kept, onPath_part, onPath_pending, onPath_memGen, onPath_mem, and_self, after_done, settle_kept]

@[simp] theorem referenceWrite_kept (f : Nat) (s : State) :
    (referenceWrite f s).2.part = s.part ∧ (referenceWrite f s).2.pending = s.pending ∧
    (referenceWrite f s).2.memGen = s.memGen ∧ (referenceWrite f s).2.mem = s.mem := by
  unfold referenceWrite
  simp only [State.setObj_kept, raise_kept, relockLanes_kept, updateFrozen_kept, ite_part, ite_pending, ite_memGen, ite_mem,
      ite_self, ite_snd, and_self]

@[simp] theorem execReferenceFrequencyWrite_kept (path : Path) (value : BitVec 32) (s : State) :
    (after (execReferenceFrequencyWrite path value s) s).part = s.part ∧
    (after (execReferenceFrequencyWrite path value s) s).pending = s.pending ∧
    (after (execReferenceFrequencyWrite path value s) s).memGen = s.memGen ∧
    (after (execReferenceFrequencyWrite path value s) s).mem = s.mem := by
  unfold execReferenceFrequencyWrite
  simp only [onPath_part, onPath_pending, onPath_memGen, onPath_mem, referenceWrite_kept, and_self, after_done, settle_kept]

end Sys2Proof.Machine
end

