-- ==== Sys2Proof/Laws/ContractKept.lean ====
section
/-! SUPPORT. What the functions of Machine/Contract.lean keep: the factory part, the queue, and memory where they do not write it. -/

namespace Sys2Proof.Machine

@[simp] theorem lookAhead_kept (s : State) :
    (lookAhead s).part = s.part ∧ (lookAhead s).pending = s.pending ∧ (lookAhead s).memGen = s.memGen ∧
    (lookAhead s).mem = s.mem := by
  unfold lookAhead
  exact ⟨by with_reducible rfl, by with_reducible rfl, by with_reducible rfl, by with_reducible rfl⟩

@[simp] theorem acceptStaged_kept (path : Nat) (parts : List StagePart) (s : State) :
    (acceptStaged path parts s).part = s.part ∧ (acceptStaged path parts s).pending = s.pending ∧
    (acceptStaged path parts s).memGen = s.memGen ∧ (acceptStaged path parts s).mem = s.mem := by
  unfold acceptStaged
  simp only [lookAhead_kept, stageAccept_kept, and_self]

@[simp] theorem deviceSelect_kept (k : Nat) (v : Nat) (safe : Bool) (cool : Bool) (s : State) :
    (deviceSelect k v safe cool s).part = s.part ∧ (deviceSelect k v safe cool s).pending = s.pending ∧
    (deviceSelect k v safe cool s).memGen = s.memGen ∧ (deviceSelect k v safe cool s).mem = s.mem := by
  unfold deviceSelect
  simp only [lookAhead_kept, stageAccept_kept, and_self]

@[simp] theorem compareLinks_kept (s : State) :
    (compareLinks s).part = s.part ∧ (compareLinks s).pending = s.pending ∧ (compareLinks s).memGen = s.memGen ∧
    (compareLinks s).mem = s.mem := by
  unfold compareLinks
  simp only [raiseIf_kept, and_self]

end Sys2Proof.Machine
end

