-- ==== Sys2Proof/Laws/PowerKept.lean ====
section
/-! SUPPORT. What the functions of Machine/Power.lean keep: the factory part, the queue, and memory where they do not write it. -/

namespace Sys2Proof.Machine

@[simp] theorem patternDown_kept (s : State) :
    (patternDown s).part = s.part ∧ (patternDown s).pending = s.pending ∧ (patternDown s).memGen = s.memGen ∧
    (patternDown s).mem = s.mem := by
  unfold patternDown
  simp only [deviceFenceOn_kept, patternOff_kept, ite_part, ite_pending, ite_memGen, ite_mem, ite_self, and_self]

@[simp] theorem patternUp_kept (s : State) :
    (patternUp s).part = s.part ∧ (patternUp s).pending = s.pending ∧ (patternUp s).memGen = s.memGen ∧
    (patternUp s).mem = s.mem := by
  unfold patternUp
  simp only [rampLayer_kept, and_self]

@[simp] theorem patternSwitch_kept (s : State) :
    (patternSwitch s).part = s.part ∧ (patternSwitch s).pending = s.pending ∧ (patternSwitch s).memGen = s.memGen ∧
    (patternSwitch s).mem = s.mem := by
  unfold patternSwitch
  simp only [patternDown_kept, patternUp_kept, ite_part, ite_pending, ite_memGen, ite_mem, ite_self, and_self]

@[simp] theorem sectorPower_kept (k : Nat) (was : Bool) (s : State) :
    (sectorPower k was s).part = s.part ∧ (sectorPower k was s).pending = s.pending ∧
    (sectorPower k was s).memGen = s.memGen ∧ (sectorPower k was s).mem = s.mem := by
  unfold sectorPower
  simp only [deviceFenceOff_kept, deviceFenceOn_kept, switchOff_kept, ite_part, ite_pending, ite_memGen, ite_mem, ite_self,
      and_self]

@[simp] theorem patternFence_kept (s : State) :
    (patternFence s).part = s.part ∧ (patternFence s).pending = s.pending ∧ (patternFence s).memGen = s.memGen ∧
    (patternFence s).mem = s.mem := by
  unfold patternFence
  simp only [deviceFenceOff_kept, deviceFenceOn_kept, ite_part, ite_pending, ite_memGen, ite_mem, ite_self, and_self]

@[simp] theorem dramSleep_kept (s : State) :
    (dramSleep s).part = s.part ∧ (dramSleep s).pending = s.pending ∧ (dramSleep s).memGen = s.memGen ∧
    (dramSleep s).mem = s.mem := by
  unfold dramSleep
  simp only [State.setChannel_kept, ite_part, ite_pending, ite_memGen, ite_mem, foldl_part, foldl_pending, foldl_memGen,
      foldl_mem, ite_self, and_self, implies_true]

@[simp] theorem dramWake_kept (s : State) :
    (dramWake s).part = s.part ∧ (dramWake s).pending = s.pending ∧ (dramWake s).memGen = s.memGen ∧
    (dramWake s).mem = s.mem := by
  unfold dramWake
  simp only [State.setChannel_kept, serveHeld_kept, ite_part, ite_pending, ite_memGen, ite_mem, foldl_part, foldl_pending,
      foldl_memGen, foldl_mem, ite_self, and_self, implies_true]

@[simp] theorem upperOff_kept (s : State) :
    (upperOff s).part = s.part ∧ (upperOff s).pending = s.pending ∧ (upperOff s).memGen = s.memGen ∧
    (upperOff s).mem = s.mem := by
  unfold upperOff
  exact ⟨by with_reducible rfl, by with_reducible rfl, by with_reducible rfl, by with_reducible rfl⟩

@[simp] theorem unitsServe_kept (s : State) :
    (unitsServe s).part = s.part ∧ (unitsServe s).pending = s.pending ∧ (unitsServe s).memGen = s.memGen ∧
    (unitsServe s).mem = s.mem := by
  unfold unitsServe
  exact ⟨by with_reducible rfl, by with_reducible rfl, by with_reducible rfl, by with_reducible rfl⟩

@[simp] theorem unitPower_kept (old : Nat) (u : Nat) (s : State) :
    (unitPower old u s).part = s.part ∧ (unitPower old u s).pending = s.pending ∧ (unitPower old u s).memGen = s.memGen := by
  unfold unitPower
  simp only [State.fillRange_kept, State.setUnit_kept, fenceWaiting_kept, ite_part, ite_pending, ite_memGen, ite_self,
      and_self]

@[simp] theorem unitMapDatum_kept (old : Nat) (s : State) :
    (unitMapDatum old s).part = s.part ∧ (unitMapDatum old s).pending = s.pending ∧
    (unitMapDatum old s).memGen = s.memGen := by
  unfold unitMapDatum
  simp only [unitPower_kept, ite_part, ite_pending, ite_memGen, foldl_part, foldl_pending, foldl_memGen, ite_self, and_self,
      implies_true]

@[simp] theorem changeState_kept (old : Nat) (new : Nat) (s : State) :
    (changeState old new s).part = s.part ∧ (changeState old new s).pending = s.pending ∧
    (changeState old new s).memGen = s.memGen ∧ (changeState old new s).mem = s.mem := by
  unfold changeState
  simp only [dramSleep_kept, dramWake_kept, fenceWaiting_kept, sleepPins_kept, upperOff_kept, wakePins_kept, ite_part,
      ite_pending, ite_memGen, ite_mem, foldl_part, foldl_pending, foldl_memGen, foldl_mem, ite_self, and_self, implies_true]

@[simp] theorem restartAll_kept (s : State) :
    (restartAll s).part = s.part ∧ (restartAll s).pending = s.pending ∧ (restartAll s).memGen = s.memGen ∧
    (restartAll s).mem = s.mem := by
  unfold restartAll
  exact ⟨by with_reducible rfl, by with_reducible rfl, by with_reducible rfl, by with_reducible rfl⟩

@[simp] theorem powerFollows_kept (gates : Nat) (s : State) :
    (powerFollows gates s).part = s.part ∧ (powerFollows gates s).pending = s.pending ∧
    (powerFollows gates s).memGen = s.memGen ∧ (powerFollows gates s).mem = s.mem := by
  unfold powerFollows
  simp only [changeState_kept, closeEntry_kept, closeExit_kept, patternFence_kept, patternSwitch_kept, restartAll_kept,
      sectorPower_kept, ite_part, ite_pending, ite_memGen, ite_mem, foldl_part, foldl_pending, foldl_memGen, foldl_mem,
      ite_self, and_self, implies_true]

@[simp] theorem powerDatum_kept (gates : Nat) (s : State) :
    (powerDatum gates s).part = s.part ∧ (powerDatum gates s).pending = s.pending ∧ (powerDatum gates s).memGen = s.memGen ∧
    (powerDatum gates s).mem = s.mem := by
  unfold powerDatum
  simp only [powerFollows_kept, withPowerEvent_part, withPowerEvent_pending, withPowerEvent_memGen, withPowerEvent_mem,
      and_self, implies_true]

@[simp] theorem sectorsRestart_kept (s : State) :
    (sectorsRestart s).part = s.part ∧ (sectorsRestart s).pending = s.pending ∧ (sectorsRestart s).memGen = s.memGen ∧
    (sectorsRestart s).mem = s.mem := by
  unfold sectorsRestart
  exact ⟨by with_reducible rfl, by with_reducible rfl, by with_reducible rfl, by with_reducible rfl⟩

@[simp] theorem execSectorRampDone_kept (k : Fin 16) (s : State) :
    (after (execSectorRampDone k s) s).part = s.part ∧ (after (execSectorRampDone k s) s).pending = s.pending ∧
    (after (execSectorRampDone k s) s).memGen = s.memGen ∧ (after (execSectorRampDone k s) s).mem = s.mem := by
  unfold execSectorRampDone
  simp only [closeExit_kept, deviceFenceOff_kept, withPowerEvent_part, withPowerEvent_pending, withPowerEvent_memGen,
      withPowerEvent_mem, ite_part, ite_pending, ite_memGen, ite_mem, ite_self, and_self, implies_true, after_ite,
      after_done, settle_kept]

@[simp] theorem clearHold_kept (s : State) :
    (clearHold s).part = s.part ∧ (clearHold s).pending = s.pending := by
  unfold clearHold
  exact ⟨by with_reducible rfl, by with_reducible rfl⟩

@[simp] theorem emptyRegions_kept (s : State) :
    (emptyRegions s).part = s.part ∧ (emptyRegions s).pending = s.pending ∧ (emptyRegions s).memGen = s.memGen ∧
    (emptyRegions s).mem = s.mem := by
  unfold emptyRegions
  exact ⟨by with_reducible rfl, by with_reducible rfl, by with_reducible rfl, by with_reducible rfl⟩

@[simp] theorem upperReady_kept (s : State) :
    (upperReady s).part = s.part ∧ (upperReady s).pending = s.pending := by
  unfold upperReady
  simp only [clearHold_kept, deviceFenceOff_kept, dramWake_kept, emptyRegions_kept, raise_kept, wakePins_kept, ite_part,
      ite_pending, foldl_part, foldl_pending, ite_self, and_self, implies_true]

@[simp] theorem execUpperLayersReady_kept (s : State) :
    (after (execUpperLayersReady s) s).part = s.part ∧ (after (execUpperLayersReady s) s).pending = s.pending := by
  unfold execUpperLayersReady
  simp only [upperReady_kept, ite_part, ite_pending, ite_self, and_self, after_ite, after_done, settle_kept]

@[simp] theorem execRegulatorFault_kept (regulator : Fin 4) (multi : Bool) (role : Bool) (s : State) :
    (after (execRegulatorFault regulator multi role s) s).part = s.part ∧
    (after (execRegulatorFault regulator multi role s) s).pending = s.pending := by
  unfold execRegulatorFault
  simp only [State.setObj_kept, patternDown_kept, raise_kept, resetSource_kept, ite_part, ite_pending, ite_self, and_self,
      after_ite, after_done, settle_kept]

@[simp] theorem breakSensor_kept (n : Nat) (s : State) :
    (breakSensor n s).part = s.part ∧ (breakSensor n s).pending = s.pending ∧ (breakSensor n s).memGen = s.memGen ∧
    (breakSensor n s).mem = s.mem := by
  unfold breakSensor
  simp only [raise_kept, ite_part, ite_pending, ite_memGen, ite_mem, ite_self, and_self]

@[simp] theorem storeReading_kept (n : Nat) (r : ℤ) (s : State) :
    (storeReading n r s).part = s.part ∧ (storeReading n r s).pending = s.pending ∧ (storeReading n r s).memGen = s.memGen ∧
    (storeReading n r s).mem = s.mem := by
  unfold storeReading
  exact ⟨by with_reducible rfl, by with_reducible rfl, by with_reducible rfl, by with_reducible rfl⟩

@[simp] theorem judgeReading_kept (n : Nat) (s : State) :
    (judgeReading n s).part = s.part ∧ (judgeReading n s).pending = s.pending ∧ (judgeReading n s).memGen = s.memGen ∧
    (judgeReading n s).mem = s.mem := by
  unfold judgeReading
  simp only [breakSensor_kept, ite_part, ite_pending, ite_memGen, ite_mem, ite_self, and_self]

@[simp] theorem estimate_kept (k : Nat) (p : Nat) (s : State) :
    (estimate k p s).part = s.part ∧ (estimate k p s).pending = s.pending ∧ (estimate k p s).memGen = s.memGen ∧
    (estimate k p s).mem = s.mem := by
  unfold estimate
  simp only [breakSensor_kept, raise_kept, ite_part, ite_pending, ite_memGen, ite_mem, foldl_part, foldl_pending,
      foldl_memGen, foldl_mem, ite_self, and_self, implies_true]

@[simp] theorem shutdown_kept (sensor : Nat) (temp : ℤ) (cause : Nat) (s : State) :
    (shutdown sensor temp cause s).part = s.part ∧ (shutdown sensor temp cause s).pending = s.pending ∧
    (shutdown sensor temp cause s).memGen = s.memGen ∧ (shutdown sensor temp cause s).mem = s.mem := by
  unfold shutdown
  simp only [logEvent_kept, sleepPins_kept, and_self]

@[simp] theorem coolDown_kept (s : State) :
    (coolDown s).part = s.part ∧ (coolDown s).pending = s.pending ∧ (coolDown s).memGen = s.memGen ∧
    (coolDown s).mem = s.mem := by
  unfold coolDown
  simp only [deviceSelect_kept, ite_part, ite_pending, ite_memGen, ite_mem, foldl_part, foldl_pending, foldl_memGen,
      foldl_mem, ite_self, and_self, implies_true]

@[simp] theorem thermalDown_kept (t : ℤ) (s : State) :
    (thermalDown t s).part = s.part ∧ (thermalDown t s).pending = s.pending ∧ (thermalDown t s).memGen = s.memGen ∧
    (thermalDown t s).mem = s.mem := by
  unfold thermalDown
  simp only [raise_kept, ite_part, ite_pending, ite_memGen, ite_mem, ite_self, and_self]

@[simp] theorem thermalUp_kept (t : ℤ) (s : State) :
    (thermalUp t s).part = s.part ∧ (thermalUp t s).pending = s.pending ∧ (thermalUp t s).memGen = s.memGen ∧
    (thermalUp t s).mem = s.mem := by
  unfold thermalUp
  simp only [coolDown_kept, raise_kept, ite_part, ite_pending, ite_memGen, ite_mem, ite_self, and_self]

@[simp] theorem thermal_kept (n : Nat) (s : State) :
    (thermal n s).part = s.part ∧ (thermal n s).pending = s.pending ∧ (thermal n s).memGen = s.memGen ∧
    (thermal n s).mem = s.mem := by
  unfold thermal
  simp only [performNvm_kept, shutdown_kept, thermalDown_kept, thermalUp_kept, ite_part, ite_pending, ite_memGen, ite_mem,
      ite_self, and_self]

@[simp] theorem execSensorSample_kept (n : Fin 128) (reading : ℤ) (pL2 : Nat) (s : State) :
    (after (execSensorSample n reading pL2 s) s).part = s.part ∧
    (after (execSensorSample n reading pL2 s) s).pending = s.pending ∧
    (after (execSensorSample n reading pL2 s) s).memGen = s.memGen ∧
    (after (execSensorSample n reading pL2 s) s).mem = s.mem := by
  unfold execSensorSample
  (repeat' split) <;> simp only [estimate_kept, judgeReading_kept, storeReading_kept, thermal_kept, and_self, after_done, settle_kept]

@[simp] theorem execSensorSelfCheck_kept (failing : BitVec 128) (s : State) :
    (after (execSensorSelfCheck failing s) s).part = s.part ∧
    (after (execSensorSelfCheck failing s) s).pending = s.pending ∧
    (after (execSensorSelfCheck failing s) s).memGen = s.memGen ∧ (after (execSensorSelfCheck failing s) s).mem = s.mem := by
  unfold execSensorSelfCheck
  simp only [breakSensor_kept, ite_part, ite_pending, ite_memGen, ite_mem, foldl_part, foldl_pending, foldl_memGen,
      foldl_mem, ite_self, and_self, implies_true, after_done, settle_kept]

@[simp] theorem clearBroken_kept (mask : Nat) (s : State) :
    (clearBroken mask s).part = s.part ∧ (clearBroken mask s).pending = s.pending ∧ (clearBroken mask s).memGen = s.memGen ∧
    (clearBroken mask s).mem = s.mem := by
  unfold clearBroken
  exact ⟨by with_reducible rfl, by with_reducible rfl, by with_reducible rfl, by with_reducible rfl⟩

@[simp] theorem execThermalShutdownExit_kept (multi : Bool) (role : Bool) (s : State) :
    (after (execThermalShutdownExit multi role s) s).part = s.part ∧
    (after (execThermalShutdownExit multi role s) s).pending = s.pending := by
  unfold execThermalShutdownExit
  simp only [resetSource_kept, ite_part, ite_pending, ite_self, and_self, after_ite, after_done, settle_kept]

@[simp] theorem supplyFault_kept (e : Nat) (event : Nat) (s : State) :
    (supplyFault e event s).part = s.part ∧ (supplyFault e event s).pending = s.pending ∧
    (supplyFault e event s).memGen = s.memGen ∧ (supplyFault e event s).mem = s.mem := by
  unfold supplyFault
  simp only [raise_kept, and_self]

@[simp] theorem pmDrive_kept (l : List (Bool × Bool)) (s : State) :
    (pmDrive l s).part = s.part ∧ (pmDrive l s).pending = s.pending ∧ (pmDrive l s).memGen = s.memGen ∧
    (pmDrive l s).mem = s.mem := by
  unfold pmDrive
  exact ⟨by with_reducible rfl, by with_reducible rfl, by with_reducible rfl, by with_reducible rfl⟩

@[simp] theorem countFails_kept (e : Nat) (answer : Option (BitVec 16)) (fails : BitVec 3) (s : State) :
    (countFails e answer fails s).part = s.part ∧ (countFails e answer fails s).pending = s.pending ∧
    (countFails e answer fails s).memGen = s.memGen ∧ (countFails e answer fails s).mem = s.mem := by
  unfold countFails
  exact ⟨by with_reducible rfl, by with_reducible rfl, by with_reducible rfl, by with_reducible rfl⟩

@[simp] theorem statusRead_kept (e : Nat) (answer : Option (BitVec 16)) (s : State) :
    (statusRead e answer s).part = s.part ∧ (statusRead e answer s).pending = s.pending ∧
    (statusRead e answer s).memGen = s.memGen ∧ (statusRead e answer s).mem = s.mem := by
  unfold statusRead
  (repeat' split) <;> simp only [supplyFault_kept, and_self]

@[simp] theorem pollAnswer_kept (e : Nat) (answer : Option (BitVec 16)) (fails : BitVec 3) (s : State) :
    (pollAnswer e answer fails s).part = s.part ∧ (pollAnswer e answer fails s).pending = s.pending ∧
    (pollAnswer e answer fails s).memGen = s.memGen ∧ (pollAnswer e answer fails s).mem = s.mem := by
  unfold pollAnswer
  simp only [countFails_kept, statusRead_kept, supplyFault_kept, ite_part, ite_pending, ite_memGen, ite_mem, ite_self,
      and_self]

@[simp] theorem pollEntry_kept (e : Nat) (answer : Option (BitVec 16)) (fails : BitVec 3) (s : State) :
    (pollEntry e answer fails s).part = s.part ∧ (pollEntry e answer fails s).pending = s.pending ∧
    (pollEntry e answer fails s).memGen = s.memGen ∧ (pollEntry e answer fails s).mem = s.mem := by
  unfold pollEntry
  simp only [drivePins_kept, pmDrive_kept, pollAnswer_kept, and_self]

@[simp] theorem execPmbusPoll_kept (entry : Fin 32) (answer : Option (BitVec 16)) (mirror : Option (BitVec 16))
    (fails : BitVec 3) (s : State) :
    (after (execPmbusPoll entry answer mirror fails s) s).part = s.part ∧
    (after (execPmbusPoll entry answer mirror fails s) s).pending = s.pending ∧
    (after (execPmbusPoll entry answer mirror fails s) s).memGen = s.memGen ∧
    (after (execPmbusPoll entry answer mirror fails s) s).mem = s.mem := by
  unfold execPmbusPoll
  simp only [pollEntry_kept, ite_part, ite_pending, ite_memGen, ite_mem, ite_self, and_self, after_ite, after_done,
      settle_kept]

@[simp] theorem execPmbusAlert_kept (address : BitVec 7) (level : Bool) (s : State) :
    (after (execPmbusAlert address level s) s).part = s.part ∧
    (after (execPmbusAlert address level s) s).pending = s.pending ∧
    (after (execPmbusAlert address level s) s).memGen = s.memGen ∧
    (after (execPmbusAlert address level s) s).mem = s.mem := by
  unfold execPmbusAlert
  (repeat' split) <;> simp only [drivePins_kept, pmDrive_kept, and_self, after_done, settle_kept]

@[simp] theorem execPowerGoodSample_kept (entry : Fin 32) (ball : Bool) (s : State) :
    (after (execPowerGoodSample entry ball s) s).part = s.part ∧
    (after (execPowerGoodSample entry ball s) s).pending = s.pending ∧
    (after (execPowerGoodSample entry ball s) s).memGen = s.memGen ∧
    (after (execPowerGoodSample entry ball s) s).mem = s.mem := by
  unfold execPowerGoodSample
  simp only [drivePins_kept, pmDrive_kept, supplyFault_kept, ite_part, ite_pending, ite_memGen, ite_mem, ite_self, and_self,
      after_ite, after_done, settle_kept]

end Sys2Proof.Machine
end

