-- ==== Sys2Proof/Laws/LoadingKept.lean ====
section
/-! SUPPORT. What the functions of Machine/Loading.lean keep: the factory part, the queue, and memory where they do not write it. -/

namespace Sys2Proof.Machine

@[simp] theorem setRegion_kept (v : Nat) (k : Nat) (r : Region) (s : State) :
    (setRegion v k r s).part = s.part ∧ (setRegion v k r s).pending = s.pending ∧ (setRegion v k r s).memGen = s.memGen ∧
    (setRegion v k r s).mem = s.mem := by
  unfold setRegion
  exact ⟨by with_reducible rfl, by with_reducible rfl, by with_reducible rfl, by with_reducible rfl⟩

@[simp] theorem clearSlot_kept (s : State) :
    (clearSlot s).part = s.part ∧ (clearSlot s).pending = s.pending ∧ (clearSlot s).memGen = s.memGen ∧
    (clearSlot s).mem = s.mem := by
  unfold clearSlot
  exact ⟨by with_reducible rfl, by with_reducible rfl, by with_reducible rfl, by with_reducible rfl⟩

@[simp] theorem loadEnds_kept (code : Nat) (s : State) :
    (loadEnds code s).part = s.part ∧ (loadEnds code s).pending = s.pending ∧ (loadEnds code s).memGen = s.memGen ∧
    (loadEnds code s).mem = s.mem := by
  unfold loadEnds
  simp only [raise_kept, and_self]

@[simp] theorem loadFails_kept (code : Nat) (s : State) :
    (loadFails code s).part = s.part ∧ (loadFails code s).pending = s.pending ∧ (loadFails code s).memGen = s.memGen ∧
    (loadFails code s).mem = s.mem := by
  unfold loadFails
  simp only [clearSlot_kept, loadEnds_kept, setRegion_kept, foldl_part, foldl_pending, foldl_memGen, foldl_mem, and_self,
      implies_true]

@[simp] theorem abortLoad_kept (s : State) :
    (abortLoad s).part = s.part ∧ (abortLoad s).pending = s.pending ∧ (abortLoad s).memGen = s.memGen ∧
    (abortLoad s).mem = s.mem := by
  unfold abortLoad
  simp only [loadEnds_kept, loadFails_kept, ite_part, ite_pending, ite_memGen, ite_mem, ite_self, and_self]

@[simp] theorem slotClaimRefused_kept (slot : Nat) (holder : Nat) (s : State) :
    (slotClaimRefused slot holder s).part = s.part ∧ (slotClaimRefused slot holder s).pending = s.pending ∧
    (slotClaimRefused slot holder s).memGen = s.memGen ∧ (slotClaimRefused slot holder s).mem = s.mem := by
  unfold slotClaimRefused
  simp only [raise_kept, and_self]

@[simp] theorem acceptHeader_kept (h : Nat) (s : State) :
    (acceptHeader h s).part = s.part ∧ (acceptHeader h s).pending = s.pending ∧ (acceptHeader h s).memGen = s.memGen ∧
    (acceptHeader h s).mem = s.mem := by
  unfold acceptHeader
  simp only [setRegion_kept, foldl_part, foldl_pending, foldl_memGen, foldl_mem, and_self, implies_true]

@[simp] theorem takeHeader_kept (bytes : List Byte) (s : State) :
    (takeHeader bytes s).part = s.part ∧ (takeHeader bytes s).pending = s.pending ∧ (takeHeader bytes s).memGen = s.memGen ∧
    (takeHeader bytes s).mem = s.mem := by
  unfold takeHeader
  simp only [acceptHeader_kept, loadEnds_kept, slotClaimRefused_kept, ite_part, ite_pending, ite_memGen, ite_mem, ite_self,
      and_self]

@[simp] theorem storeFrame_kept (slot : Nat) (addr : Nat) (payload : Nat) (s0 : State) :
    (storeFrame slot addr payload s0).part = s0.part ∧ (storeFrame slot addr payload s0).pending = s0.pending ∧
    (storeFrame slot addr payload s0).memGen = s0.memGen ∧ (storeFrame slot addr payload s0).mem = s0.mem := by
  unfold storeFrame
  simp only [State.draw_kept, ite_part, ite_pending, ite_memGen, ite_mem, ite_self, and_self]

@[simp] theorem takeFrame_kept (bytes : List Byte) (s : State) :
    (takeFrame bytes s).part = s.part ∧ (takeFrame bytes s).pending = s.pending ∧ (takeFrame bytes s).memGen = s.memGen ∧
    (takeFrame bytes s).mem = s.mem := by
  unfold takeFrame
  simp only [loadFails_kept, storeFrame_kept, ite_part, ite_pending, ite_memGen, ite_mem, ite_self, and_self]

@[simp] theorem execSlotClearDone_kept (s : State) :
    (after (execSlotClearDone s) s).part = s.part ∧ (after (execSlotClearDone s) s).pending = s.pending ∧
    (after (execSlotClearDone s) s).memGen = s.memGen ∧ (after (execSlotClearDone s) s).mem = s.mem := by
  unfold execSlotClearDone
  simp only [clearSlot_kept, storeFrame_kept, ite_part, ite_pending, ite_memGen, ite_mem, foldl_part, foldl_pending,
      foldl_memGen, foldl_mem, ite_self, and_self, implies_true, after_ite, after_done, settle_kept]

@[simp] theorem takeTrailer_kept (bytes : List Byte) (s : State) :
    (takeTrailer bytes s).part = s.part ∧ (takeTrailer bytes s).pending = s.pending ∧
    (takeTrailer bytes s).memGen = s.memGen ∧ (takeTrailer bytes s).mem = s.mem := by
  unfold takeTrailer
  simp only [loadFails_kept, ite_part, ite_pending, ite_memGen, ite_mem, ite_self, and_self]

@[simp] theorem takeBlock_kept (block : List Byte) (s : State) :
    (takeBlock block s).part = s.part ∧ (takeBlock block s).pending = s.pending ∧ (takeBlock block s).memGen = s.memGen ∧
    (takeBlock block s).mem = s.mem := by
  unfold takeBlock
  exact ⟨by with_reducible rfl, by with_reducible rfl, by with_reducible rfl, by with_reducible rfl⟩

@[simp] theorem takePart_kept (bytes : List Byte) (s : State) :
    (takePart bytes s).part = s.part ∧ (takePart bytes s).pending = s.pending ∧ (takePart bytes s).memGen = s.memGen ∧
    (takePart bytes s).mem = s.mem := by
  unfold takePart
  (repeat' split) <;> simp only [takeBlock_kept, takeFrame_kept, takeHeader_kept, takeTrailer_kept, and_self]

@[simp] theorem takeParts_kept (a0 : Nat) (a1 : State) :
    (takeParts a0 a1).part = a1.part ∧ (takeParts a0 a1).pending = a1.pending ∧ (takeParts a0 a1).memGen = a1.memGen ∧
    (takeParts a0 a1).mem = a1.mem := by
  induction a0 generalizing a1 with
  | zero => exact ⟨rfl, rfl, rfl, rfl⟩
  | succ n ih =>
    simp only [takeParts]
    (repeat' split) <;> simp only [ih, takePart_kept, and_self]

@[simp] theorem takeBytes_kept (bytes : List Byte) (s : State) :
    (takeBytes bytes s).part = s.part ∧ (takeBytes bytes s).pending = s.pending ∧ (takeBytes bytes s).memGen = s.memGen ∧
    (takeBytes bytes s).mem = s.mem := by
  unfold takeBytes
  simp only [takeParts_kept, ite_part, ite_pending, ite_memGen, ite_mem, ite_self, and_self]

@[simp] theorem shiftBits_kept (bits : List Bool) (s : State) :
    (shiftBits bits s).part = s.part ∧ (shiftBits bits s).pending = s.pending ∧ (shiftBits bits s).memGen = s.memGen ∧
    (shiftBits bits s).mem = s.mem := by
  unfold shiftBits
  simp only [takeBytes_kept, and_self]

@[simp] theorem wideEdges_kept (bytes : List Byte) (s : State) :
    (wideEdges bytes s).part = s.part ∧ (wideEdges bytes s).pending = s.pending ∧ (wideEdges bytes s).memGen = s.memGen ∧
    (wideEdges bytes s).mem = s.mem := by
  unfold wideEdges
  simp only [takeBytes_kept, ite_part, ite_pending, ite_memGen, ite_mem, ite_self, and_self]

@[simp] theorem comesRest_kept (wide : Bool) (part : List Byte) (s : State) :
    (comesRest wide part s).part = s.part ∧ (comesRest wide part s).pending = s.pending ∧
    (comesRest wide part s).memGen = s.memGen ∧ (comesRest wide part s).mem = s.mem := by
  unfold comesRest
  simp only [shiftBits_kept, wideEdges_kept, ite_part, ite_pending, ite_memGen, ite_mem, ite_self, and_self]

@[simp] theorem imagePart_kept (wide : Bool) (due : Bool) (part : List Byte) (s : State) :
    (imagePart wide due part s).part = s.part ∧ (imagePart wide due part s).pending = s.pending ∧
    (imagePart wide due part s).memGen = s.memGen ∧ (imagePart wide due part s).mem = s.mem := by
  unfold imagePart
  simp only [comesRest_kept, wideEdges_kept, ite_part, ite_pending, ite_memGen, ite_mem, ite_self, and_self]

@[simp] theorem execImageHeader_kept (wide : Bool) (header : BitVec 512) (s : State) :
    (after (execImageHeader wide header s) s).part = s.part ∧
    (after (execImageHeader wide header s) s).pending = s.pending ∧
    (after (execImageHeader wide header s) s).memGen = s.memGen ∧ (after (execImageHeader wide header s) s).mem = s.mem := by
  unfold execImageHeader
  simp only [imagePart_kept, and_self, after_done, settle_kept]

@[simp] theorem execImageFrame_kept (wide : Bool) (address : BitVec 32) (payload : BitVec 2560) (s : State) :
    (after (execImageFrame wide address payload s) s).part = s.part ∧
    (after (execImageFrame wide address payload s) s).pending = s.pending ∧
    (after (execImageFrame wide address payload s) s).memGen = s.memGen ∧
    (after (execImageFrame wide address payload s) s).mem = s.mem := by
  unfold execImageFrame
  simp only [imagePart_kept, and_self, after_done, settle_kept]

@[simp] theorem execImageTrailer_kept (wide : Bool) (crc : BitVec 32) (block : List Byte) (s : State) :
    (after (execImageTrailer wide crc block s) s).part = s.part ∧
    (after (execImageTrailer wide crc block s) s).pending = s.pending ∧
    (after (execImageTrailer wide crc block s) s).memGen = s.memGen ∧
    (after (execImageTrailer wide crc block s) s).mem = s.mem := by
  unfold execImageTrailer
  simp only [imagePart_kept, and_self, after_done, settle_kept]

@[simp] theorem validate_kept (hash : Nat) (k : Nat) (s : State) :
    (validate hash k s).part = s.part ∧ (validate hash k s).pending = s.pending ∧ (validate hash k s).memGen = s.memGen ∧
    (validate hash k s).mem = s.mem := by
  unfold validate
  simp only [setRegion_kept, and_self]

@[simp] theorem loadAuth_kept (code : Nat) (s : State) :
    (loadAuth code s).part = s.part ∧ (loadAuth code s).pending = s.pending ∧ (loadAuth code s).memGen = s.memGen ∧
    (loadAuth code s).mem = s.mem := by
  unfold loadAuth
  simp only [alarm_kept, ite_part, ite_pending, ite_memGen, ite_mem, ite_self, and_self]

@[simp] theorem execImageCheckDone_kept (s : State) :
    (after (execImageCheckDone s) s).part = s.part ∧ (after (execImageCheckDone s) s).pending = s.pending ∧
    (after (execImageCheckDone s) s).memGen = s.memGen ∧ (after (execImageCheckDone s) s).mem = s.mem := by
  unfold execImageCheckDone
  simp only [loadAuth_kept, loadFails_kept, raise_kept, validate_kept, ite_part, ite_pending, ite_memGen, ite_mem,
      foldl_part, foldl_pending, foldl_memGen, foldl_mem, ite_self, and_self, implies_true, after_ite, after_done,
      settle_kept]

@[simp] theorem selectTap_kept (code : Nat) (tdr : Nat) (s : State) :
    (selectTap code tdr s).part = s.part ∧ (selectTap code tdr s).pending = s.pending ∧
    (selectTap code tdr s).memGen = s.memGen ∧ (selectTap code tdr s).mem = s.mem := by
  unfold selectTap
  simp only [abortLoad_kept, drivePins_kept, ite_part, ite_pending, ite_memGen, ite_mem, ite_self, and_self]

@[simp] theorem loadBoundary_kept (s : State) :
    (loadBoundary s).part = s.part ∧ (loadBoundary s).pending = s.pending ∧ (loadBoundary s).memGen = s.memGen ∧
    (loadBoundary s).mem = s.mem := by
  unfold loadBoundary
  simp only [State.draw_kept, ite_part, ite_pending, ite_memGen, ite_mem, ite_self, and_self]

@[simp] theorem execExtest_kept (s : State) :
    (after (execExtest s) s).part = s.part ∧ (after (execExtest s) s).pending = s.pending ∧
    (after (execExtest s) s).memGen = s.memGen ∧ (after (execExtest s) s).mem = s.mem := by
  unfold execExtest
  simp only [loadBoundary_kept, selectTap_kept, and_self, after_done, settle_kept]

@[simp] theorem execIdcode_kept (s : State) :
    (after (execIdcode s) s).part = s.part ∧ (after (execIdcode s) s).pending = s.pending ∧
    (after (execIdcode s) s).memGen = s.memGen ∧ (after (execIdcode s) s).mem = s.mem := by
  unfold execIdcode
  simp only [selectTap_kept, and_self, after_done, settle_kept]

@[simp] theorem execSamplePreload_kept (s : State) :
    (after (execSamplePreload s) s).part = s.part ∧ (after (execSamplePreload s) s).pending = s.pending ∧
    (after (execSamplePreload s) s).memGen = s.memGen ∧ (after (execSamplePreload s) s).mem = s.mem := by
  unfold execSamplePreload
  simp only [loadBoundary_kept, selectTap_kept, and_self, after_done, settle_kept]

@[simp] theorem execClamp_kept (s : State) :
    (after (execClamp s) s).part = s.part ∧ (after (execClamp s) s).pending = s.pending ∧
    (after (execClamp s) s).memGen = s.memGen ∧ (after (execClamp s) s).mem = s.mem := by
  unfold execClamp
  simp only [selectTap_kept, and_self, after_done, settle_kept]

@[simp] theorem execHighz_kept (s : State) :
    (after (execHighz s) s).part = s.part ∧ (after (execHighz s) s).pending = s.pending ∧
    (after (execHighz s) s).memGen = s.memGen ∧ (after (execHighz s) s).mem = s.mem := by
  unfold execHighz
  simp only [selectTap_kept, and_self, after_done, settle_kept]

@[simp] theorem execBypass_kept (s : State) :
    (after (execBypass s) s).part = s.part ∧ (after (execBypass s) s).pending = s.pending ∧
    (after (execBypass s) s).memGen = s.memGen ∧ (after (execBypass s) s).mem = s.mem := by
  unfold execBypass
  simp only [selectTap_kept, and_self, after_done, settle_kept]

@[simp] theorem execTestLogicReset_kept (s : State) :
    (after (execTestLogicReset s) s).part = s.part ∧ (after (execTestLogicReset s) s).pending = s.pending ∧
    (after (execTestLogicReset s) s).memGen = s.memGen ∧ (after (execTestLogicReset s) s).mem = s.mem := by
  unfold execTestLogicReset
  simp only [abortLoad_kept, drivePins_kept, ite_part, ite_pending, ite_memGen, ite_mem, ite_self, and_self, after_ite,
      after_done, settle_kept]

@[simp] theorem execCfgLoad_kept (bits : List Bool) (s : State) :
    (after (execCfgLoad bits s) s).part = s.part ∧ (after (execCfgLoad bits s) s).pending = s.pending ∧
    (after (execCfgLoad bits s) s).memGen = s.memGen ∧ (after (execCfgLoad bits s) s).mem = s.mem := by
  unfold execCfgLoad
  simp only [selectTap_kept, shiftBits_kept, ite_part, ite_pending, ite_memGen, ite_mem, ite_self, and_self, after_done,
      settle_kept]

@[simp] theorem execCfgWide_kept (bytes : List Byte) (s : State) :
    (after (execCfgWide bytes s) s).part = s.part ∧ (after (execCfgWide bytes s) s).pending = s.pending ∧
    (after (execCfgWide bytes s) s).memGen = s.memGen ∧ (after (execCfgWide bytes s) s).mem = s.mem := by
  unfold execCfgWide
  simp only [selectTap_kept, wideEdges_kept, and_self, after_done, settle_kept]

@[simp] theorem execCfgStatus_kept (s : State) :
    (after (execCfgStatus s) s).part = s.part ∧ (after (execCfgStatus s) s).pending = s.pending ∧
    (after (execCfgStatus s) s).memGen = s.memGen ∧ (after (execCfgStatus s) s).mem = s.mem := by
  unfold execCfgStatus
  simp only [selectTap_kept, and_self, after_done, settle_kept]

@[simp] theorem execChainSel_kept (word : BitVec 4) (s : State) :
    (after (execChainSel word s) s).part = s.part ∧ (after (execChainSel word s) s).pending = s.pending ∧
    (after (execChainSel word s) s).memGen = s.memGen ∧ (after (execChainSel word s) s).mem = s.mem := by
  unfold execChainSel
  simp only [selectTap_kept, ite_part, ite_pending, ite_memGen, ite_mem, ite_self, and_self, after_ite, after_done,
      settle_kept]

@[simp] theorem safeAction_kept (slot : Nat) (k : Nat) (s : State) :
    (safeAction slot k s).part = s.part ∧ (safeAction slot k s).pending = s.pending ∧
    (safeAction slot k s).memGen = s.memGen ∧ (safeAction slot k s).mem = s.mem := by
  unfold safeAction
  simp only [deviceSelect_kept, ite_part, ite_pending, ite_memGen, ite_mem, ite_self, and_self]

@[simp] theorem frameFails_kept (slot : Nat) (k : Nat) (addr : Nat) (code : Nat) (s : State) :
    (frameFails slot k addr code s).part = s.part ∧ (frameFails slot k addr code s).pending = s.pending ∧
    (frameFails slot k addr code s).memGen = s.memGen ∧ (frameFails slot k addr code s).mem = s.mem := by
  unfold frameFails
  simp only [raise_kept, safeAction_kept, setRegion_kept, ite_part, ite_pending, ite_memGen, ite_mem, ite_self, and_self]

@[simp] theorem frameCorrected_kept (slot : Nat) (addr : Nat) (u : Nat) (s : State) :
    (frameCorrected slot addr u s).part = s.part ∧ (frameCorrected slot addr u s).pending = s.pending ∧
    (frameCorrected slot addr u s).memGen = s.memGen ∧ (frameCorrected slot addr u s).mem = s.mem := by
  unfold frameCorrected
  simp only [State.draw_kept, raiseOnce_kept, ite_part, ite_pending, ite_memGen, ite_mem, ite_self, and_self]

@[simp] theorem writtenBack_kept (slot : Nat) (addr : Nat) (s : State) :
    (writtenBack slot addr s).part = s.part ∧ (writtenBack slot addr s).pending = s.pending ∧
    (writtenBack slot addr s).memGen = s.memGen ∧ (writtenBack slot addr s).mem = s.mem := by
  unfold writtenBack
  simp only [State.draw_kept, ite_part, ite_pending, ite_memGen, ite_mem, ite_self, and_self]

@[simp] theorem scrubFrame_kept (half : Nat) (p : ScrubPos) (flips : BitVec 2560) (found : FrameCheck) (s : State) :
    (scrubFrame half p flips found s).part = s.part ∧ (scrubFrame half p flips found s).pending = s.pending ∧
    (scrubFrame half p flips found s).memGen = s.memGen ∧ (scrubFrame half p flips found s).mem = s.mem := by
  unfold scrubFrame
  (repeat' (first | (simp only [State.draw_kept, frameCorrected_kept, frameFails_kept, writtenBack_kept, and_self]; done) | split | simp only []))

@[simp] theorem peerCheck_kept (repaired : List (Fin 64)) (s : State) :
    (peerCheck repaired s).part = s.part ∧ (peerCheck repaired s).pending = s.pending ∧
    (peerCheck repaired s).memGen = s.memGen ∧ (peerCheck repaired s).mem = s.mem := by
  unfold peerCheck
  simp only [raise_kept, foldl_part, foldl_pending, foldl_memGen, foldl_mem, and_self, implies_true]

@[simp] theorem passDone_kept (half : Nat) (s : State) :
    (passDone half s).part = s.part ∧ (passDone half s).pending = s.pending ∧ (passDone half s).memGen = s.memGen ∧
    (passDone half s).mem = s.mem := by
  unfold passDone
  simp only [ite_part, ite_pending, ite_memGen, ite_mem, ite_self, and_self]

@[simp] theorem setScrubPos_kept (half : Nat) (p : ScrubPos) (s : State) :
    (setScrubPos half p s).part = s.part ∧ (setScrubPos half p s).pending = s.pending ∧
    (setScrubPos half p s).memGen = s.memGen ∧ (setScrubPos half p s).mem = s.mem := by
  unfold setScrubPos
  simp only [ite_part, ite_pending, ite_memGen, ite_mem, ite_self, and_self]

@[simp] theorem scrubPass_kept (half : Nat) (p : ScrubPos) (repaired : List (Fin 64)) (flips : BitVec 2560)
    (found : FrameCheck) (s : State) :
    (scrubPass half p repaired flips found s).part = s.part ∧
    (scrubPass half p repaired flips found s).pending = s.pending ∧
    (scrubPass half p repaired flips found s).memGen = s.memGen ∧ (scrubPass half p repaired flips found s).mem = s.mem := by
  unfold scrubPass
  (repeat' (first | (simp only [passDone_kept, peerCheck_kept, scrubFrame_kept, setScrubPos_kept, and_self]; done) | split | simp only []))

@[simp] theorem scrubBackground_kept (half : Nat) (repaired : List (Fin 64)) (flips : BitVec 2560) (found : FrameCheck)
    (s : State) :
    (scrubBackground half repaired flips found s).part = s.part ∧
    (scrubBackground half repaired flips found s).pending = s.pending ∧
    (scrubBackground half repaired flips found s).memGen = s.memGen ∧
    (scrubBackground half repaired flips found s).mem = s.mem := by
  unfold scrubBackground
  (repeat' split) <;> simp only [passDone_kept, scrubPass_kept, and_self]

@[simp] theorem setReqPos_kept (half : Nat) (p : Option ScrubPos) (s : State) :
    (setReqPos half p s).part = s.part ∧ (setReqPos half p s).pending = s.pending ∧ (setReqPos half p s).memGen = s.memGen ∧
    (setReqPos half p s).mem = s.mem := by
  unfold setReqPos
  exact ⟨by with_reducible rfl, by with_reducible rfl, by with_reducible rfl, by with_reducible rfl⟩

@[simp] theorem setTurn_kept (half : Nat) (b : Bool) (s : State) :
    (setTurn half b s).part = s.part ∧ (setTurn half b s).pending = s.pending ∧ (setTurn half b s).memGen = s.memGen ∧
    (setTurn half b s).mem = s.mem := by
  unfold setTurn
  simp only [ite_part, ite_pending, ite_memGen, ite_mem, ite_self, and_self]

@[simp] theorem scrubRequested_kept (half : Nat) (p : ScrubPos) (flips : BitVec 2560) (found : FrameCheck) (s : State) :
    (scrubRequested half p flips found s).part = s.part ∧ (scrubRequested half p flips found s).pending = s.pending ∧
    (scrubRequested half p flips found s).memGen = s.memGen ∧ (scrubRequested half p flips found s).mem = s.mem := by
  unfold scrubRequested
  simp only [scrubFrame_kept, setReqPos_kept, setTurn_kept, and_self]

@[simp] theorem backgroundRead_kept (half : Nat) (repaired : List (Fin 64)) (fatal : Bool) (multi : Bool)
    (flips : BitVec 2560) (found : FrameCheck) (s : State) :
    (backgroundRead half repaired fatal multi flips found s).part = s.part ∧
    (backgroundRead half repaired fatal multi flips found s).pending = s.pending := by
  unfold backgroundRead
  simp only [resetSource_kept, scrubBackground_kept, ite_part, ite_pending, ite_self, and_self]

@[simp] theorem execScrubFrameRead_kept (scrubber : Fin 2) (peerCorrected : List (Fin 64)) (peerFatal : Bool)
    (flips : BitVec 2560) (found : FrameCheck) (multi : Bool) (s : State) :
    (after (execScrubFrameRead scrubber peerCorrected peerFatal flips found multi s) s).part = s.part ∧
    (after (execScrubFrameRead scrubber peerCorrected peerFatal flips found multi s) s).pending = s.pending := by
  unfold execScrubFrameRead
  (repeat' (first | (simp only [backgroundRead_kept, scrubRequested_kept, setReqPos_kept, setTurn_kept, ite_part, ite_pending, and_self, after_ite, after_done, settle_kept]; done) | split | simp only []))

@[simp] theorem scrubRequestWrite_kept (v : Nat) (s : State) :
    (scrubRequestWrite v s).2.part = s.part ∧ (scrubRequestWrite v s).2.pending = s.pending ∧
    (scrubRequestWrite v s).2.memGen = s.memGen ∧ (scrubRequestWrite v s).2.mem = s.mem := by
  unfold scrubRequestWrite
  simp only [slotClaimRefused_kept, ite_part, ite_pending, ite_memGen, ite_mem, ite_self, ite_snd, and_self]

@[simp] theorem execScrubRequest_kept (path : Path) (slot : BitVec 8) (s : State) :
    (after (execScrubRequest path slot s) s).part = s.part ∧ (after (execScrubRequest path slot s) s).pending = s.pending ∧
    (after (execScrubRequest path slot s) s).memGen = s.memGen ∧ (after (execScrubRequest path slot s) s).mem = s.mem := by
  unfold execScrubRequest
  simp only [onPath_part, onPath_pending, onPath_memGen, onPath_mem, scrubRequestWrite_kept, and_self, after_done,
      settle_kept]

@[simp] theorem invalidateWrite_kept (word : Nat) (s : State) :
    (invalidateWrite word s).2.part = s.part ∧ (invalidateWrite word s).2.pending = s.pending ∧
    (invalidateWrite word s).2.memGen = s.memGen ∧ (invalidateWrite word s).2.mem = s.mem := by
  unfold invalidateWrite
  simp only [setRegion_kept, ite_part, ite_pending, ite_memGen, ite_mem, foldl_part, foldl_pending, foldl_memGen, foldl_mem,
      ite_self, ite_snd, and_self, implies_true]

@[simp] theorem execRegionInvalidate_kept (path : Path) (word : BitVec 32) (s : State) :
    (after (execRegionInvalidate path word s) s).part = s.part ∧
    (after (execRegionInvalidate path word s) s).pending = s.pending ∧
    (after (execRegionInvalidate path word s) s).memGen = s.memGen ∧
    (after (execRegionInvalidate path word s) s).mem = s.mem := by
  unfold execRegionInvalidate
  simp only [invalidateWrite_kept, onPath_part, onPath_pending, onPath_memGen, onPath_mem, and_self, after_done, settle_kept]

end Sys2Proof.Machine
end

