-- ==== Sys2Proof/Laws/BeatsKept.lean ====
section
/-! SUPPORT. What the functions of Machine/Beats.lean keep: the factory part, the queue, and memory where they do not write it. -/

namespace Sys2Proof.Machine

@[simp] theorem noteSelection_kept (near : List Staged) (k : Nat) (s : State) :
    (noteSelection near k s).part = s.part ∧ (noteSelection near k s).pending = s.pending ∧
    (noteSelection near k s).memGen = s.memGen ∧ (noteSelection near k s).mem = s.mem := by
  unfold noteSelection
  (repeat' split) <;> simp only [and_self]

@[simp] theorem setCode_kept (k : Nat) (c : Nat) (s : State) :
    (setCode k c s).part = s.part ∧ (setCode k c s).pending = s.pending ∧ (setCode k c s).memGen = s.memGen ∧
    (setCode k c s).mem = s.mem := by
  unfold setCode
  exact ⟨by with_reducible rfl, by with_reducible rfl, by with_reducible rfl, by with_reducible rfl⟩

@[simp] theorem setContext_kept (k : Nat) (v : Nat) (s : State) :
    (setContext k v s).part = s.part ∧ (setContext k v s).pending = s.pending ∧ (setContext k v s).memGen = s.memGen ∧
    (setContext k v s).mem = s.mem := by
  unfold setContext
  exact ⟨by with_reducible rfl, by with_reducible rfl, by with_reducible rfl, by with_reducible rfl⟩

@[simp] theorem doSwap_kept (k : Nat) (a : Swap) (s : State) :
    (doSwap k a s).part = s.part ∧ (doSwap k a s).pending = s.pending ∧ (doSwap k a s).memGen = s.memGen ∧
    (doSwap k a s).mem = s.mem := by
  unfold doSwap
  (repeat' split) <;> simp only [raiseIf_kept, setCode_kept, setContext_kept, ite_part, ite_pending, ite_memGen, ite_mem, ite_self, and_self]

@[simp] theorem voidSector_kept (k : Nat) (s : State) :
    (voidSector k s).part = s.part ∧ (voidSector k s).pending = s.pending ∧ (voidSector k s).memGen = s.memGen ∧
    (voidSector k s).mem = s.mem := by
  unfold voidSector
  simp only [setCode_kept, setContext_kept, ite_part, ite_pending, ite_memGen, ite_mem, ite_self, and_self]

@[simp] theorem recordRefusal_kept (f : Option (Nat × Nat × Nat)) (void : Bool) (s : State) :
    (recordRefusal f void s).part = s.part ∧ (recordRefusal f void s).pending = s.pending ∧
    (recordRefusal f void s).memGen = s.memGen ∧ (recordRefusal f void s).mem = s.mem := by
  unfold recordRefusal
  (repeat' split) <;> simp only [and_self]

@[simp] theorem refusalRecords_kept (near : List Staged) (refused : Nat → Bool) (s : State) :
    (refusalRecords near refused s).part = s.part ∧ (refusalRecords near refused s).pending = s.pending ∧
    (refusalRecords near refused s).memGen = s.memGen ∧ (refusalRecords near refused s).mem = s.mem := by
  unfold refusalRecords
  simp only [ite_part, ite_pending, ite_memGen, ite_mem, foldl_part, foldl_pending, foldl_memGen, foldl_mem, ite_self,
      and_self, implies_true]

@[simp] theorem swapSectors_kept (near : List Staged) (s : State) :
    (swapSectors near s).part = s.part ∧ (swapSectors near s).pending = s.pending ∧ (swapSectors near s).memGen = s.memGen ∧
    (swapSectors near s).mem = s.mem := by
  unfold swapSectors
  simp only [doSwap_kept, raiseIf_kept, recordRefusal_kept, refusalRecords_kept, voidSector_kept, foldl_part, foldl_pending,
      foldl_memGen, foldl_mem, and_self, implies_true]

@[simp] theorem restartStation_kept (st : Nat) (s : State) :
    (restartStation st s).part = s.part ∧ (restartStation st s).pending = s.pending ∧
    (restartStation st s).memGen = s.memGen ∧ (restartStation st s).mem = s.mem := by
  unfold restartStation
  simp only [State.setStation_kept, and_self]

@[simp] theorem restartSectors_kept (s : State) :
    (restartSectors s).part = s.part ∧ (restartSectors s).pending = s.pending ∧ (restartSectors s).memGen = s.memGen ∧
    (restartSectors s).mem = s.mem := by
  unfold restartSectors
  simp only [restartStation_kept, foldl_part, foldl_pending, foldl_memGen, foldl_mem, and_self, implies_true]

@[simp] theorem reservedIndices_kept (s : State) :
    (reservedIndices s).part = s.part ∧ (reservedIndices s).pending = s.pending ∧ (reservedIndices s).memGen = s.memGen ∧
    (reservedIndices s).mem = s.mem := by
  unfold reservedIndices
  simp only [raiseIf_kept, and_self]

@[simp] theorem probeSources_kept (s : State) :
    (probeSources s).part = s.part ∧ (probeSources s).pending = s.pending ∧ (probeSources s).memGen = s.memGen ∧
    (probeSources s).mem = s.mem := by
  unfold probeSources
  simp only [raiseIf_kept, and_self]

@[simp] theorem releaseRings_kept (k : Nat) (s : State) :
    (releaseRings k s).part = s.part ∧ (releaseRings k s).pending = s.pending ∧ (releaseRings k s).memGen = s.memGen ∧
    (releaseRings k s).mem = s.mem := by
  unfold releaseRings
  exact ⟨by with_reducible rfl, by with_reducible rfl, by with_reducible rfl, by with_reducible rfl⟩

@[simp] theorem claimRings_kept (k : Nat) (s : State) :
    (claimRings k s).part = s.part ∧ (claimRings k s).pending = s.pending ∧ (claimRings k s).memGen = s.memGen ∧
    (claimRings k s).mem = s.mem := by
  unfold claimRings
  simp only [raise_kept, ite_part, ite_pending, ite_memGen, ite_mem, foldl_part, foldl_pending, foldl_memGen, foldl_mem,
      ite_self, and_self, implies_true]

@[simp] theorem ringOwners_kept (s : State) :
    (ringOwners s).part = s.part ∧ (ringOwners s).pending = s.pending ∧ (ringOwners s).memGen = s.memGen ∧
    (ringOwners s).mem = s.mem := by
  unfold ringOwners
  simp only [claimRings_kept, releaseRings_kept, foldl_part, foldl_pending, foldl_memGen, foldl_mem, and_self, implies_true]

@[simp] theorem crossingDatum_kept (s0 : State) (s : State) :
    (crossingDatum s0 s).part = s.part ∧ (crossingDatum s0 s).pending = s.pending ∧ (crossingDatum s0 s).memGen = s.memGen ∧
    (crossingDatum s0 s).mem = s.mem := by
  unfold crossingDatum
  exact ⟨by with_reducible rfl, by with_reducible rfl, by with_reducible rfl, by with_reducible rfl⟩

@[simp] theorem unitModeDatum_kept (s0 : State) (u : Nat) (s : State) :
    (unitModeDatum s0 u s).part = s.part ∧ (unitModeDatum s0 u s).pending = s.pending ∧
    (unitModeDatum s0 u s).memGen = s.memGen ∧ (unitModeDatum s0 u s).mem = s.mem := by
  unfold unitModeDatum
  simp only [State.setUnit_kept, ite_part, ite_pending, ite_memGen, ite_mem, ite_self, and_self]

@[simp] theorem unitModes_kept (s0 : State) (s : State) :
    (unitModes s0 s).part = s.part ∧ (unitModes s0 s).pending = s.pending ∧ (unitModes s0 s).memGen = s.memGen ∧
    (unitModes s0 s).mem = s.mem := by
  unfold unitModes
  simp only [unitModeDatum_kept, foldl_part, foldl_pending, foldl_memGen, foldl_mem, and_self, implies_true]

@[simp] theorem unitDatum_kept (s0 : State) (u : Nat) (s : State) :
    (unitDatum s0 u s).part = s.part ∧ (unitDatum s0 u s).pending = s.pending ∧ (unitDatum s0 u s).memGen = s.memGen ∧
    (unitDatum s0 u s).mem = s.mem := by
  unfold unitDatum
  simp only [State.setUnit_kept, openMark_kept, ite_part, ite_pending, ite_memGen, ite_mem, ite_self, and_self]

@[simp] theorem unitsDatum_kept (s0 : State) (s : State) :
    (unitsDatum s0 s).part = s.part ∧ (unitsDatum s0 s).pending = s.pending ∧ (unitsDatum s0 s).memGen = s.memGen ∧
    (unitsDatum s0 s).mem = s.mem := by
  unfold unitsDatum
  simp only [unitDatum_kept, foldl_part, foldl_pending, foldl_memGen, foldl_mem, and_self, implies_true]

@[simp] theorem capturesDatum_kept (s : State) :
    (capturesDatum s).part = s.part ∧ (capturesDatum s).pending = s.pending ∧ (capturesDatum s).memGen = s.memGen ∧
    (capturesDatum s).mem = s.mem := by
  unfold capturesDatum
  simp only [openCaptureMark_kept, foldl_part, foldl_pending, foldl_memGen, foldl_mem, and_self, implies_true]

@[simp] theorem freeSleepClaim_kept (g : Nat) (s : State) :
    (freeSleepClaim g s).part = s.part ∧ (freeSleepClaim g s).pending = s.pending ∧ (freeSleepClaim g s).memGen = s.memGen ∧
    (freeSleepClaim g s).mem = s.mem := by
  unfold freeSleepClaim
  simp only [State.setGroup_kept, ite_part, ite_pending, ite_memGen, ite_mem, ite_self, and_self]

@[simp] theorem groupDatum_kept (s0 : State) (g : Nat) (s : State) :
    (groupDatum s0 g s).part = s.part ∧ (groupDatum s0 g s).pending = s.pending ∧ (groupDatum s0 g s).memGen = s.memGen := by
  unfold groupDatum
  simp only [State.setGroup_kept, applyLanePower_kept, applyLaneSettings_kept, freeSleepClaim_kept, ite_part, ite_pending,
      ite_memGen, ite_self, and_self]

@[simp] theorem groupsDatum_kept (s0 : State) (s : State) :
    (groupsDatum s0 s).part = s.part ∧ (groupsDatum s0 s).pending = s.pending ∧ (groupsDatum s0 s).memGen = s.memGen := by
  unfold groupsDatum
  simp only [groupDatum_kept, foldl_part, foldl_pending, foldl_memGen, and_self, implies_true]

@[simp] theorem streamsDatum_kept (s0 : State) (s : State) :
    (streamsDatum s0 s).part = s.part ∧ (streamsDatum s0 s).pending = s.pending ∧ (streamsDatum s0 s).memGen = s.memGen ∧
    (streamsDatum s0 s).mem = s.mem := by
  unfold streamsDatum
  simp only [openRotation_kept, takeDescriptor_kept, foldl_part, foldl_pending, foldl_memGen, foldl_mem, and_self,
      implies_true]

@[simp] theorem workerSource_kept (s : State) :
    (workerSource s).part = s.part ∧ (workerSource s).pending = s.pending ∧ (workerSource s).memGen = s.memGen ∧
    (workerSource s).mem = s.mem := by
  unfold workerSource
  simp only [State.setObj_kept, ite_part, ite_pending, ite_memGen, ite_mem, ite_self, and_self]

@[simp] theorem planApplied_kept (near : List Staged) (s : State) :
    (planApplied near s).part = s.part ∧ (planApplied near s).pending = s.pending ∧ (planApplied near s).memGen = s.memGen ∧
    (planApplied near s).mem = s.mem := by
  unfold planApplied
  simp only [raiseIf_kept, and_self]

@[simp] theorem patternOn_kept (s : State) :
    (patternOn s).part = s.part ∧ (patternOn s).pending = s.pending ∧ (patternOn s).memGen = s.memGen ∧
    (patternOn s).mem = s.mem := by
  unfold patternOn
  simp only [ite_part, ite_pending, ite_memGen, ite_mem, ite_self, and_self]

@[simp] theorem crossingReset_kept (s : State) :
    (crossingReset s).part = s.part ∧ (crossingReset s).pending = s.pending ∧ (crossingReset s).memGen = s.memGen ∧
    (crossingReset s).mem = s.mem := by
  unfold crossingReset
  simp only [State.setObj_kept, ite_part, ite_pending, ite_memGen, ite_mem, ite_self, and_self]

@[simp] theorem startPend_kept (s : State) :
    (startPend s).part = s.part ∧ (startPend s).pending = s.pending ∧ (startPend s).memGen = s.memGen ∧
    (startPend s).mem = s.mem := by
  unfold startPend
  simp only [ite_part, ite_pending, ite_memGen, ite_mem, ite_self, and_self]

@[simp] theorem deviceStates_kept (s : State) :
    (deviceStates s).part = s.part ∧ (deviceStates s).pending = s.pending ∧ (deviceStates s).memGen = s.memGen ∧
    (deviceStates s).mem = s.mem := by
  unfold deviceStates
  simp only [startPend_kept, ite_part, ite_pending, ite_memGen, ite_mem, ite_self, and_self]

@[simp] theorem beginRelease_kept (near : List Staged) (s : State) :
    (beginRelease near s).part = s.part ∧ (beginRelease near s).pending = s.pending ∧
    (beginRelease near s).memGen = s.memGen ∧ (beginRelease near s).mem = s.mem := by
  unfold beginRelease
  simp only [setNmt_kept, and_self]

@[simp] theorem execReleaseWriteEnables_kept (s : State) :
    (after (execReleaseWriteEnables s) s).part = s.part ∧ (after (execReleaseWriteEnables s) s).pending = s.pending ∧
    (after (execReleaseWriteEnables s) s).memGen = s.memGen ∧ (after (execReleaseWriteEnables s) s).mem = s.mem := by
  unfold execReleaseWriteEnables
  simp only [ite_part, ite_pending, ite_memGen, ite_mem, ite_self, and_self, after_ite, after_done, settle_kept]

@[simp] theorem execReleaseStationReset_kept (s : State) :
    (after (execReleaseStationReset s) s).part = s.part ∧ (after (execReleaseStationReset s) s).pending = s.pending ∧
    (after (execReleaseStationReset s) s).memGen = s.memGen ∧ (after (execReleaseStationReset s) s).mem = s.mem := by
  unfold execReleaseStationReset
  simp only [raise_kept, ite_part, ite_pending, ite_memGen, ite_mem, ite_self, and_self, after_ite, after_done, settle_kept,
      after_doneFab, deferRaises_kept]

@[simp] theorem workerResumes_kept (s : State) :
    (workerResumes s).part = s.part ∧ (workerResumes s).pending = s.pending ∧ (workerResumes s).memGen = s.memGen ∧
    (workerResumes s).mem = s.mem := by
  unfold workerResumes
  simp only [updateFrozen_kept, ite_part, ite_pending, ite_memGen, ite_mem, ite_self, and_self]

@[simp] theorem nearDatum_kept (s0 : State) (s : State) :
    (nearDatum s0 s).part = s.part ∧ (nearDatum s0 s).pending = s.pending ∧ (nearDatum s0 s).memGen = s.memGen := by
  unfold nearDatum
  simp only [applyNear_kept, noteSelection_kept, patternOn_kept, planApplied_kept, powerDatum_kept, sectorsRestart_kept,
      unitMapDatum_kept, unitsServe_kept, workerSource_kept, foldl_part, foldl_pending, foldl_memGen, and_self, implies_true]

@[simp] theorem contextDatum_kept (s0 : State) (s : State) :
    (contextDatum s0 s).part = s.part ∧ (contextDatum s0 s).pending = s.pending ∧ (contextDatum s0 s).memGen = s.memGen ∧
    (contextDatum s0 s).mem = s.mem := by
  unfold contextDatum
  simp only [compareLinks_kept, crossingDatum_kept, probeSources_kept, reservedIndices_kept, restartSectors_kept,
      ringOwners_kept, swapSectors_kept, and_self]

@[simp] theorem releaseDatum_kept (s0 : State) (s : State) :
    (releaseDatum s0 s).part = s.part ∧ (releaseDatum s0 s).pending = s.pending ∧ (releaseDatum s0 s).memGen = s.memGen ∧
    (releaseDatum s0 s).mem = s.mem := by
  unfold releaseDatum
  simp only [beginRelease_kept, deviceStates_kept, ite_part, ite_pending, ite_memGen, ite_mem, ite_self, and_self]

@[simp] theorem unitsAndLanesDatum_kept (s0 : State) (s : State) :
    (unitsAndLanesDatum s0 s).part = s.part ∧ (unitsAndLanesDatum s0 s).pending = s.pending ∧
    (unitsAndLanesDatum s0 s).memGen = s.memGen := by
  unfold unitsAndLanesDatum
  simp only [applyLinkKeys_kept, beaconDatum_kept, capturesDatum_kept, freshWatches_kept, groupsDatum_kept,
      keeperDatum_kept, muxDatum_kept, resumeSending_kept, streamsDatum_kept, unitModes_kept, unitsDatum_kept,
      workerResumes_kept, foldl_part, foldl_pending, foldl_memGen, and_self, implies_true]

@[simp] theorem alignDatum_kept (s : State) :
    (alignDatum s).part = s.part ∧ (alignDatum s).pending = s.pending ∧ (alignDatum s).memGen = s.memGen ∧
    (alignDatum s).mem = s.mem := by
  unfold alignDatum
  simp only [endAlign_kept, ite_part, ite_pending, ite_memGen, ite_mem, ite_self, and_self]

@[simp] theorem datumSteps_kept (s : State) :
    (datumSteps s).part = s.part ∧ (datumSteps s).pending = s.pending ∧ (datumSteps s).memGen = s.memGen := by
  unfold datumSteps
  simp only [alignDatum_kept, contextDatum_kept, crossingReset_kept, lookAhead_kept, nearDatum_kept, releaseDatum_kept,
      shiftFar_kept, unitsAndLanesDatum_kept, and_self]

@[simp] theorem endBeat_kept (s : State) :
    (endBeat s).part = s.part ∧ (endBeat s).pending = s.pending ∧ (endBeat s).memGen = s.memGen := by
  unfold endBeat
  simp only [lanesEndBeat_kept, lanesTransmit_kept, pinsBeat_kept, ite_part, ite_pending, ite_memGen, ite_self, and_self]

@[simp] theorem startBeat_kept (s : State) :
    (startBeat s).part = s.part ∧ (startBeat s).pending = s.pending ∧ (startBeat s).memGen = s.memGen ∧
    (startBeat s).mem = s.mem := by
  unfold startBeat
  simp only [muxSettled_kept, sampleMarker_kept, and_self]

@[simp] theorem earlyDatum_kept (old : State) (s : State) :
    (earlyDatum old s).part = s.part ∧ (earlyDatum old s).pending = s.pending ∧ (earlyDatum old s).memGen = s.memGen ∧
    (earlyDatum old s).mem = s.mem := by
  unfold earlyDatum
  simp only [raiseIf_kept, and_self]

@[simp] theorem beatEdge_kept (ecc : List RingEcc) (s : State) :
    (beatEdge ecc s).part = s.part ∧ (beatEdge ecc s).pending = s.pending ∧ (beatEdge ecc s).memGen = s.memGen := by
  unfold beatEdge
  simp only [datumSteps_kept, drivePins_kept, earlyDatum_kept, endBeat_kept, framesLeave_kept, layerClears_kept,
      markBeat_kept, readoutAll_kept, settle_kept, startBeat_kept, sweepsStep_kept, takeRaises_kept, ite_part, ite_pending,
      ite_memGen, ite_self, and_self]

@[simp] theorem execBeat_kept (ecc : List RingEcc) (s : State) :
    (after (execBeat ecc s) s).part = s.part ∧ (after (execBeat ecc s) s).pending = s.pending ∧
    (after (execBeat ecc s) s).memGen = s.memGen := by
  unfold execBeat
  simp only [beatEdge_kept, ite_part, ite_pending, ite_memGen, ite_self, and_self, after_ite, after_done, settle_kept,
      after_doneFab, deferRaises_kept]

@[simp] theorem execDatumBeat_kept (ecc : List RingEcc) (s : State) :
    (after (execDatumBeat ecc s) s).part = s.part ∧ (after (execDatumBeat ecc s) s).pending = s.pending ∧
    (after (execDatumBeat ecc s) s).memGen = s.memGen := by
  unfold execDatumBeat
  simp only [beatEdge_kept, ite_part, ite_pending, ite_memGen, ite_self, and_self, after_ite, after_done, settle_kept,
      after_doneFab, deferRaises_kept]

@[simp] theorem markerTaken_kept (s : State) :
    (markerTaken s).part = s.part ∧ (markerTaken s).pending = s.pending ∧ (markerTaken s).memGen = s.memGen ∧
    (markerTaken s).mem = s.mem := by
  unfold markerTaken
  (repeat' split) <;> simp only [State.setGroup_kept, and_self]

@[simp] theorem markAligned_kept (s : State) :
    (markAligned s).part = s.part ∧ (markAligned s).pending = s.pending ∧ (markAligned s).memGen = s.memGen ∧
    (markAligned s).mem = s.mem := by
  unfold markAligned
  simp only [ite_part, ite_pending, ite_memGen, ite_mem, ite_self, and_self]

@[simp] theorem markerDatum_kept (s : State) :
    (markerDatum s).part = s.part ∧ (markerDatum s).pending = s.pending ∧ (markerDatum s).memGen = s.memGen := by
  unfold markerDatum
  simp only [datumSteps_kept, drivePins_kept, raise_kept, and_self]

@[simp] theorem alignAt_kept (s : State) :
    (alignAt s).part = s.part ∧ (alignAt s).pending = s.pending ∧ (alignAt s).memGen = s.memGen := by
  unfold alignAt
  simp only [markAligned_kept, markerDatum_kept, ite_part, ite_pending, ite_memGen, ite_self, and_self]

@[simp] theorem datumMarker_kept (s : State) :
    (datumMarker s).part = s.part ∧ (datumMarker s).pending = s.pending ∧ (datumMarker s).memGen = s.memGen := by
  unfold datumMarker
  (repeat' split) <;> simp only [alignAt_kept, endAlign_kept, raise_kept, and_self]

@[simp] theorem execDatumMarker_kept (s : State) :
    (after (execDatumMarker s) s).part = s.part ∧ (after (execDatumMarker s) s).pending = s.pending ∧
    (after (execDatumMarker s) s).memGen = s.memGen := by
  unfold execDatumMarker
  simp only [datumMarker_kept, markerTaken_kept, ite_part, ite_pending, ite_memGen, ite_self, and_self, after_ite,
      after_done, settle_kept, after_doneFab, deferRaises_kept]

end Sys2Proof.Machine
end

