-- ==== Sys2Proof/Laws/CanKept.lean ====
section
/-! SUPPORT. What the functions of Machine/Can.lean keep: the factory part, the queue, and memory where they do not write it. -/

namespace Sys2Proof.Machine

@[simp] theorem frameIn_kept (s : State) :
    (frameIn s).part = s.part ∧ (frameIn s).pending = s.pending ∧ (frameIn s).memGen = s.memGen ∧
    (frameIn s).mem = s.mem := by
  unfold frameIn
  exact ⟨by with_reducible rfl, by with_reducible rfl, by with_reducible rfl, by with_reducible rfl⟩

@[simp] theorem runToHold_kept (s : State) :
    (runToHold s).part = s.part ∧ (runToHold s).pending = s.pending ∧ (runToHold s).memGen = s.memGen ∧
    (runToHold s).mem = s.mem := by
  unfold runToHold
  simp only [ite_part, ite_pending, ite_memGen, ite_mem, ite_self, and_self]

@[simp] theorem cancelStart_kept (s : State) :
    (cancelStart s).part = s.part ∧ (cancelStart s).pending = s.pending ∧ (cancelStart s).memGen = s.memGen ∧
    (cancelStart s).mem = s.mem := by
  unfold cancelStart
  simp only [ite_part, ite_pending, ite_memGen, ite_mem, ite_self, and_self]

@[simp] theorem nmtStartCmd_kept (s : State) :
    (nmtStartCmd s).part = s.part ∧ (nmtStartCmd s).pending = s.pending ∧ (nmtStartCmd s).memGen = s.memGen ∧
    (nmtStartCmd s).mem = s.mem := by
  unfold nmtStartCmd
  (repeat' split) <;> simp only [raise_kept, setNmt_kept, startPend_kept, and_self]

@[simp] theorem nmtStopCmd_kept (s : State) :
    (nmtStopCmd s).part = s.part ∧ (nmtStopCmd s).pending = s.pending ∧ (nmtStopCmd s).memGen = s.memGen ∧
    (nmtStopCmd s).mem = s.mem := by
  unfold nmtStopCmd
  simp only [cancelStart_kept, runToHold_kept, setNmt_kept, and_self]

@[simp] theorem nmtPreOpCmd_kept (s : State) :
    (nmtPreOpCmd s).part = s.part ∧ (nmtPreOpCmd s).pending = s.pending ∧ (nmtPreOpCmd s).memGen = s.memGen ∧
    (nmtPreOpCmd s).mem = s.mem := by
  unfold nmtPreOpCmd
  simp only [runToHold_kept, setNmt_kept, and_self]

@[simp] theorem nmtResetCommCmd_kept (s : State) :
    (nmtResetCommCmd s).part = s.part ∧ (nmtResetCommCmd s).pending = s.pending ∧ (nmtResetCommCmd s).memGen = s.memGen ∧
    (nmtResetCommCmd s).mem = s.mem := by
  unfold nmtResetCommCmd
  simp only [bootUp_kept, cancelStart_kept, runToHold_kept, setNmt_kept, and_self]

@[simp] theorem nmtFrame_kept (specifier : Nat) (multi : Bool) (s : State) :
    (nmtFrame specifier multi s).part = s.part ∧ (nmtFrame specifier multi s).pending = s.pending := by
  unfold nmtFrame
  simp only [nmtPreOpCmd_kept, nmtResetCommCmd_kept, nmtStartCmd_kept, nmtStopCmd_kept, resetSource_kept, ite_part,
      ite_pending, ite_self, and_self]

@[simp] theorem localNmt_kept (path : Nat) (value : Nat) (s : State) :
    (localNmt path value s).2.part = s.part ∧ (localNmt path value s).2.pending = s.pending ∧
    (localNmt path value s).2.memGen = s.memGen ∧ (localNmt path value s).2.mem = s.mem := by
  unfold localNmt
  simp only [nmtPreOpCmd_kept, nmtResetCommCmd_kept, nmtStartCmd_kept, nmtStopCmd_kept, requestReset_kept, ite_part,
      ite_pending, ite_memGen, ite_mem, ite_self, ite_snd, and_self]

@[simp] theorem onUsdo_part (f : State → State) (s : State) (h_f : ∀ (y0 : State),
    (f y0).part = y0.part) : (onUsdo f s).part = s.part := by
  unfold onUsdo
  simp only [h_f, ite_part, ite_self]

@[simp] theorem onUsdo_pending (f : State → State) (s : State) (h_f : ∀ (y0 : State),
    (f y0).pending = y0.pending) : (onUsdo f s).pending = s.pending := by
  unfold onUsdo
  simp only [h_f, ite_pending, ite_self]

@[simp] theorem onUsdo_memGen (f : State → State) (s : State) (h_f : ∀ (y0 : State),
    (f y0).memGen = y0.memGen) : (onUsdo f s).memGen = s.memGen := by
  unfold onUsdo
  simp only [h_f, ite_memGen, ite_self]

@[simp] theorem onUsdo_mem (f : State → State) (s : State) (h_f : ∀ (y0 : State),
    (f y0).mem = y0.mem) : (onUsdo f s).mem = s.mem := by
  unfold onUsdo
  simp only [h_f, ite_mem, ite_self]

@[simp] theorem usdoInitiate_kept (s : State) :
    (usdoInitiate s).part = s.part ∧ (usdoInitiate s).pending = s.pending ∧ (usdoInitiate s).memGen = s.memGen ∧
    (usdoInitiate s).mem = s.mem := by
  unfold usdoInitiate
  simp only [usdoAborted_kept, ite_part, ite_pending, ite_memGen, ite_mem, ite_self, and_self]

@[simp] theorem usdoAbort_kept (code : Nat) (s : State) :
    (usdoAbort code s).part = s.part ∧ (usdoAbort code s).pending = s.pending ∧ (usdoAbort code s).memGen = s.memGen ∧
    (usdoAbort code s).mem = s.mem := by
  unfold usdoAbort
  simp only [reply_kept, usdoAbortFrame_kept, usdoEnds_kept, and_self]

@[simp] theorem downloadInitiate_kept (idx : Nat) (sub : Nat) (size : Nat) (expedited : Option (List Byte)) (s : State) :
    (downloadInitiate idx sub size expedited s).part = s.part ∧
    (downloadInitiate idx sub size expedited s).pending = s.pending ∧
    (downloadInitiate idx sub size expedited s).memGen = s.memGen ∧
    (downloadInitiate idx sub size expedited s).mem = s.mem := by
  unfold downloadInitiate
  (repeat' split) <;> simp only [State.setSession_kept, endRequest_kept, enqueue_kept, usdoInitiate_kept, usdoSend_kept, and_self]

@[simp] theorem downloadSegment_kept (toggle : Bool) (data : List Byte) (last : Bool) (s : State) :
    (downloadSegment toggle data last s).part = s.part ∧ (downloadSegment toggle data last s).pending = s.pending ∧
    (downloadSegment toggle data last s).memGen = s.memGen ∧ (downloadSegment toggle data last s).mem = s.mem := by
  unfold downloadSegment
  simp only [State.setSession_kept, enqueue_kept, usdoAbort_kept, usdoSend_kept, ite_part, ite_pending, ite_memGen, ite_mem,
      ite_self, and_self]

@[simp] theorem uploadSegment_kept (toggle : Bool) (s : State) :
    (uploadSegment toggle s).part = s.part ∧ (uploadSegment toggle s).pending = s.pending ∧
    (uploadSegment toggle s).memGen = s.memGen ∧ (uploadSegment toggle s).mem = s.mem := by
  unfold uploadSegment
  simp only [State.setSession_kept, usdoAbort_kept, usdoSend_kept, ite_part, ite_pending, ite_memGen, ite_mem, ite_self,
      and_self]

@[simp] theorem execUsdoSessionTimeout_kept (s : State) :
    (after (execUsdoSessionTimeout s) s).part = s.part ∧ (after (execUsdoSessionTimeout s) s).pending = s.pending ∧
    (after (execUsdoSessionTimeout s) s).memGen = s.memGen ∧ (after (execUsdoSessionTimeout s) s).mem = s.mem := by
  unfold execUsdoSessionTimeout
  simp only [freshTx_kept, usdoAbort_kept, ite_part, ite_pending, ite_memGen, ite_mem, ite_self, and_self, after_ite,
      after_done, settle_kept]

@[simp] theorem execHeartbeatSend_kept (s : State) :
    (after (execHeartbeatSend s) s).part = s.part ∧ (after (execHeartbeatSend s) s).pending = s.pending ∧
    (after (execHeartbeatSend s) s).memGen = s.memGen ∧ (after (execHeartbeatSend s) s).mem = s.mem := by
  unfold execHeartbeatSend
  simp only [canSend_kept, freshTx_kept, ite_part, ite_pending, ite_memGen, ite_mem, ite_self, and_self, after_ite,
      after_done, settle_kept]

@[simp] theorem setConsumer_kept (n : Nat) (c : Consumer) (s : State) :
    (setConsumer n c s).part = s.part ∧ (setConsumer n c s).pending = s.pending ∧ (setConsumer n c s).memGen = s.memGen ∧
    (setConsumer n c s).mem = s.mem := by
  unfold setConsumer
  exact ⟨by with_reducible rfl, by with_reducible rfl, by with_reducible rfl, by with_reducible rfl⟩

@[simp] theorem consumeHeartbeat_kept (node : Nat) (n : Nat) (s : State) :
    (consumeHeartbeat node n s).part = s.part ∧ (consumeHeartbeat node n s).pending = s.pending ∧
    (consumeHeartbeat node n s).memGen = s.memGen ∧ (consumeHeartbeat node n s).mem = s.mem := by
  unfold consumeHeartbeat
  simp only [errorReset_kept, setConsumer_kept, ite_part, ite_pending, ite_memGen, ite_mem, ite_self, and_self]

@[simp] theorem execHeartbeatTimeout_kept (entry : Fin 8) (s : State) :
    (after (execHeartbeatTimeout entry s) s).part = s.part ∧ (after (execHeartbeatTimeout entry s) s).pending = s.pending ∧
    (after (execHeartbeatTimeout entry s) s).memGen = s.memGen ∧ (after (execHeartbeatTimeout entry s) s).mem = s.mem := by
  unfold execHeartbeatTimeout
  simp only [emcyPush_kept, raise_kept, setConsumer_kept, ite_part, ite_pending, ite_memGen, ite_mem, ite_self, and_self,
      after_ite, after_done, settle_kept]

@[simp] theorem heartbeatWrite_kept (v : Nat) (s : State) :
    (heartbeatWrite v s).2.part = s.part ∧ (heartbeatWrite v s).2.pending = s.pending ∧
    (heartbeatWrite v s).2.memGen = s.memGen ∧ (heartbeatWrite v s).2.mem = s.mem := by
  unfold heartbeatWrite
  simp only [State.setObj_kept, and_self]

@[simp] theorem execHeartbeatTimeWrite_kept (path : Path) (value : BitVec 16) (s : State) :
    (after (execHeartbeatTimeWrite path value s) s).part = s.part ∧
    (after (execHeartbeatTimeWrite path value s) s).pending = s.pending ∧
    (after (execHeartbeatTimeWrite path value s) s).memGen = s.memGen ∧
    (after (execHeartbeatTimeWrite path value s) s).mem = s.mem := by
  unfold execHeartbeatTimeWrite
  simp only [heartbeatWrite_kept, onPath_part, onPath_pending, onPath_memGen, onPath_mem, and_self, after_done, settle_kept]

@[simp] theorem consumerWrite_kept (n : Nat) (v : Nat) (s : State) :
    (consumerWrite n v s).2.part = s.part ∧ (consumerWrite n v s).2.pending = s.pending ∧
    (consumerWrite n v s).2.memGen = s.memGen ∧ (consumerWrite n v s).2.mem = s.mem := by
  unfold consumerWrite
  simp only [State.setObj_kept, setConsumer_kept, ite_part, ite_pending, ite_memGen, ite_mem, ite_self, ite_snd, and_self]

@[simp] theorem execConsumerHeartbeatWrite_kept (path : Path) (entry : Fin 8) (value : BitVec 32) (s : State) :
    (after (execConsumerHeartbeatWrite path entry value s) s).part = s.part ∧
    (after (execConsumerHeartbeatWrite path entry value s) s).pending = s.pending ∧
    (after (execConsumerHeartbeatWrite path entry value s) s).memGen = s.memGen ∧
    (after (execConsumerHeartbeatWrite path entry value s) s).mem = s.mem := by
  unfold execConsumerHeartbeatWrite
  simp only [consumerWrite_kept, onPath_part, onPath_pending, onPath_memGen, onPath_mem, and_self, after_done, settle_kept]

@[simp] theorem errorFieldWrite_kept (v : Nat) (s : State) :
    (errorFieldWrite v s).2.part = s.part ∧ (errorFieldWrite v s).2.pending = s.pending ∧
    (errorFieldWrite v s).2.memGen = s.memGen ∧ (errorFieldWrite v s).2.mem = s.mem := by
  unfold errorFieldWrite
  simp only [ite_part, ite_pending, ite_memGen, ite_mem, ite_self, ite_snd, and_self]

@[simp] theorem execErrorFieldClear_kept (path : Path) (value : BitVec 8) (s : State) :
    (after (execErrorFieldClear path value s) s).part = s.part ∧
    (after (execErrorFieldClear path value s) s).pending = s.pending ∧
    (after (execErrorFieldClear path value s) s).memGen = s.memGen ∧
    (after (execErrorFieldClear path value s) s).mem = s.mem := by
  unfold execErrorFieldClear
  simp only [errorFieldWrite_kept, onPath_part, onPath_pending, onPath_memGen, onPath_mem, and_self, after_done, settle_kept]

@[simp] theorem execEmcySend_kept (s : State) :
    (after (execEmcySend s) s).part = s.part ∧ (after (execEmcySend s) s).pending = s.pending ∧
    (after (execEmcySend s) s).memGen = s.memGen ∧ (after (execEmcySend s) s).mem = s.mem := by
  unfold execEmcySend
  (repeat' split) <;> simp only [canSend_kept, freshTx_kept, and_self, after_done, settle_kept]

@[simp] theorem execCanBusError_kept (tx : Nat) (rx : Nat) (s : State) :
    (after (execCanBusError tx rx s) s).part = s.part ∧ (after (execCanBusError tx rx s) s).pending = s.pending ∧
    (after (execCanBusError tx rx s) s).memGen = s.memGen ∧ (after (execCanBusError tx rx s) s).mem = s.mem := by
  unfold execCanBusError
  simp only [raiseIf_kept, ite_part, ite_pending, ite_memGen, ite_mem, ite_self, and_self, after_ite, after_done,
      settle_kept]

@[simp] theorem execCanBusOffRecovery_kept (s : State) :
    (after (execCanBusOffRecovery s) s).part = s.part ∧ (after (execCanBusOffRecovery s) s).pending = s.pending ∧
    (after (execCanBusOffRecovery s) s).memGen = s.memGen ∧ (after (execCanBusOffRecovery s) s).mem = s.mem := by
  unfold execCanBusOffRecovery
  simp only [emcyPush_kept, ite_part, ite_pending, ite_memGen, ite_mem, ite_self, and_self, after_ite, after_done,
      settle_kept]

@[simp] theorem newMillisecond_kept (ends : Bool) (s : State) :
    (newMillisecond ends s).part = s.part ∧ (newMillisecond ends s).pending = s.pending ∧
    (newMillisecond ends s).memGen = s.memGen ∧ (newMillisecond ends s).mem = s.mem := by
  unfold newMillisecond
  simp only [ite_part, ite_pending, ite_memGen, ite_mem, ite_self, and_self]

@[simp] theorem rxOverrun_kept (dropped : Nat) (s : State) :
    (rxOverrun dropped s).part = s.part ∧ (rxOverrun dropped s).pending = s.pending ∧
    (rxOverrun dropped s).memGen = s.memGen ∧ (rxOverrun dropped s).mem = s.mem := by
  unfold rxOverrun
  simp only [emcyPush_kept, raise_kept, ite_part, ite_pending, ite_memGen, ite_mem, ite_self, and_self]

@[simp] theorem execCanRxOverrun_kept (dropped : Nat) (newMs : Bool) (s : State) :
    (after (execCanRxOverrun dropped newMs s) s).part = s.part ∧
    (after (execCanRxOverrun dropped newMs s) s).pending = s.pending ∧
    (after (execCanRxOverrun dropped newMs s) s).memGen = s.memGen ∧
    (after (execCanRxOverrun dropped newMs s) s).mem = s.mem := by
  unfold execCanRxOverrun
  simp only [newMillisecond_kept, rxOverrun_kept, ite_part, ite_pending, ite_memGen, ite_mem, ite_self, and_self, after_ite,
      after_done, settle_kept]

@[simp] theorem execCanRejoin_kept (s : State) :
    (after (execCanRejoin s) s).part = s.part ∧ (after (execCanRejoin s) s).pending = s.pending ∧
    (after (execCanRejoin s) s).memGen = s.memGen ∧ (after (execCanRejoin s) s).mem = s.mem := by
  unfold execCanRejoin
  simp only [ite_part, ite_pending, ite_memGen, ite_mem, ite_self, and_self, after_ite, after_done, settle_kept]

@[simp] theorem actOn_kept (f : CanRx) (s : State) :
    (actOn f s).part = s.part ∧ (actOn f s).pending = s.pending := by
  unfold actOn
  (repeat' split) <;> simp only [State.setSession_kept, consumeHeartbeat_kept, downloadInitiate_kept, downloadSegment_kept, enqueue_kept, nmtFrame_kept, onUsdo_part, onUsdo_pending, uploadSegment_kept, usdoInitiate_kept, foldl_part, foldl_pending, and_self, implies_true]

@[simp] theorem takeFrames_kept (a0 : Nat) (a1 : State) :
    (takeFrames a0 a1).part = a1.part ∧ (takeFrames a0 a1).pending = a1.pending := by
  induction a0 generalizing a1 with
  | zero => exact ⟨rfl, rfl⟩
  | succ n ih =>
    unfold takeFrames
    split
    · exact ⟨rfl, rfl⟩
    · simp only [ih, actOn_kept, and_self]

@[simp] theorem frameArrives_kept (newMs : Bool) (f : CanRx) (s : State) :
    (frameArrives newMs f s).part = s.part ∧ (frameArrives newMs f s).pending = s.pending := by
  unfold frameArrives
  simp only [frameIn_kept, freshTx_kept, newMillisecond_kept, rxOverrun_kept, takeFrames_kept, ite_part, ite_pending,
      ite_self, and_self]

@[simp] theorem execNmtStart_kept (newMs : Bool) (s : State) :
    (after (execNmtStart newMs s) s).part = s.part ∧ (after (execNmtStart newMs s) s).pending = s.pending := by
  unfold execNmtStart
  simp only [frameArrives_kept, and_self, after_done, settle_kept]

@[simp] theorem execNmtStop_kept (newMs : Bool) (s : State) :
    (after (execNmtStop newMs s) s).part = s.part ∧ (after (execNmtStop newMs s) s).pending = s.pending := by
  unfold execNmtStop
  simp only [frameArrives_kept, and_self, after_done, settle_kept]

@[simp] theorem execNmtEnterPreOperational_kept (newMs : Bool) (s : State) :
    (after (execNmtEnterPreOperational newMs s) s).part = s.part ∧
    (after (execNmtEnterPreOperational newMs s) s).pending = s.pending := by
  unfold execNmtEnterPreOperational
  simp only [frameArrives_kept, and_self, after_done, settle_kept]

@[simp] theorem execNmtResetNode_kept (newMs : Bool) (multi : Bool) (s : State) :
    (after (execNmtResetNode newMs multi s) s).part = s.part ∧
    (after (execNmtResetNode newMs multi s) s).pending = s.pending := by
  unfold execNmtResetNode
  simp only [frameArrives_kept, and_self, after_done, settle_kept]

@[simp] theorem execNmtResetCommunication_kept (newMs : Bool) (s : State) :
    (after (execNmtResetCommunication newMs s) s).part = s.part ∧
    (after (execNmtResetCommunication newMs s) s).pending = s.pending := by
  unfold execNmtResetCommunication
  simp only [frameArrives_kept, and_self, after_done, settle_kept]

@[simp] theorem execUsdoDownloadInitiate_kept (newMs : Bool) (index : BitVec 16) (sub : BitVec 8) (size : Nat)
    (expedited : Option (List Byte)) (s : State) :
    (after (execUsdoDownloadInitiate newMs index sub size expedited s) s).part = s.part ∧
    (after (execUsdoDownloadInitiate newMs index sub size expedited s) s).pending = s.pending := by
  unfold execUsdoDownloadInitiate
  simp only [frameArrives_kept, and_self, after_done, settle_kept]

@[simp] theorem execUsdoDownloadSegment_kept (newMs : Bool) (toggle : Bool) (data : List Byte) (last : Bool) (s : State) :
    (after (execUsdoDownloadSegment newMs toggle data last s) s).part = s.part ∧
    (after (execUsdoDownloadSegment newMs toggle data last s) s).pending = s.pending := by
  unfold execUsdoDownloadSegment
  simp only [frameArrives_kept, and_self, after_done, settle_kept]

@[simp] theorem execUsdoUploadInitiate_kept (newMs : Bool) (index : BitVec 16) (sub : BitVec 8) (s : State) :
    (after (execUsdoUploadInitiate newMs index sub s) s).part = s.part ∧
    (after (execUsdoUploadInitiate newMs index sub s) s).pending = s.pending := by
  unfold execUsdoUploadInitiate
  simp only [frameArrives_kept, and_self, after_done, settle_kept]

@[simp] theorem execUsdoUploadSegment_kept (newMs : Bool) (toggle : Bool) (s : State) :
    (after (execUsdoUploadSegment newMs toggle s) s).part = s.part ∧
    (after (execUsdoUploadSegment newMs toggle s) s).pending = s.pending := by
  unfold execUsdoUploadSegment
  simp only [frameArrives_kept, and_self, after_done, settle_kept]

@[simp] theorem execHeartbeatReceived_kept (newMs : Bool) (node : BitVec 7) (_state : BitVec 8) (s : State) :
    (after (execHeartbeatReceived newMs node _state s) s).part = s.part ∧
    (after (execHeartbeatReceived newMs node _state s) s).pending = s.pending := by
  unfold execHeartbeatReceived
  simp only [frameArrives_kept, and_self, after_done, settle_kept]

end Sys2Proof.Machine
end

