-- ==== Sys2Proof/Laws/MoveKept.lean ====
section
/-! SUPPORT. What the functions of Machine/Move.lean keep: the factory part, the queue, and memory where they do not write it. -/

namespace Sys2Proof.Machine

@[simp] theorem execMoveSubmit_kept (engine : Fin 4) (origin : Origin) (descriptor : Line) (s : State) :
    (after (execMoveSubmit engine origin descriptor s) s).part = s.part ∧
    (after (execMoveSubmit engine origin descriptor s) s).pending = s.pending ∧
    (after (execMoveSubmit engine origin descriptor s) s).memGen = s.memGen ∧
    (after (execMoveSubmit engine origin descriptor s) s).mem = s.mem := by
  unfold execMoveSubmit
  (repeat' split) <;> simp only [moveAccept_kept, moveFromNoc_kept, onPath_part, onPath_pending, onPath_memGen, onPath_mem, and_self, after_done, settle_kept]

@[simp] theorem plainLine_kept (q : ReqId) (addr : Nat) (data : Option Line) (bad : Bool) (ecc : List EccClass) (s : State) :
    (plainLine q addr data bad ecc s).part = s.part ∧ (plainLine q addr data bad ecc s).pending = s.pending ∧
    (plainLine q addr data bad ecc s).memGen = s.memGen := by
  unfold plainLine
  (repeat' split) <;> simp only [State.writeNat_kept, answer_kept, answerStatus_kept, and_self]

@[simp] theorem countLineEcc_kept (core : Option Nat) (data : Option Line) (ecc : List EccClass) (s : State) :
    (countLineEcc core data ecc s).part = s.part ∧ (countLineEcc core data ecc s).pending = s.pending ∧
    (countLineEcc core data ecc s).memGen = s.memGen ∧ (countLineEcc core data ecc s).mem = s.mem := by
  unfold countLineEcc
  split
  · exact ⟨rfl, rfl, rfl, rfl⟩
  · cases core
    · exact ⟨foldl_part _ _ _ fun t e => (countPoolEcc_kept e t).1,
    foldl_pending _ _ _ fun t e => (countPoolEcc_kept e t).2.1,
        foldl_memGen _ _ _ fun t e => (countPoolEcc_kept e t).2.2.1,
        foldl_mem _ _ _ fun t e => (countPoolEcc_kept e t).2.2.2⟩
    · rename_i k
      exact ⟨foldl_part _ _ _ fun t e => (countStoreEcc_kept k e t).1,
      foldl_pending _ _ _ fun t e => (countStoreEcc_kept k e t).2.1,
        foldl_memGen _ _ _ fun t e => (countStoreEcc_kept k e t).2.2.1,
        foldl_mem _ _ _ fun t e => (countStoreEcc_kept k e t).2.2.2⟩

@[simp] theorem moveCollides_kept (q : ReqId) (u : Nat) (s : State) :
    (moveCollides q u s).part = s.part ∧ (moveCollides q u s).pending = s.pending ∧ (moveCollides q u s).memGen = s.memGen ∧
    (moveCollides q u s).mem = s.mem := by
  unfold moveCollides
  simp only [collide_kept, and_self]

@[simp] theorem moveToWorker_kept (q : ReqId) (w : Nat) (addr : Nat) (data : Option Line) (bad : Bool) (crc : Option Nat)
    (m : MoveFlit) (s : State) :
    (moveToWorker q w addr data bad crc m s).part = s.part ∧ (moveToWorker q w addr data bad crc m s).pending = s.pending ∧
    (moveToWorker q w addr data bad crc m s).memGen = s.memGen ∧ (moveToWorker q w addr data bad crc m s).mem = s.mem := by
  unfold moveToWorker
  simp only [answer_kept, answerStatus_kept, toCarriage_kept, ite_part, ite_pending, ite_memGen, ite_mem, ite_self, and_self]

@[simp] theorem targetAccess_kept (q : ReqId) (addr : Nat) (data : Option Line) (bad : Bool) (crc : Option Nat)
    (m : MoveFlit) (s : State) :
    (targetAccess q addr data bad crc m s).part = s.part ∧ (targetAccess q addr data bad crc m s).pending = s.pending ∧
    (targetAccess q addr data bad crc m s).memGen = s.memGen := by
  unfold targetAccess
  (repeat' (first | (simp only [answer_kept, answerStatus_kept, countLineEcc_kept, dramRequest_kept, holdAccess_kept, moveCollides_kept, moveFromNoc_kept, moveToWorker_kept, openTxn_kept, patternAccess_kept, plainLine_kept, windowDeliver_kept, ite_part, ite_pending, ite_memGen, ite_self, and_self]; done) | split | simp only [answerStatus_kept, openTxn_kept, ite_part, ite_pending, ite_memGen]))

@[simp] theorem serveWaiting_kept (q : ReqId) (s : State) :
    (serveWaiting q s).part = s.part ∧ (serveWaiting q s).pending = s.pending ∧ (serveWaiting q s).memGen = s.memGen := by
  unfold serveWaiting
  (repeat' (first | (simp only [State.setChannel_kept, State.setUnit_kept, answerStatus_kept, commitFlit_kept, holdAnswer_kept, performDram_kept, serveHeld_kept, serveNoc_kept, unitCauses_kept, ite_part, ite_pending, ite_memGen, iterate_part, iterate_pending, iterate_memGen, ite_self, and_self, implies_true]; done) | split | simp only []))

@[simp] theorem takeAnswer_kept (q : ReqId) (s : State) :
    (takeAnswer q s).2.2.part = s.part ∧ (takeAnswer q s).2.2.pending = s.pending ∧ (takeAnswer q s).2.2.memGen = s.memGen ∧
    (takeAnswer q s).2.2.mem = s.mem := by
  unfold takeAnswer
  (repeat' split) <;> simp only [closeTxn_kept, and_self]

@[simp] theorem pathCheck_kept (x : Fin 64 × FlitErr) (s : State) :
    (pathCheck x s).part = s.part ∧ (pathCheck x s).pending = s.pending ∧ (pathCheck x s).memGen = s.memGen ∧
    (pathCheck x s).mem = s.mem := by
  unfold pathCheck
  (repeat' split) <;> simp only [raise_kept, raiseOnce_kept, and_self]

@[simp] theorem accessTimedOut_kept (q : ReqId) (s : State) :
    (accessTimedOut q s).2.2.part = s.part ∧ (accessTimedOut q s).2.2.pending = s.pending ∧
    (accessTimedOut q s).2.2.memGen = s.memGen ∧ (accessTimedOut q s).2.2.mem = s.mem := by
  unfold accessTimedOut
  simp only [closeTxn_kept, raise_kept, and_self]

@[simp] theorem answerComesLate_kept (q : ReqId) (addr : Nat) (s : State) :
    (answerComesLate q addr s).part = s.part ∧ (answerComesLate q addr s).pending = s.pending ∧
    (answerComesLate q addr s).memGen = s.memGen ∧ (answerComesLate q addr s).mem = s.mem := by
  unfold answerComesLate
  simp only [ite_part, ite_pending, ite_memGen, ite_mem, ite_self, and_self]

@[simp] theorem accessAtTarget_kept (q : ReqId) (addr : Nat) (data : Option Line) (bad : Bool) (crc : Option Nat)
    (m : MoveFlit) (s : State) :
    (accessAtTarget q addr data bad crc m s).2.2.part = s.part ∧
    (accessAtTarget q addr data bad crc m s).2.2.pending = s.pending ∧
    (accessAtTarget q addr data bad crc m s).2.2.memGen = s.memGen := by
  unfold accessAtTarget
  simp only [serveWaiting_kept, takeAnswer_kept, targetAccess_kept, ite_part, ite_pending, ite_memGen, ite_self, and_self]

@[simp] theorem moveAccess_kept (q : ReqId) (addr : Nat) (crc : Bool) (sent : Option Line) (data : Option Line)
    (m : MoveFlit) (p : MovePath) (s : State) :
    (moveAccess q addr crc sent data m p s).2.2.part = s.part ∧
    (moveAccess q addr crc sent data m p s).2.2.pending = s.pending ∧
    (moveAccess q addr crc sent data m p s).2.2.memGen = s.memGen := by
  unfold moveAccess
  simp only [accessAtTarget_kept, accessTimedOut_kept, answerComesLate_kept, countCrc_kept, pathCheck_kept, ite_part,
      ite_pending, ite_memGen, foldl_part, foldl_pending, foldl_memGen, ite_self, ite_snd, and_self, implies_true]

theorem moveFlit_kept (q : ReqId) (src dst len : Nat) (crc : Bool) (met : List MoveFlit) (r : MoveRun) (i : Nat) :
    (moveFlit q src dst len crc met r i).state.part = r.state.part ∧
      (moveFlit q src dst len crc met r i).state.pending = r.state.pending ∧
      (moveFlit q src dst len crc met r i).state.memGen = r.state.memGen := by
  unfold moveFlit MoveRun.fail
  dsimp only
  cases (flitMet met i).readEnds <;> cases (flitMet met i).writeEnds <;> dsimp only <;> (repeat' split) <;>
    simp only [moveAccess_kept, and_self]

theorem runMove_kept (e : Fin 4) (d : Nat) (met : List MoveFlit) (s : State) :
    (runMove e d met s).state.part = s.part ∧ (runMove e d met s).state.pending = s.pending ∧
      (runMove e d met s).state.memGen = s.memGen := by
  unfold runMove
  have h : ∀ (l : List Nat) (r : MoveRun),
      (l.foldl (fun r i => moveFlit ⟨.move e, i % 2048⟩ (moveSrc d) (moveDst d) (moveLength d)
      (moveCrc d) met r i) r).state.part =
        r.state.part ∧
      (l.foldl (fun r i => moveFlit ⟨.move e, i % 2048⟩ (moveSrc d) (moveDst d) (moveLength d)
      (moveCrc d) met r i) r).state.pending =
        r.state.pending ∧
      (l.foldl (fun r i => moveFlit ⟨.move e, i % 2048⟩ (moveSrc d) (moveDst d) (moveLength d)
      (moveCrc d) met r i) r).state.memGen =
        r.state.memGen := by
    intro l
    induction l with
    | nil => exact fun r => ⟨rfl, rfl, rfl⟩
    | cons x l ih => intro r; rw [List.foldl_cons]; simp only [ih, moveFlit_kept, and_self]
  simp only [h, State.draw_kept, and_self]

@[simp] theorem execMoveDone_kept (engine : Fin 4) (met : List MoveFlit) (s : State) :
    (after (execMoveDone engine met s) s).part = s.part ∧ (after (execMoveDone engine met s) s).pending = s.pending ∧
    (after (execMoveDone engine met s) s).memGen = s.memGen := by
  unfold execMoveDone
  split
  · simp only [after_done, settle_kept, and_self]
  · dsimp only
    (repeat' split) <;> simp only [after_done, settle_kept, raise_kept, State.setMover_kept, runMove_kept, and_self]

end Sys2Proof.Machine
end

