-- ==== Sys2Proof/Laws/TimersKept.lean ====
section
/-! SUPPORT. What the functions of Machine/Timers.lean keep: the factory part, the queue, and memory where they do not write it. -/

namespace Sys2Proof.Machine

@[simp] theorem execBeatTimerFire_kept (i : Fin 8) (s : State) :
    (after (execBeatTimerFire i s) s).part = s.part ∧ (after (execBeatTimerFire i s) s).pending = s.pending ∧
    (after (execBeatTimerFire i s) s).memGen = s.memGen ∧ (after (execBeatTimerFire i s) s).mem = s.mem := by
  unfold execBeatTimerFire
  simp only [raiseOnce_kept, ite_part, ite_pending, ite_memGen, ite_mem, ite_self, and_self, after_ite, after_done,
      settle_kept, after_doneFab, deferRaises_kept]

@[simp] theorem timerOwnerWrite_kept (path : Nat) (data : List Byte) (s : State) :
    (timerOwnerWrite path data s).2.part = s.part ∧ (timerOwnerWrite path data s).2.pending = s.pending ∧
    (timerOwnerWrite path data s).2.memGen = s.memGen ∧ (timerOwnerWrite path data s).2.mem = s.mem := by
  unfold timerOwnerWrite
  simp only [raise_kept, ite_part, ite_pending, ite_memGen, ite_mem, ite_self, ite_snd, and_self]

@[simp] theorem execTimerOwnerWrite_kept (path : Path) (data : List Byte) (s : State) :
    (after (execTimerOwnerWrite path data s) s).part = s.part ∧
    (after (execTimerOwnerWrite path data s) s).pending = s.pending ∧
    (after (execTimerOwnerWrite path data s) s).memGen = s.memGen ∧
    (after (execTimerOwnerWrite path data s) s).mem = s.mem := by
  unfold execTimerOwnerWrite
  simp only [onPath_part, onPath_pending, onPath_memGen, onPath_mem, timerOwnerWrite_kept, and_self, after_done, settle_kept]

@[simp] theorem timerConfigWrite_kept (path : Nat) (i : Nat) (data : List Byte) (s : State) :
    (timerConfigWrite path i data s).2.part = s.part ∧ (timerConfigWrite path i data s).2.pending = s.pending ∧
    (timerConfigWrite path i data s).2.memGen = s.memGen ∧ (timerConfigWrite path i data s).2.mem = s.mem := by
  unfold timerConfigWrite
  simp only [acceptStaged_kept, raise_kept, ite_part, ite_pending, ite_memGen, ite_mem, ite_self, ite_snd, and_self]

@[simp] theorem stagedOnPath_part (p : Path) (idx : Nat) (sub : Nat) (s : State) (r : Nat × State)
    (h0 : r.2.part = s.part) : (stagedOnPath p idx sub s r).part = s.part := by
  unfold stagedOnPath
  simp only [reply_kept, h0, ite_part, ite_self]

@[simp] theorem stagedOnPath_pending (p : Path) (idx : Nat) (sub : Nat) (s : State) (r : Nat × State)
    (h0 : r.2.pending = s.pending) : (stagedOnPath p idx sub s r).pending = s.pending := by
  unfold stagedOnPath
  simp only [reply_kept, h0, ite_pending, ite_self]

@[simp] theorem stagedOnPath_memGen (p : Path) (idx : Nat) (sub : Nat) (s : State) (r : Nat × State)
    (h0 : r.2.memGen = s.memGen) : (stagedOnPath p idx sub s r).memGen = s.memGen := by
  unfold stagedOnPath
  simp only [reply_kept, h0, ite_memGen, ite_self]

@[simp] theorem stagedOnPath_mem (p : Path) (idx : Nat) (sub : Nat) (s : State) (r : Nat × State)
    (h0 : r.2.mem = s.mem) : (stagedOnPath p idx sub s r).mem = s.mem := by
  unfold stagedOnPath
  simp only [reply_kept, h0, ite_mem, ite_self]

@[simp] theorem execTimerConfigWrite_kept (path : Path) (i : Fin 8) (data : List Byte) (s : State) :
    (after (execTimerConfigWrite path i data s) s).part = s.part ∧
    (after (execTimerConfigWrite path i data s) s).pending = s.pending ∧
    (after (execTimerConfigWrite path i data s) s).memGen = s.memGen ∧
    (after (execTimerConfigWrite path i data s) s).mem = s.mem := by
  unfold execTimerConfigWrite
  simp only [stagedOnPath_part, stagedOnPath_pending, stagedOnPath_memGen, stagedOnPath_mem, timerConfigWrite_kept,
      and_self, after_done, settle_kept]

@[simp] theorem counterClearWrite_kept (word : Nat) (s : State) :
    (counterClearWrite word s).2.part = s.part ∧ (counterClearWrite word s).2.pending = s.pending ∧
    (counterClearWrite word s).2.memGen = s.memGen ∧ (counterClearWrite word s).2.mem = s.mem := by
  unfold counterClearWrite
  simp only [ite_part, ite_pending, ite_memGen, ite_mem, ite_self, ite_snd, and_self]

@[simp] theorem execCounterClear_kept (path : Path) (word : BitVec 32) (s : State) :
    (after (execCounterClear path word s) s).part = s.part ∧ (after (execCounterClear path word s) s).pending = s.pending ∧
    (after (execCounterClear path word s) s).memGen = s.memGen ∧ (after (execCounterClear path word s) s).mem = s.mem := by
  unfold execCounterClear
  simp only [counterClearWrite_kept, onPath_part, onPath_pending, onPath_memGen, onPath_mem, and_self, after_done,
      settle_kept]

@[simp] theorem logClearWrite_kept (value : Nat) (s : State) :
    (logClearWrite value s).2.part = s.part ∧ (logClearWrite value s).2.pending = s.pending ∧
    (logClearWrite value s).2.memGen = s.memGen ∧ (logClearWrite value s).2.mem = s.mem := by
  unfold logClearWrite
  simp only [ite_part, ite_pending, ite_memGen, ite_mem, ite_self, ite_snd, and_self]

@[simp] theorem execLogClear_kept (path : Path) (value : BitVec 8) (s : State) :
    (after (execLogClear path value s) s).part = s.part ∧ (after (execLogClear path value s) s).pending = s.pending ∧
    (after (execLogClear path value s) s).memGen = s.memGen ∧ (after (execLogClear path value s) s).mem = s.mem := by
  unfold execLogClear
  simp only [logClearWrite_kept, onPath_part, onPath_pending, onPath_memGen, onPath_mem, and_self, after_done, settle_kept]

end Sys2Proof.Machine
end

