-- ==== Sys2Proof/Laws/ValidateKept.lean ====
section
/-! SUPPORT. What the functions of Machine/Validate.lean keep: the factory part, the queue, and memory where they do not write it. -/

namespace Sys2Proof.Machine

@[simp] theorem takeSleepClaim_kept (g : Nat) (s : State) :
    (takeSleepClaim g s).part = s.part ∧ (takeSleepClaim g s).pending = s.pending ∧ (takeSleepClaim g s).memGen = s.memGen ∧
    (takeSleepClaim g s).mem = s.mem := by
  unfold takeSleepClaim
  simp only [State.setGroup_kept, and_self]

@[simp] theorem stageWrite_kept (path : Nat) (idx : Nat) (sub : Nat) (len : Nat) (v : Nat) (s : State) :
    (stageWrite path idx sub len v s).2.part = s.part ∧ (stageWrite path idx sub len v s).2.pending = s.pending ∧
    (stageWrite path idx sub len v s).2.memGen = s.memGen ∧ (stageWrite path idx sub len v s).2.mem = s.mem := by
  unfold stageWrite
  simp only [acceptStaged_kept, laneClaimRefuse_kept, raise_kept, takeSleepClaim_kept, ite_part, ite_pending, ite_memGen,
      ite_mem, ite_self, ite_snd, and_self]

end Sys2Proof.Machine
end

