-- ==== Sys2Proof/Laws/ReadObjectsKept.lean ====
section
/-! SUPPORT. What the functions of Machine/ReadObjects.lean keep: the factory part, the queue, and memory where they do not write it. -/

namespace Sys2Proof.Machine

@[simp] theorem readOp_kept (idx : Nat) (sub : Nat) (s : State) :
    (readOp idx sub s).2.2.part = s.part ∧ (readOp idx sub s).2.2.pending = s.pending ∧
    (readOp idx sub s).2.2.memGen = s.memGen ∧ (readOp idx sub s).2.2.mem = s.mem := by
  unfold readOp
  simp only [State.draw_kept, consoleTake_kept, ite_part, ite_pending, ite_memGen, ite_mem, ite_self, ite_snd, and_self]

end Sys2Proof.Machine
end

