-- ==== Sys2Proof/Laws/WritesKept.lean ====
section
/-! SUPPORT. What the functions of Machine/Writes.lean keep: the factory part, the queue, and memory where they do not write it. -/

namespace Sys2Proof.Machine

@[simp] theorem clearUnitCauses_kept (u : Nat) (n : Nat) (v : Nat) (s : State) :
    (clearUnitCauses u n v s).part = s.part ∧ (clearUnitCauses u n v s).pending = s.pending ∧
    (clearUnitCauses u n v s).memGen = s.memGen ∧ (clearUnitCauses u n v s).mem = s.mem := by
  unfold clearUnitCauses
  simp only [State.setUnit_kept, foldl_part, foldl_pending, foldl_memGen, foldl_mem, and_self, implies_true]

@[simp] theorem clearSecurityCauses_kept (v : Nat) (s : State) :
    (clearSecurityCauses v s).part = s.part ∧ (clearSecurityCauses v s).pending = s.pending ∧
    (clearSecurityCauses v s).memGen = s.memGen ∧ (clearSecurityCauses v s).mem = s.mem := by
  unfold clearSecurityCauses
  exact ⟨by with_reducible rfl, by with_reducible rfl, by with_reducible rfl, by with_reducible rfl⟩

@[simp] theorem clearWrite_kept (idx : Nat) (sub : Nat) (v : Nat) (s : State) :
    (clearWrite idx sub v s).part = s.part ∧ (clearWrite idx sub v s).pending = s.pending ∧
    (clearWrite idx sub v s).memGen = s.memGen ∧ (clearWrite idx sub v s).mem = s.mem := by
  unfold clearWrite
  simp only [State.setBank_kept, State.setChannel_kept, State.setGroup_kept, clearBroken_kept, clearSecurityCauses_kept,
      clearUnitCauses_kept, ite_part, ite_pending, ite_memGen, ite_mem, ite_self, and_self]

@[simp] theorem descriptorsWrite_kept (v : Nat) (s : State) :
    (descriptorsWrite v s).part = s.part ∧ (descriptorsWrite v s).pending = s.pending ∧
    (descriptorsWrite v s).memGen = s.memGen ∧ (descriptorsWrite v s).mem = s.mem := by
  unfold descriptorsWrite
  exact ⟨by with_reducible rfl, by with_reducible rfl, by with_reducible rfl, by with_reducible rfl⟩

@[simp] theorem mailboxWrite_kept (st : Nat) (v : Nat) (s : State) :
    (mailboxWrite st v s).part = s.part ∧ (mailboxWrite st v s).pending = s.pending ∧
    (mailboxWrite st v s).memGen = s.memGen ∧ (mailboxWrite st v s).mem = s.mem := by
  unfold mailboxWrite
  exact ⟨by with_reducible rfl, by with_reducible rfl, by with_reducible rfl, by with_reducible rfl⟩

@[simp] theorem latencyWrite_kept (v : Nat) (s : State) :
    (latencyWrite v s).part = s.part ∧ (latencyWrite v s).pending = s.pending ∧ (latencyWrite v s).memGen = s.memGen ∧
    (latencyWrite v s).mem = s.mem := by
  unfold latencyWrite
  simp only [State.setGroup_kept, State.setObj_kept, ite_part, ite_pending, ite_memGen, ite_mem, foldl_part, foldl_pending,
      foldl_memGen, foldl_mem, ite_self, and_self, implies_true]

@[simp] theorem storeObject_kept (idx : Nat) (sub : Nat) (v : Nat) (s : State) :
    (storeObject idx sub v s).2.part = s.part ∧ (storeObject idx sub v s).2.pending = s.pending ∧
    (storeObject idx sub v s).2.memGen = s.memGen ∧ (storeObject idx sub v s).2.mem = s.mem := by
  unfold storeObject
  simp only [State.setObj_kept, ite_part, ite_pending, ite_memGen, ite_mem, ite_self, ite_snd, and_self]

@[simp] theorem keeperCommandWrite_kept (k : Nat) (v : Nat) (s : State) :
    (keeperCommandWrite k v s).2.part = s.part ∧ (keeperCommandWrite k v s).2.pending = s.pending ∧
    (keeperCommandWrite k v s).2.memGen = s.memGen ∧ (keeperCommandWrite k v s).2.mem = s.mem := by
  unfold keeperCommandWrite
  simp only [keeperRunWrite_kept, keeperStopWrite_kept, ite_part, ite_pending, ite_memGen, ite_mem, ite_self, ite_snd,
      and_self]

@[simp] theorem writeCommunication_kept (path : Nat) (idx : Nat) (sub : Nat) (v : Nat) (s : State) :
    (writeCommunication path idx sub v s).2.part = s.part ∧ (writeCommunication path idx sub v s).2.pending = s.pending ∧
    (writeCommunication path idx sub v s).2.memGen = s.memGen ∧ (writeCommunication path idx sub v s).2.mem = s.mem := by
  unfold writeCommunication
  simp only [consumerWrite_kept, errorFieldWrite_kept, heartbeatWrite_kept, localNmt_kept, storeObject_kept, ite_part,
      ite_pending, ite_memGen, ite_mem, ite_self, ite_snd, and_self]

@[simp] theorem writeResets_kept (path : Nat) (sub : Nat) (v : Nat) (data : List Byte) (s : State) :
    (writeResets path sub v data s).2.part = s.part ∧ (writeResets path sub v data s).2.pending = s.pending ∧
    (writeResets path sub v data s).2.memGen = s.memGen := by
  unfold writeResets
  simp only [State.draw_kept, dramChannelResetWrite_kept, engineResetWrite_kept, keeperResetWrite_kept,
      laneGroupResetWrite_kept, optionWrite_kept, patternBankResetWrite_kept, queueGroupResetWrite_kept,
      resetRequestWrite_kept, stationResetWrite_kept, ite_part, ite_pending, ite_memGen, ite_self, ite_snd, and_self]

@[simp] theorem writeClocksPins_kept (path : Nat) (idx : Nat) (sub : Nat) (v : Nat) (data : List Byte) (s : State) :
    (writeClocksPins path idx sub v data s).2.part = s.part ∧
    (writeClocksPins path idx sub v data s).2.pending = s.pending ∧
    (writeClocksPins path idx sub v data s).2.memGen = s.memGen ∧ (writeClocksPins path idx sub v data s).2.mem = s.mem := by
  unfold writeClocksPins
  simp only [consoleWrite_kept, counterClearWrite_kept, descriptorsWrite_kept, gpioWrite_kept, logClearWrite_kept,
      multiplierWrite_kept, referenceWrite_kept, storeObject_kept, timerOwnerWrite_kept, ite_part, ite_pending, ite_memGen,
      ite_mem, ite_self, ite_snd, and_self]

@[simp] theorem tamperConfigWrite_kept (v : Nat) (s : State) :
    (tamperConfigWrite v s).2.part = s.part ∧ (tamperConfigWrite v s).2.pending = s.pending ∧
    (tamperConfigWrite v s).2.memGen = s.memGen ∧ (tamperConfigWrite v s).2.mem = s.mem := by
  unfold tamperConfigWrite
  simp only [ite_part, ite_pending, ite_memGen, ite_mem, ite_self, ite_snd, and_self]

@[simp] theorem writeSecurity_kept (sub : Nat) (v : Nat) (data : List Byte) (s : State) :
    (writeSecurity sub v data s).2.part = s.part ∧ (writeSecurity sub v data s).2.pending = s.pending ∧
    (writeSecurity sub v data s).2.memGen = s.memGen := by
  unfold writeSecurity
  simp only [attestWrite_kept, lcWrite_kept, linkKeyWrite_kept, rekeyWrite_kept, tamperConfigWrite_kept, ite_part,
      ite_pending, ite_memGen, ite_self, ite_snd, and_self]

@[simp] theorem writeConfig_kept (sub : Nat) (v : Nat) (s : State) :
    (writeConfig sub v s).2.part = s.part ∧ (writeConfig sub v s).2.pending = s.pending ∧
    (writeConfig sub v s).2.memGen = s.memGen ∧ (writeConfig sub v s).2.mem = s.mem := by
  unfold writeConfig
  simp only [invalidateWrite_kept, scrubRequestWrite_kept, storeObject_kept, ite_part, ite_pending, ite_memGen, ite_mem,
      ite_self, ite_snd, and_self]

@[simp] theorem writeHold_kept (sub : Nat) (v : Nat) (data : List Byte) (s : State) :
    (writeHold sub v data s).2.part = s.part ∧ (writeHold sub v data s).2.pending = s.pending ∧
    (writeHold sub v data s).2.memGen = s.memGen ∧ (writeHold sub v data s).2.mem = s.mem := by
  unfold writeHold
  simp only [fillWrite_kept, marchWrite_kept, queueResetWrite_kept, ringOwnerWrite_kept, ite_part, ite_pending, ite_memGen,
      ite_mem, ite_self, ite_snd, and_self]

@[simp] theorem linkTableWrite_kept (v : Nat) (s : State) :
    (linkTableWrite v s).2.part = s.part ∧ (linkTableWrite v s).2.pending = s.pending ∧
    (linkTableWrite v s).2.memGen = s.memGen ∧ (linkTableWrite v s).2.mem = s.mem := by
  unfold linkTableWrite
  simp only [deviceFenceOn_kept, storeObject_kept, ite_part, ite_pending, ite_memGen, ite_mem, foldl_part, foldl_pending,
      foldl_memGen, foldl_mem, ite_self, ite_snd, and_self, implies_true]

@[simp] theorem writeLanes_kept (idx : Nat) (sub : Nat) (v : Nat) (data : List Byte) (s : State) :
    (writeLanes idx sub v data s).2.part = s.part ∧ (writeLanes idx sub v data s).2.pending = s.pending ∧
    (writeLanes idx sub v data s).2.memGen = s.memGen ∧ (writeLanes idx sub v data s).2.mem = s.mem := by
  unfold writeLanes
  simp only [State.draw_kept, chainLoadWrite_kept, eyeScanWrite_kept, latencyWrite_kept, linkTableWrite_kept,
      storeObject_kept, trainingWrite_kept, ite_part, ite_pending, ite_memGen, ite_mem, ite_self, ite_snd, and_self]

@[simp] theorem badRequest_kept (w : Nat × State) (s : State) :
    (badRequest w s).2.part = s.part ∧ (badRequest w s).2.pending = s.pending ∧ (badRequest w s).2.memGen = s.memGen ∧
    (badRequest w s).2.mem = s.mem := by
  unfold badRequest
  exact ⟨by with_reducible rfl, by with_reducible rfl, by with_reducible rfl, by with_reducible rfl⟩

@[simp] theorem writeArchive_kept (idx : Nat) (sub : Nat) (v : Nat) (data : List Byte) (s : State) :
    (writeArchive idx sub v data s).2.part = s.part ∧ (writeArchive idx sub v data s).2.pending = s.pending ∧
    (writeArchive idx sub v data s).2.memGen = s.memGen ∧ (writeArchive idx sub v data s).2.mem = s.mem := by
  unfold writeArchive
  simp only [State.setObj_kept, archiveReleaseWrite_kept, badRequest_kept, dataRateWrite_kept, fenceWrite_kept,
      fullTrainWrite_kept, initialiseWrite_kept, moveAccept_kept, periodicWrite_kept, rfmWrite_kept, storeObject_kept,
      sweepWrite_kept, updateFrozen_kept, ite_part, ite_pending, ite_memGen, ite_mem, ite_self, ite_snd, and_self]

@[simp] theorem writeWorker_kept (w : Nat) (sub : Nat) (v : Nat) (s : State) :
    (writeWorker w sub v s).2.part = s.part ∧ (writeWorker w sub v s).2.pending = s.pending ∧
    (writeWorker w sub v s).2.memGen = s.memGen ∧ (writeWorker w sub v s).2.mem = s.mem := by
  unfold writeWorker
  simp only [State.setWorker_kept, remoteResetWrite_kept, ite_part, ite_pending, ite_memGen, ite_mem, ite_self, ite_snd,
      and_self]

@[simp] theorem writeNow_kept (path : Nat) (idx : Nat) (sub : Nat) (v : Nat) (data : List Byte) (s : State) :
    (writeNow path idx sub v data s).2.part = s.part ∧ (writeNow path idx sub v data s).2.pending = s.pending ∧
    (writeNow path idx sub v data s).2.memGen = s.memGen := by
  unfold writeNow
  simp only [keeperCommandWrite_kept, mailboxWrite_kept, storeObject_kept, writeArchive_kept, writeClocksPins_kept,
      writeCommunication_kept, writeConfig_kept, writeHold_kept, writeLanes_kept, writeResets_kept, writeSecurity_kept,
      writeWorker_kept, ite_part, ite_pending, ite_memGen, ite_self, ite_snd, and_self]

@[simp] theorem writeRow_kept (r : ObjRow) (path : Nat) (idx : Nat) (sub : Nat) (data : List Byte) (s : State) :
    (writeRow r path idx sub data s).2.part = s.part ∧ (writeRow r path idx sub data s).2.pending = s.pending ∧
    (writeRow r path idx sub data s).2.memGen = s.memGen := by
  unfold writeRow
  (repeat' split) <;> simp only [clearWrite_kept, stageWrite_kept, timerConfigWrite_kept, writeNow_kept, and_self]

@[simp] theorem checkLength_part (r : ObjRow) (data : List Byte) (s : State) (w : Nat × State)
    (h0 : w.2.part = s.part) : (checkLength r data s w).2.part = s.part := by
  unfold checkLength
  simp only [h0, ite_part, ite_self, ite_snd]

@[simp] theorem checkLength_pending (r : ObjRow) (data : List Byte) (s : State) (w : Nat × State)
    (h0 : w.2.pending = s.pending) : (checkLength r data s w).2.pending = s.pending := by
  unfold checkLength
  simp only [h0, ite_pending, ite_self, ite_snd]

@[simp] theorem checkLength_memGen (r : ObjRow) (data : List Byte) (s : State) (w : Nat × State)
    (h0 : w.2.memGen = s.memGen) : (checkLength r data s w).2.memGen = s.memGen := by
  unfold checkLength
  simp only [h0, ite_memGen, ite_self, ite_snd]

@[simp] theorem checkLength_mem (r : ObjRow) (data : List Byte) (s : State) (w : Nat × State)
    (h0 : w.2.mem = s.mem) : (checkLength r data s w).2.mem = s.mem := by
  unfold checkLength
  simp only [h0, ite_mem, ite_self, ite_snd]

@[simp] theorem submitWrite_kept (path : Nat) (idx : Nat) (sub : Nat) (data : List Byte) (s : State) :
    (submitWrite path idx sub data s).2.part = s.part ∧ (submitWrite path idx sub data s).2.pending = s.pending ∧
    (submitWrite path idx sub data s).2.memGen = s.memGen := by
  unfold submitWrite
  (repeat' split) <;> simp only [checkLength_part, checkLength_pending, checkLength_memGen, writeRow_kept, ite_part, ite_pending, ite_memGen, ite_self, ite_snd, and_self]

@[simp] theorem writeOnPath_kept (p : Path) (idx : Nat) (sub : Nat) (data : List Byte) (s : State) :
    (writeOnPath p idx sub data s).part = s.part ∧ (writeOnPath p idx sub data s).pending = s.pending ∧
    (writeOnPath p idx sub data s).memGen = s.memGen := by
  unfold writeOnPath
  split
  · exact ⟨rfl, rfl, rfl⟩
  · split
    · have h := relayStart_kept p (idx - 0x5000) (some data) s
      revert h
      cases relayStart p (idx - 0x5000) (some data) s with
      | mk a t => cases a <;> (intro h; dsimp only at h ⊢; simp only [answered_kept, h, and_self])
    · simp only [reply_kept, submitWrite_kept, freshTx_kept, ite_part, ite_pending, ite_memGen, ite_self, and_self]

end Sys2Proof.Machine
end

