-- ==== Sys2Proof/Laws/DictionaryKept.lean ====
section
/-! SUPPORT. What the functions of Machine/Dictionary.lean keep: the factory part, the queue, and memory where they do not write it. -/

namespace Sys2Proof.Machine

@[simp] theorem execStagedWrite_kept (path : Path) (index : BitVec 16) (sub : BitVec 8) (data : List Byte) (s : State) :
    (after (execStagedWrite path index sub data s) s).part = s.part ∧
    (after (execStagedWrite path index sub data s) s).pending = s.pending ∧
    (after (execStagedWrite path index sub data s) s).memGen = s.memGen := by
  unfold execStagedWrite
  simp only [writeOnPath_kept, and_self, after_done, settle_kept]

@[simp] theorem execObjectWrite_kept (path : Path) (index : BitVec 16) (sub : BitVec 8) (data : List Byte) (s : State) :
    (after (execObjectWrite path index sub data s) s).part = s.part ∧
    (after (execObjectWrite path index sub data s) s).pending = s.pending ∧
    (after (execObjectWrite path index sub data s) s).memGen = s.memGen := by
  unfold execObjectWrite
  simp only [writeOnPath_kept, and_self, after_done, settle_kept]

@[simp] theorem execKeeperMailboxWrite_kept (path : Path) (st : Fin 256) (value : BitVec 16) (s : State) :
    (after (execKeeperMailboxWrite path st value s) s).part = s.part ∧
    (after (execKeeperMailboxWrite path st value s) s).pending = s.pending ∧
    (after (execKeeperMailboxWrite path st value s) s).memGen = s.memGen ∧
    (after (execKeeperMailboxWrite path st value s) s).mem = s.mem := by
  unfold execKeeperMailboxWrite
  simp only [mailboxWrite_kept, onPath_part, onPath_pending, onPath_memGen, onPath_mem, and_self, after_done, settle_kept]

@[simp] theorem probeWrite_kept (word : Nat) (s : State) :
    (probeWrite word s).2.part = s.part ∧ (probeWrite word s).2.pending = s.pending ∧
    (probeWrite word s).2.memGen = s.memGen ∧ (probeWrite word s).2.mem = s.mem := by
  unfold probeWrite
  simp only [acceptStaged_kept, raise_kept, ite_part, ite_pending, ite_memGen, ite_mem, ite_self, ite_snd, and_self]

@[simp] theorem execProbeSel_kept (word : BitVec 40) (s : State) :
    (after (execProbeSel word s) s).part = s.part ∧ (after (execProbeSel word s) s).pending = s.pending ∧
    (after (execProbeSel word s) s).memGen = s.memGen ∧ (after (execProbeSel word s) s).mem = s.mem := by
  unfold execProbeSel
  simp only [probeWrite_kept, reply_kept, selectTap_kept, ite_part, ite_pending, ite_memGen, ite_mem, ite_self, and_self,
      after_ite, after_done, settle_kept]

@[simp] theorem onDict_part (f : State → State) (s : State) (h_f : ∀ (y0 : State),
    (f y0).part = y0.part) : (onDict f s).part = s.part := by
  unfold onDict
  simp only [selectTap_kept, h_f, ite_part, ite_self]

@[simp] theorem onDict_pending (f : State → State) (s : State) (h_f : ∀ (y0 : State),
    (f y0).pending = y0.pending) : (onDict f s).pending = s.pending := by
  unfold onDict
  simp only [selectTap_kept, h_f, ite_pending, ite_self]

@[simp] theorem onDict_memGen (f : State → State) (s : State) (h_f : ∀ (y0 : State),
    (f y0).memGen = y0.memGen) : (onDict f s).memGen = s.memGen := by
  unfold onDict
  simp only [selectTap_kept, h_f, ite_memGen, ite_self]

@[simp] theorem onDict_mem (f : State → State) (s : State) (h_f : ∀ (y0 : State),
    (f y0).mem = y0.mem) : (onDict f s).mem = s.mem := by
  unfold onDict
  simp only [selectTap_kept, h_f, ite_mem, ite_self]

@[simp] theorem dictUpdate_part (w : BitVec 128) (f : DictWord → State → State) (s : State) (h_f : ∀ (y0 : DictWord)
    (y1 : State), (f y0 y1).part = y1.part) : (dictUpdate w f s).part = s.part := by
  unfold dictUpdate
  simp only [onDict_part, surveyRequest_part, h_f, ite_part, ite_self, implies_true]

@[simp] theorem dictUpdate_pending (w : BitVec 128) (f : DictWord → State → State) (s : State) (h_f : ∀ (y0 : DictWord)
    (y1 : State), (f y0 y1).pending = y1.pending) : (dictUpdate w f s).pending = s.pending := by
  unfold dictUpdate
  simp only [onDict_pending, surveyRequest_pending, h_f, ite_pending, ite_self, implies_true]

@[simp] theorem dictUpdate_memGen (w : BitVec 128) (f : DictWord → State → State) (s : State) (h_f : ∀ (y0 : DictWord)
    (y1 : State), (f y0 y1).memGen = y1.memGen) : (dictUpdate w f s).memGen = s.memGen := by
  unfold dictUpdate
  simp only [onDict_memGen, surveyRequest_memGen, h_f, ite_memGen, ite_self, implies_true]

@[simp] theorem dictUpdate_mem (w : BitVec 128) (f : DictWord → State → State) (s : State) (h_f : ∀ (y0 : DictWord)
    (y1 : State), (f y0 y1).mem = y1.mem) : (dictUpdate w f s).mem = s.mem := by
  unfold dictUpdate
  simp only [onDict_mem, surveyRequest_mem, h_f, ite_mem, ite_self, implies_true]

@[simp] theorem execDictRead_kept (word : BitVec 128) (s : State) :
    (after (execDictRead word s) s).part = s.part ∧ (after (execDictRead word s) s).pending = s.pending ∧
    (after (execDictRead word s) s).memGen = s.memGen ∧ (after (execDictRead word s) s).mem = s.mem := by
  unfold execDictRead
  simp only [dictUpdate_part, dictUpdate_pending, dictUpdate_memGen, dictUpdate_mem, readRequest_kept, and_self,
      implies_true, after_done, settle_kept]

@[simp] theorem execDictWriteSegment_kept (word : BitVec 128) (s : State) :
    (after (execDictWriteSegment word s) s).part = s.part ∧ (after (execDictWriteSegment word s) s).pending = s.pending ∧
    (after (execDictWriteSegment word s) s).memGen = s.memGen ∧ (after (execDictWriteSegment word s) s).mem = s.mem := by
  unfold execDictWriteSegment
  simp only [dictUpdate_part, dictUpdate_pending, dictUpdate_memGen, dictUpdate_mem, segmentRequest_kept, and_self,
      implies_true, after_done, settle_kept]

@[simp] theorem execDictWriteFinal_kept (word : BitVec 128) (s : State) :
    (after (execDictWriteFinal word s) s).part = s.part ∧ (after (execDictWriteFinal word s) s).pending = s.pending ∧
    (after (execDictWriteFinal word s) s).memGen = s.memGen ∧ (after (execDictWriteFinal word s) s).mem = s.mem := by
  unfold execDictWriteFinal
  simp only [dictUpdate_part, dictUpdate_pending, dictUpdate_memGen, dictUpdate_mem, finalRequest_kept, and_self,
      implies_true, after_done, settle_kept]

@[simp] theorem windowArrives_kept (req : ReqId) (k : Nat) (op : Nat) (idx : Nat) (sub : Nat) (off : Nat) (len : Nat)
    (data : List Byte) (s : State) :
    (windowArrives req k op idx sub off len data s).part = s.part ∧
    (windowArrives req k op idx sub off len data s).pending = s.pending ∧
    (windowArrives req k op idx sub off len data s).memGen = s.memGen := by
  unfold windowArrives
  simp only [enterTarget_kept, openTxn_kept, windowWrite_kept, ite_part, ite_pending, ite_memGen, ite_self, and_self]

@[simp] theorem execWindowRead_kept (req : ReqId) (slot : Fin 4) (index : BitVec 16) (sub : BitVec 8) (offset : BitVec 32)
    (len : BitVec 8) (s : State) :
    (after (execWindowRead req slot index sub offset len s) s).part = s.part ∧
    (after (execWindowRead req slot index sub offset len s) s).pending = s.pending ∧
    (after (execWindowRead req slot index sub offset len s) s).memGen = s.memGen := by
  unfold execWindowRead
  simp only [windowArrives_kept, and_self, after_done, settle_kept]

@[simp] theorem execWindowWriteSegment_kept (req : ReqId) (slot : Fin 4) (index : BitVec 16) (sub : BitVec 8)
    (offset : BitVec 32) (len : BitVec 8) (data : List Byte) (s : State) :
    (after (execWindowWriteSegment req slot index sub offset len data s) s).part = s.part ∧
    (after (execWindowWriteSegment req slot index sub offset len data s) s).pending = s.pending ∧
    (after (execWindowWriteSegment req slot index sub offset len data s) s).memGen = s.memGen := by
  unfold execWindowWriteSegment
  simp only [windowArrives_kept, and_self, after_done, settle_kept]

@[simp] theorem execWindowWriteFinal_kept (req : ReqId) (slot : Fin 4) (index : BitVec 16) (sub : BitVec 8)
    (offset : BitVec 32) (len : BitVec 8) (data : List Byte) (s : State) :
    (after (execWindowWriteFinal req slot index sub offset len data s) s).part = s.part ∧
    (after (execWindowWriteFinal req slot index sub offset len data s) s).pending = s.pending ∧
    (after (execWindowWriteFinal req slot index sub offset len data s) s).memGen = s.memGen := by
  unfold execWindowWriteFinal
  simp only [windowArrives_kept, and_self, after_done, settle_kept]

@[simp] theorem abortRelaySession_kept (s : State) :
    (abortRelaySession s).part = s.part ∧ (abortRelaySession s).pending = s.pending ∧
    (abortRelaySession s).memGen = s.memGen ∧ (abortRelaySession s).mem = s.mem := by
  unfold abortRelaySession
  simp only [dropJobs_kept, raise_kept, ite_part, ite_pending, ite_memGen, ite_mem, ite_self, and_self]

@[simp] theorem execRelayRequestReceived_kept (txn : Fin 16) (index : BitVec 16) (sub : BitVec 8)
    (write : Option (List Byte)) (s : State) :
    (after (execRelayRequestReceived txn index sub write s) s).part = s.part ∧
    (after (execRelayRequestReceived txn index sub write s) s).pending = s.pending ∧
    (after (execRelayRequestReceived txn index sub write s) s).memGen = s.memGen ∧
    (after (execRelayRequestReceived txn index sub write s) s).mem = s.mem := by
  unfold execRelayRequestReceived
  simp only [State.setSession_kept, abortRelaySession_kept, enqueue_kept, ite_part, ite_pending, ite_memGen, ite_mem,
      ite_self, and_self, after_ite, after_done, settle_kept]

@[simp] theorem waitRelay_kept (j : Job) (s : State) :
    (waitRelay j s).part = s.part ∧ (waitRelay j s).pending = s.pending ∧ (waitRelay j s).memGen = s.memGen ∧
    (waitRelay j s).mem = s.mem := by
  unfold waitRelay
  exact ⟨by with_reducible rfl, by with_reducible rfl, by with_reducible rfl, by with_reducible rfl⟩

@[simp] theorem relayJob_kept (j : Job) (write : Option (List Byte)) (s : State) :
    (relayJob j write s).part = s.part ∧ (relayJob j write s).pending = s.pending ∧ (relayJob j write s).memGen = s.memGen ∧
    (relayJob j write s).mem = s.mem := by
  unfold relayJob
  have h := relayStart_kept (clientOrigin j.client) (j.index - 0x5000) write s
  revert h
  cases relayStart (clientOrigin j.client) (j.index - 0x5000) write s with
  | mk a t => cases a <;> (intro h; dsimp only) <;> (repeat' split) <;> simpa only [finishCode_kept, waitRelay_kept] using h

@[simp] theorem finishWrite_kept (j : Job) (data : List Byte) (s : State) :
    (finishWrite j data s).part = s.part ∧ (finishWrite j data s).pending = s.pending ∧
    (finishWrite j data s).memGen = s.memGen := by
  unfold finishWrite
  simp only [finishCode_kept, submitWrite_kept, ite_part, ite_pending, ite_memGen, ite_self, and_self]

@[simp] theorem finishAnyRead_kept (j : Job) (s : State) :
    (finishAnyRead j s).part = s.part ∧ (finishAnyRead j s).pending = s.pending ∧ (finishAnyRead j s).memGen = s.memGen ∧
    (finishAnyRead j s).mem = s.mem := by
  unfold finishAnyRead
  simp only [finishCode_kept, finishCopy_kept, readOp_kept, ite_part, ite_pending, ite_memGen, ite_mem, ite_self, and_self]

@[simp] theorem finishJob_kept (j : Job) (s : State) :
    (finishJob j s).part = s.part ∧ (finishJob j s).pending = s.pending ∧ (finishJob j s).memGen = s.memGen := by
  unfold finishJob
  (repeat' split) <;> simp only [finishAnyRead_kept, finishWrite_kept, relayJob_kept, and_self]

@[simp] theorem execDictOperationDone_kept (s : State) :
    (after (execDictOperationDone s) s).part = s.part ∧ (after (execDictOperationDone s) s).pending = s.pending := by
  unfold execDictOperationDone
  (repeat' split) <;> simp only [finishJob_kept, freshTx_kept, grantNext_kept, takeFrames_kept, and_self, after_done, settle_kept]

@[simp] theorem execRelayResponse_kept (w : Fin 32) (code : BitVec 32) (data : List Byte) (s : State) :
    (after (execRelayResponse w code data s) s).part = s.part ∧
    (after (execRelayResponse w code data s) s).pending = s.pending := by
  unfold execRelayResponse
  simp only [freshTx_kept, relayResponse_kept, takeFrames_kept, ite_part, ite_pending, ite_self, and_self, after_ite,
      after_done, settle_kept]

@[simp] theorem execRelayTimeout_kept (w : Fin 32) (s : State) :
    (after (execRelayTimeout w s) s).part = s.part ∧ (after (execRelayTimeout w s) s).pending = s.pending := by
  unfold execRelayTimeout
  simp only [freshTx_kept, relayAbortWith_kept, takeFrames_kept, ite_part, ite_pending, ite_self, and_self, after_ite,
      after_done, settle_kept]

end Sys2Proof.Machine
end

