-- ==== Sys2Proof/Laws/Tbl.lean ====
section
/-! SUPPORT. Laws of sparse tables: reading after writing, and the canonical form that every write keeps. -/

namespace Sys2Proof.Machine

variable {α : Type}

theorem Tbl.get_put_same (d : Nat → α) (k : Nat) (v : α) (t : Tbl α) : Tbl.get d (Tbl.put k v t) k = v := by
  induction t with
  | nil => simp [Tbl.put, Tbl.get]
  | cons e t ih =>
    obtain ⟨j, w⟩ := e
    simp only [Tbl.put]
    split
    · rename_i h
      simp only [Tbl.get, ih]
      rw [if_neg (by omega)]
    · split <;> simp [Tbl.get]

theorem Tbl.get_put_other (d : Nat → α) (k j : Nat) (v : α) (t : Tbl α) (h : j ≠ k) :
    Tbl.get d (Tbl.put k v t) j = Tbl.get d t j := by
  induction t with
  | nil => simp [Tbl.put, Tbl.get, h]
  | cons e t ih =>
    obtain ⟨i, w⟩ := e
    simp only [Tbl.put]
    split
    · simp only [Tbl.get, ih]
    · split
      · rename_i h2
        subst h2
        simp [Tbl.get, h]
      · simp [Tbl.get, h]

theorem Tbl.get_drop_same (d : Nat → α) (k : Nat) (t : Tbl α) : Tbl.get d (Tbl.drop k t) k = d k := by
  induction t with
  | nil => rfl
  | cons e t ih =>
    obtain ⟨j, w⟩ := e
    by_cases h : j = k
    · simpa [Tbl.drop, List.filter, h] using ih
    · have : ¬k = j := fun x => h x.symm
      simpa [Tbl.drop, List.filter, h, Tbl.get, this] using ih

theorem Tbl.get_drop_other (d : Nat → α) (k j : Nat) (t : Tbl α) (h : j ≠ k) :
    Tbl.get d (Tbl.drop k t) j = Tbl.get d t j := by
  induction t with
  | nil => rfl
  | cons e t ih =>
    obtain ⟨i, w⟩ := e
    by_cases h2 : i = k
    · have : ¬j = i := fun x => h (x.trans h2)
      simpa [Tbl.drop, List.filter, h2, Tbl.get, h] using ih
    · by_cases h3 : j = i
      · simp [Tbl.drop, List.filter, h2, Tbl.get, h3]
      · simpa [Tbl.drop, List.filter, h2, Tbl.get, h3] using ih

/-- A written key reads as the value written. -/
@[simp] theorem Tbl.get_set_same [DecidableEq α] (d : Nat → α) (t : Tbl α) (k : Nat) (v : α) :
    Tbl.get d (Tbl.set d t k v) k = v := by
  unfold Tbl.set
  split
  · rename_i h
    rw [Tbl.get_drop_same, h]
  · exact Tbl.get_put_same d k v t

/-- Every other key reads as before. -/
theorem Tbl.get_set_other [DecidableEq α] (d : Nat → α) (t : Tbl α) (k j : Nat) (v : α) (h : j ≠ k) :
    Tbl.get d (Tbl.set d t k v) j = Tbl.get d t j := by
  unfold Tbl.set
  split
  · exact Tbl.get_drop_other d k j t h
  · exact Tbl.get_put_other d k j v t h

/-- Both at once. -/
theorem Tbl.get_set [DecidableEq α] (d : Nat → α) (t : Tbl α) (k j : Nat) (v : α) :
    Tbl.get d (Tbl.set d t k v) j = if j = k then v else Tbl.get d t j := by
  split
  · rename_i h
    rw [h, Tbl.get_set_same]
  · rename_i h
    exact Tbl.get_set_other d t k j v h

theorem Tbl.at_upd [DecidableEq α] (d : α) (t : Tbl α) (k j : Nat) (v : α) :
    Tbl.at d (Tbl.upd d t k v) j = if j = k then v else Tbl.at d t j := Tbl.get_set _ t k j v

@[simp] theorem Tbl.at_upd_same [DecidableEq α] (d : α) (t : Tbl α) (k : Nat) (v : α) :
    Tbl.at d (Tbl.upd d t k v) k = v := Tbl.get_set_same _ t k v

theorem Tbl.at_upd_other [DecidableEq α] (d : α) (t : Tbl α) (k j : Nat) (v : α) (h : j ≠ k) :
    Tbl.at d (Tbl.upd d t k v) j = Tbl.at d t j := Tbl.get_set_other _ t k j v h

/-! The canonical form. -/

theorem Tbl.wfFrom_mono [DecidableEq α] (d : Nat → α) (a b : Nat) (t : Tbl α) (h : a ≤ b) (w : Tbl.wfFrom d b t = true) :
    Tbl.wfFrom d a t = true := by
  cases t with
  | nil => rfl
  | cons e t =>
    simp only [Tbl.wfFrom, Bool.and_eq_true, decide_eq_true_eq] at w ⊢
    exact ⟨⟨h.trans w.1.1, w.1.2⟩, w.2⟩

/-- A canonical table: keys from the bound on, rising strictly, and no default listed. -/
theorem Tbl.wfFrom_iff [DecidableEq α] (d : Nat → α) (lo : Nat) (t : Tbl α) :
    Tbl.wfFrom d lo t = true ↔
      t.Pairwise (fun a b => a.1 < b.1) ∧ (∀ e ∈ t, lo ≤ e.1) ∧ (∀ e ∈ t, e.2 ≠ d e.1) := by
  induction t generalizing lo with
  | nil => simp [Tbl.wfFrom]
  | cons e t ih =>
    simp only [Tbl.wfFrom, Bool.and_eq_true, decide_eq_true_eq, ih, List.pairwise_cons, List.mem_cons, forall_eq_or_imp]
    constructor
    · rintro ⟨⟨h1, h2⟩, h3, h4, h5⟩
      exact ⟨⟨fun a ha => h4 a ha, h3⟩, ⟨h1, fun a ha => by have := h4 a ha; omega⟩, h2, h5⟩
    · rintro ⟨⟨h1, h2⟩, ⟨h3, h4⟩, h5, h6⟩
      exact ⟨⟨h3, h5⟩, h2, fun a ha => h1 a ha, h6⟩

/-- A canonical table. -/
theorem Tbl.wf_iff [DecidableEq α] (d : Nat → α) (t : Tbl α) :
    Tbl.wf d t = true ↔ t.Pairwise (fun a b => a.1 < b.1) ∧ ∀ e ∈ t, e.2 ≠ d e.1 := by
  unfold Tbl.wf
  rw [Tbl.wfFrom_iff]
  simp

/-- Leaving entries out keeps the form. -/
theorem Tbl.wf_filter [DecidableEq α] (d : Nat → α) (p : Nat × α → Bool) (t : Tbl α) (h : Tbl.wf d t = true) :
    Tbl.wf d (t.filter p) = true := by
  rw [Tbl.wf_iff] at h ⊢
  exact ⟨h.1.filter p, fun e he => h.2 e (List.mem_of_mem_filter he)⟩

theorem Tbl.wf_drop [DecidableEq α] (d : Nat → α) (k : Nat) (t : Tbl α) (h : Tbl.wf d t = true) :
    Tbl.wf d (Tbl.drop k t) = true := Tbl.wf_filter d _ t h

theorem Tbl.wfFrom_put [DecidableEq α] (d : Nat → α) (k : Nat) (v : α) (lo : Nat) (t : Tbl α) (hk : lo ≤ k) (hv : v ≠ d k)
    (h : Tbl.wfFrom d lo t = true) : Tbl.wfFrom d lo (Tbl.put k v t) = true := by
  induction t generalizing lo with
  | nil => simp [Tbl.put, Tbl.wfFrom, hk, hv]
  | cons e t ih =>
    obtain ⟨j, w⟩ := e
    simp only [Tbl.wfFrom, Bool.and_eq_true, decide_eq_true_eq] at h
    simp only [Tbl.put]
    split
    · rename_i hj
      simp only [Tbl.wfFrom, Bool.and_eq_true, decide_eq_true_eq]
      exact ⟨h.1, ih (j + 1) (by omega) h.2⟩
    · split
      · rename_i h1 h2
        subst h2
        simp only [Tbl.wfFrom, Bool.and_eq_true, decide_eq_true_eq]
        exact ⟨⟨hk, hv⟩, h.2⟩
      · rename_i h1 h2
        simp only [Tbl.wfFrom, Bool.and_eq_true, decide_eq_true_eq]
        exact ⟨⟨hk, hv⟩, ⟨by omega, h.1.2⟩, h.2⟩

/-- Every write keeps the canonical form. -/
theorem Tbl.wf_set [DecidableEq α] (d : Nat → α) (t : Tbl α) (k : Nat) (v : α) (h : Tbl.wf d t = true) :
    Tbl.wf d (Tbl.set d t k v) = true := by
  unfold Tbl.set
  split
  · exact Tbl.wf_drop d k t h
  · rename_i hv
    exact Tbl.wfFrom_put d k v 0 t (Nat.zero_le _) hv h

end Sys2Proof.Machine
end

