-- ==== Sys2Proof/Laws/Memory.lean ====
section
/-! SUPPORT. Memory: reading after writing, and the canonical form that every write keeps. -/

namespace Sys2Proof.Machine

/-! Reading after writing. -/

/-- A byte written reads back; every other byte reads as before. -/
theorem readByte_writeByte (s : State) (a b : Nat) (v : Byte) :
    (s.writeByte a v).readByte b = if b = a then v else s.readByte b := Tbl.get_set _ _ _ _ _

theorem readByte_writeBytes_outside (bs : List Byte) (a b : Nat) (s : State) (h : b < a ∨ a + bs.length ≤ b) :
    (State.writeBytes bs a s).readByte b = s.readByte b := by
  induction bs generalizing a s with
  | nil => rfl
  | cons x bs ih =>
    rw [List.length_cons] at h
    rw [State.writeBytes, ih (a + 1) _ (by omega), readByte_writeByte, if_neg (by omega)]

theorem readByte_writeBytes_inside (bs : List Byte) (a i : Nat) (s : State) (h : i < bs.length) :
    (State.writeBytes bs a s).readByte (a + i) = bs[i] := by
  induction bs generalizing a s i with
  | nil => exact absurd h (Nat.not_lt_zero i)
  | cons x bs ih =>
    rw [State.writeBytes]
    cases i with
    | zero => rw [readByte_writeBytes_outside _ _ _ _ (Or.inl (by omega)), readByte_writeByte, if_pos (by omega)]; rfl
    | succ i =>
      rw [show a + (i + 1) = a + 1 + i by omega, ih (a + 1) i _ (by simpa using h)]
      rfl

@[simp] theorem toBytes_length (n v : Nat) : (toBytes n v).length = n := by
  induction n generalizing v with
  | zero => rfl
  | succ n ih => rw [toBytes, List.length_cons, ih]

/-- A number written little-endian leaves every byte outside it. -/
theorem readByte_writeNat_outside (s : State) (a n v b : Nat) (h : b < a ∨ a + n ≤ b) :
    (s.writeNat a n v).readByte b = s.readByte b :=
  readByte_writeBytes_outside _ _ _ _ (by rwa [toBytes_length])

/-! The canonical form. -/

theorem wf_same {s t : State} (hm : t.mem = s.mem) (hg : t.memGen = s.memGen) (h : Memory.wf s = true) : Memory.wf t = true := by
  unfold Memory.wf at h ⊢
  rw [hm, hg]
  exact h

theorem wf_empty {s : State} (h : s.mem = []) : Memory.wf s = true := by
  unfold Memory.wf
  rw [h]
  rfl

theorem wf_next {s t : State} (h : Memory.wf t = true) : Memory.wf (after (.next t) s) = true := h

theorem wf_settle {s : State} (h : Memory.wf s = true) : Memory.wf (settle s) = true :=
  wf_same (settle_kept s).2.2.2 (settle_kept s).2.2.1 h

theorem wf_done {s t : State} (h : Memory.wf t = true) : Memory.wf (after (done t) s) = true := wf_settle h

theorem wf_doneFab {s t : State} (h : Memory.wf t = true) : Memory.wf (after (doneFab t) s) = true :=
  wf_settle (wf_same (deferRaises_kept t).2.2.2 (deferRaises_kept t).2.2.1 h)

theorem wf_ite_snd {β : Type} {c : Prop} [Decidable c] {a b : β × State} (ha : Memory.wf a.2 = true) (hb : Memory.wf b.2 = true) :
    Memory.wf (if c then a else b).2 = true := by
  split
  · exact ha
  · exact hb

theorem wf_foldl {α : Type} {g : State → α → State} {l : List α} {s : State} (h : Memory.wf s = true)
    (hg : ∀ t x, Memory.wf t = true → Memory.wf (g t x) = true) : Memory.wf (l.foldl g s) = true := by
  induction l generalizing s with
  | nil => exact h
  | cons x l ih => exact ih (hg s x h)

theorem wf_iterate {g : Nat → State → State} {n : Nat} {s : State} (h : Memory.wf s = true)
    (hg : ∀ i t, Memory.wf t = true → Memory.wf (g i t) = true) : Memory.wf (iterate n g s) = true := by
  induction n with
  | zero => exact h
  | succ n ih => exact hg n _ ih

theorem State.writeByte_wf (s : State) (a : Nat) (v : Byte) (h : Memory.wf s = true) : Memory.wf (s.writeByte a v) = true :=
  Tbl.wf_set _ _ _ _ h

theorem State.writeBytes_wf (bs : List Byte) (a : Nat) (s : State) (h : Memory.wf s = true) :
    Memory.wf (State.writeBytes bs a s) = true := by
  induction bs generalizing a s with
  | nil => exact h
  | cons b bs ih => exact ih _ _ (s.writeByte_wf a b h)

theorem State.writeNat_wf (s : State) (a n v : Nat) (h : Memory.wf s = true) : Memory.wf (s.writeNat a n v) = true :=
  State.writeBytes_wf _ _ _ h

theorem State.fillRange_wf (s : State) (base n : Nat) (f : Nat → Byte) (h : Memory.wf s = true) :
    Memory.wf (s.fillRange base n f) = true := by
  unfold Memory.wf State.fillRange fillMem
  dsimp only
  rw [Tbl.wf_iff] at h ⊢
  obtain ⟨hp, hd⟩ := h
  constructor
  · refine List.pairwise_append.mpr ⟨hp.filter _, List.pairwise_append.mpr ⟨?_, hp.filter _, ?_⟩, ?_⟩
    · refine List.Pairwise.filter _ (List.pairwise_map.mpr ?_)
      exact List.pairwise_lt_range.imp (fun h => by simpa using h)
    · intro x hx y hy
      simp only [List.mem_filter, List.mem_map, List.mem_range, decide_eq_true_eq] at hx hy
      obtain ⟨⟨i, hi, rfl⟩, -⟩ := hx
      dsimp only
      omega
    · intro x hx y hy
      simp only [List.mem_append, List.mem_filter, List.mem_map, List.mem_range, decide_eq_true_eq] at hx hy
      obtain ⟨⟨i, hi, rfl⟩, -⟩ | ⟨-, hy⟩ := hy
      · dsimp only
        omega
      · omega
  · intro e he
    simp only [List.mem_append, List.mem_filter, decide_eq_true_eq] at he
    obtain ⟨he, -⟩ | ⟨-, he⟩ | ⟨he, -⟩ := he
    · exact hd e he
    · exact he
    · exact hd e he

end Sys2Proof.Machine
end

