-- ==== Sys2Proof/Laws/MemoryKept.lean ====
section
/-! SUPPORT. Memory keeps its canonical form under every function that writes it, and under every command that calls one. -/

namespace Sys2Proof.Machine

theorem onPath_wf (p : Path) (idx : Nat) (sub : Nat) (s : State) (r : Nat × State) (h0 : Memory.wf r.2 = true)
    (hm : Memory.wf s = true) :
    Memory.wf (onPath p idx sub s r) = true := by
  unfold onPath
  try dsimp only
  repeat' first
    | with_reducible assumption
    | with_reducible apply wf_done
    | with_reducible apply wf_doneFab
    | with_reducible apply wf_next
    | with_reducible refine wf_same (answered_kept _ _ _ _).2.2.2 (answered_kept _ _ _ _).2.2.1 ?_
    | with_reducible apply wf_foldl
    | with_reducible apply wf_iterate
    | with_reducible apply wf_ite_snd
    | split

theorem writeWord_wf (u : Nat) (w : Nat) (v : Nat) (s : State) (hm : Memory.wf s = true) :
    Memory.wf (writeWord u w v s) = true := by
  unfold writeWord
  try dsimp only
  repeat' first
    | with_reducible assumption
    | with_reducible apply wf_done
    | with_reducible apply wf_doneFab
    | with_reducible apply wf_next
    | with_reducible refine wf_same (State.setUnit_kept _ _ _).2.2.2 (State.setUnit_kept _ _ _).2.2.1 ?_
    | with_reducible apply State.writeNat_wf
    | with_reducible apply wf_foldl
    | with_reducible apply wf_iterate
    | with_reducible apply wf_ite_snd
    | split

theorem writeWords_wf (u : Nat) (cap : Nat) (a2 : List Nat) (a3 : Nat) (a4 : State) (hm : Memory.wf a4 = true) :
    Memory.wf (writeWords u cap a2 a3 a4) = true := by
  induction a2 generalizing a3 a4 with
  | nil => exact hm
  | cons x xs ih => exact ih _ _ (writeWord_wf _ _ _ _ hm)

theorem pushWords_wf (u : Nat) (ws : List Nat) (s : State) (hm : Memory.wf s = true) :
    Memory.wf (pushWords u ws s) = true := by
  unfold pushWords
  try dsimp only
  repeat' first
    | with_reducible assumption
    | with_reducible apply wf_done
    | with_reducible apply wf_doneFab
    | with_reducible apply wf_next
    | with_reducible refine wf_same (State.setUnit_kept _ _ _).2.2.2 (State.setUnit_kept _ _ _).2.2.1 ?_
    | with_reducible refine wf_same (setFill_kept _ _ _).2.2.2 (setFill_kept _ _ _).2.2.1 ?_
    | with_reducible apply writeWords_wf

theorem ringWords_wf (u : Nat) (cap : Nat) (ws : List Nat) (s : State) (hm : Memory.wf s = true) :
    Memory.wf (ringWords u cap ws s) = true := by
  unfold ringWords
  try dsimp only
  repeat' first
    | with_reducible assumption
    | with_reducible apply wf_done
    | with_reducible apply wf_doneFab
    | with_reducible apply wf_next
    | with_reducible refine wf_same (State.setUnit_kept _ _ _).2.2.2 (State.setUnit_kept _ _ _).2.2.1 ?_
    | with_reducible refine wf_same (unitCauses_kept _ _ _).2.2.2 (unitCauses_kept _ _ _).2.2.1 ?_
    | with_reducible apply writeWords_wf
    | with_reducible apply wf_foldl
    | with_reducible apply wf_iterate
    | with_reducible apply wf_ite_snd
    | split

theorem stationWrite_wf (u : Nat) (w : Nat) (v : Nat) (s : State) (hm : Memory.wf s = true) :
    Memory.wf (stationWrite u w v s) = true := by
  unfold stationWrite
  try dsimp only
  repeat' first
    | with_reducible assumption
    | with_reducible apply wf_done
    | with_reducible apply wf_doneFab
    | with_reducible apply wf_next
    | with_reducible apply pushWords_wf
    | with_reducible refine wf_same (refuseWrite_kept _ _ _).2.2.2 (refuseWrite_kept _ _ _).2.2.1 ?_
    | with_reducible apply ringWords_wf
    | with_reducible apply writeWord_wf
    | with_reducible apply wf_foldl
    | with_reducible apply wf_iterate
    | with_reducible apply wf_ite_snd
    | split

theorem stationAccess_wf (u : Nat) (p : PortAsk) (e : EccClass) (s : State) (hm : Memory.wf s = true) :
    Memory.wf (stationAccess u p e s).2 = true := by
  unfold stationAccess
  try dsimp only
  repeat' first
    | with_reducible assumption
    | with_reducible apply wf_done
    | with_reducible apply wf_doneFab
    | with_reducible apply wf_next
    | with_reducible refine wf_same (stationRead_kept _ _ _ _).2.2.2 (stationRead_kept _ _ _ _).2.2.1 ?_
    | with_reducible apply stationWrite_wf
    | with_reducible apply wf_foldl
    | with_reducible apply wf_iterate
    | with_reducible apply wf_ite_snd
    | split

theorem goodWrite_wf (u : Nat) (r : HoldReq) (s : State) (hm : Memory.wf s = true) :
    Memory.wf (goodWrite u r s) = true := by
  unfold goodWrite
  try dsimp only
  repeat' first
    | with_reducible assumption
    | with_reducible apply wf_done
    | with_reducible apply wf_doneFab
    | with_reducible apply wf_next
    | with_reducible refine wf_same (holdAnswer_kept _ _ _).2.2.2 (holdAnswer_kept _ _ _).2.2.1 ?_
    | with_reducible apply pushWords_wf
    | with_reducible apply ringWords_wf
    | with_reducible refine wf_same (unitCauses_kept _ _ _).2.2.2 (unitCauses_kept _ _ _).2.2.1 ?_
    | with_reducible apply writeWord_wf
    | with_reducible apply writeWords_wf
    | with_reducible apply wf_foldl
    | with_reducible apply wf_iterate
    | with_reducible apply wf_ite_snd
    | split

theorem serveWrite_wf (u : Nat) (r : HoldReq) (s : State) (hm : Memory.wf s = true) :
    Memory.wf (serveWrite u r s) = true := by
  unfold serveWrite
  try dsimp only
  repeat' first
    | with_reducible assumption
    | with_reducible apply wf_done
    | with_reducible apply wf_doneFab
    | with_reducible apply wf_next
    | with_reducible refine wf_same (badWrite_kept _ _ _).2.2.2 (badWrite_kept _ _ _).2.2.1 ?_
    | with_reducible apply goodWrite_wf
    | with_reducible apply wf_foldl
    | with_reducible apply wf_iterate
    | with_reducible apply wf_ite_snd
    | split

theorem serveNoc_wf (u : Nat) (r : HoldReq) (s : State) (hm : Memory.wf s = true) :
    Memory.wf (serveNoc u r s) = true := by
  unfold serveNoc
  try dsimp only
  repeat' first
    | with_reducible assumption
    | with_reducible apply wf_done
    | with_reducible apply wf_doneFab
    | with_reducible apply wf_next
    | with_reducible refine wf_same (State.setUnit_kept _ _ _).2.2.2 (State.setUnit_kept _ _ _).2.2.1 ?_
    | with_reducible refine wf_same (serveRead_kept _ _ _).2.2.2 (serveRead_kept _ _ _).2.2.1 ?_
    | with_reducible apply serveWrite_wf
    | with_reducible apply wf_foldl
    | with_reducible apply wf_iterate
    | with_reducible apply wf_ite_snd
    | split

theorem holdArrive_wf (u : Nat) (r : HoldReq) (s : State) (hm : Memory.wf s = true) :
    Memory.wf (holdArrive u r s) = true := by
  unfold holdArrive
  try dsimp only
  repeat' first
    | with_reducible assumption
    | with_reducible apply wf_done
    | with_reducible apply wf_doneFab
    | with_reducible apply wf_next
    | with_reducible refine wf_same (collide_kept _ _ _).2.2.2 (collide_kept _ _ _).2.2.1 ?_
    | with_reducible refine wf_same (enqueueHold_kept _ _ _).2.2.2 (enqueueHold_kept _ _ _).2.2.1 ?_
    | with_reducible refine wf_same (holdAnswer_kept _ _ _).2.2.2 (holdAnswer_kept _ _ _).2.2.1 ?_
    | with_reducible apply serveNoc_wf
    | with_reducible refine wf_same (unitCauses_kept _ _ _).2.2.2 (unitCauses_kept _ _ _).2.2.1 ?_
    | with_reducible apply wf_foldl
    | with_reducible apply wf_iterate
    | with_reducible apply wf_ite_snd
    | split

theorem shaftArrive_wf (u : Nat) (r : HoldReq) (s : State) (hm : Memory.wf s = true) :
    Memory.wf (shaftArrive u r s) = true := by
  unfold shaftArrive
  try dsimp only
  repeat' first
    | with_reducible assumption
    | with_reducible apply wf_done
    | with_reducible apply wf_doneFab
    | with_reducible apply wf_next
    | with_reducible apply holdArrive_wf
    | with_reducible apply wf_foldl
    | with_reducible apply wf_iterate
    | with_reducible apply wf_ite_snd
    | split

theorem holdAccess_wf (addr : Nat) (legal : Bool) (r : HoldReq) (s : State) (hm : Memory.wf s = true) :
    Memory.wf (holdAccess addr legal r s) = true := by
  unfold holdAccess
  try dsimp only
  repeat' first
    | with_reducible assumption
    | with_reducible apply wf_done
    | with_reducible apply wf_doneFab
    | with_reducible apply wf_next
    | with_reducible refine wf_same (holdAnswer_kept _ _ _).2.2.2 (holdAnswer_kept _ _ _).2.2.1 ?_
    | with_reducible refine wf_same (openTxn_kept _ _ _ _).2.2.2 (openTxn_kept _ _ _ _).2.2.1 ?_
    | with_reducible refine wf_same (schedAtFence_kept _ _).2.2.2 (schedAtFence_kept _ _).2.2.1 ?_
    | with_reducible apply shaftArrive_wf
    | with_reducible apply wf_foldl
    | with_reducible apply wf_iterate
    | with_reducible apply wf_ite_snd
    | split

theorem holdRequest_wf (req : ReqId) (addr : Nat) (kind : Nat) (data : Nat) (be : Nat) (legal : Bool) (sched : Bool)
    (ecc : List EccClass) (s : State) (hm : Memory.wf s = true) :
    Memory.wf (holdRequest req addr kind data be legal sched ecc s) = true := by
  unfold holdRequest
  try dsimp only
  repeat' first
    | with_reducible assumption
    | with_reducible apply wf_done
    | with_reducible apply wf_doneFab
    | with_reducible apply wf_next
    | with_reducible apply holdAccess_wf

theorem guardStep_wf (a0 : Nat) (a1 : State) (hm : Memory.wf a1 = true) :
    Memory.wf (guardStep a0 a1) = true := by
  induction a0 generalizing a1 with
  | zero => exact hm
  | succ n ih =>
    unfold guardStep
    split
    · exact ih _ (holdArrive_wf _ _ _ (wf_same rfl rfl hm))
    · exact hm

theorem execHoldNocReadRow_wf (req : ReqId) (addr : BitVec 48) (size : Nat) (ecc : List EccClass) (s : State)
    (hm : Memory.wf s = true) :
    Memory.wf (after (execHoldNocReadRow req addr size ecc s) s) = true := by
  unfold execHoldNocReadRow
  try dsimp only
  repeat' first
    | with_reducible assumption
    | with_reducible apply wf_done
    | with_reducible apply wf_doneFab
    | with_reducible apply wf_next
    | with_reducible apply holdRequest_wf

theorem execHoldNocWriteRow_wf (req : ReqId) (addr : BitVec 48) (data : List Byte) (sched : Bool) (s : State)
    (hm : Memory.wf s = true) :
    Memory.wf (after (execHoldNocWriteRow req addr data sched s) s) = true := by
  unfold execHoldNocWriteRow
  try dsimp only
  repeat' first
    | with_reducible assumption
    | with_reducible apply wf_done
    | with_reducible apply wf_doneFab
    | with_reducible apply wf_next
    | with_reducible apply holdRequest_wf

theorem execHoldNocWriteWord_wf (req : ReqId) (addr : BitVec 48) (data : BitVec 32) (be : BitVec 4) (s : State)
    (hm : Memory.wf s = true) :
    Memory.wf (after (execHoldNocWriteWord req addr data be s) s) = true := by
  unfold execHoldNocWriteWord
  try dsimp only
  repeat' first
    | with_reducible assumption
    | with_reducible apply wf_done
    | with_reducible apply wf_doneFab
    | with_reducible apply wf_next
    | with_reducible apply holdRequest_wf

theorem fillUnit_wf (u : Nat) (pattern : Nat) (s : State) (hm : Memory.wf s = true) :
    Memory.wf (fillUnit u pattern s) = true := by
  unfold fillUnit
  try dsimp only
  repeat' first
    | with_reducible assumption
    | with_reducible apply wf_done
    | with_reducible apply wf_doneFab
    | with_reducible apply wf_next
    | with_reducible refine wf_same (State.draw_kept _).2.2.2 (State.draw_kept _).2.2.1 ?_
    | with_reducible apply State.fillRange_wf

theorem execFillDone_wf (u : Fin 4160) (s : State) (hm : Memory.wf s = true) :
    Memory.wf (after (execFillDone u s) s) = true := by
  unfold execFillDone
  try dsimp only
  repeat' first
    | with_reducible assumption
    | with_reducible apply wf_done
    | with_reducible apply wf_doneFab
    | with_reducible apply wf_next
    | with_reducible refine wf_same (State.setUnit_kept _ _ _).2.2.2 (State.setUnit_kept _ _ _).2.2.1 ?_
    | with_reducible apply fillUnit_wf
    | with_reducible apply wf_foldl
    | with_reducible apply wf_iterate
    | with_reducible apply wf_ite_snd
    | split

theorem marchEnd_wf (u : Nat) (fail : Option Nat) (s : State) (hm : Memory.wf s = true) :
    Memory.wf (marchEnd u fail s) = true := by
  unfold marchEnd
  try dsimp only
  repeat' first
    | with_reducible assumption
    | with_reducible apply wf_done
    | with_reducible apply wf_doneFab
    | with_reducible apply wf_next
    | with_reducible refine wf_same (State.setUnit_kept _ _ _).2.2.2 (State.setUnit_kept _ _ _).2.2.1 ?_
    | with_reducible apply fillUnit_wf
    | with_reducible refine wf_same (unitCauses_kept _ _ _).2.2.2 (unitCauses_kept _ _ _).2.2.1 ?_
    | with_reducible apply wf_foldl
    | with_reducible apply wf_iterate
    | with_reducible apply wf_ite_snd
    | split

theorem execMarchDone_wf (group : Fin 260) (fails : List (Fin 16 × Nat)) (s : State) (hm : Memory.wf s = true) :
    Memory.wf (after (execMarchDone group fails s) s) = true := by
  unfold execMarchDone
  try dsimp only
  repeat' first
    | with_reducible assumption
    | with_reducible apply wf_done
    | with_reducible apply wf_doneFab
    | with_reducible apply wf_next
    | with_reducible refine wf_same (doneFab_kept _).2.2.2 (doneFab_kept _).2.2.1 ?_
    | with_reducible apply marchEnd_wf
    | with_reducible refine wf_same (raise_kept _ _).2.2.2 (raise_kept _ _).2.2.1 ?_
    | with_reducible refine wf_same (raiseIf_kept _ _ _).2.2.2 (raiseIf_kept _ _ _).2.2.1 ?_
    | with_reducible apply wf_foldl
    | with_reducible apply wf_iterate
    | with_reducible apply wf_ite_snd
    | split
    | intro _

theorem feedWord_wf (u : Nat) (v : Nat) (s : State) (hm : Memory.wf s = true) :
    Memory.wf (feedWord u v s) = true := by
  unfold feedWord
  try dsimp only
  repeat' first
    | with_reducible assumption
    | with_reducible apply wf_done
    | with_reducible apply wf_doneFab
    | with_reducible apply wf_next
    | with_reducible refine wf_same (State.setUnit_kept _ _ _).2.2.2 (State.setUnit_kept _ _ _).2.2.1 ?_
    | with_reducible refine wf_same (dropLog_kept _ _ _).2.2.2 (dropLog_kept _ _ _).2.2.1 ?_
    | with_reducible apply pushWords_wf
    | with_reducible apply ringWords_wf
    | with_reducible apply writeWord_wf
    | with_reducible apply wf_foldl
    | with_reducible apply wf_iterate
    | with_reducible apply wf_ite_snd
    | split

theorem storeCapture_wf (u : Nat) (bytes : List Byte) (s : State) (hm : Memory.wf s = true) :
    Memory.wf (storeCapture u bytes s) = true := by
  unfold storeCapture
  try dsimp only
  repeat' first
    | with_reducible assumption
    | with_reducible apply wf_done
    | with_reducible apply wf_doneFab
    | with_reducible apply wf_next
    | with_reducible apply ringWords_wf

theorem State.waitingRecord_wf {s t : State} {u : Nat} (h : s.waitingRecord u = some t) (hm : Memory.wf s = true) :
    Memory.wf t = true := by
  unfold State.waitingRecord at h
  (repeat' split at h) <;> first
    | cases h; done
    | (cases h; exact storeCapture_wf _ _ _ (wf_same (State.setUnit_kept _ _ _).2.2.2 (State.setUnit_kept _ _ _).2.2.1 hm))

theorem unitCycle_wf (busy : Bool) (target : Option Nat) (u : Nat) (s : State) (hm : Memory.wf s = true) :
    Memory.wf (unitCycle busy target u s) = true := by
  unfold unitCycle
  try dsimp only
  have hc := wf_same (collideWaiting_kept target u s).2.2.2 (collideWaiting_kept target u s).2.2.1 hm
  repeat' first
    | with_reducible assumption
    | with_reducible refine wf_same (ageUnit_kept _ _ _).2.2.2 (ageUnit_kept _ _ _).2.2.1 ?_
    | with_reducible apply feedWord_wf
    | with_reducible apply serveNoc_wf
    | with_reducible refine wf_same (grantMarch_kept _ _).2.2.2 (grantMarch_kept _ _).2.2.1 ?_
    | with_reducible refine wf_same (State.setUnit_kept _ _ _).2.2.2 (State.setUnit_kept _ _ _).2.2.1 ?_
    | split
    | (rename_i h; exact State.waitingRecord_wf h hc)

theorem captureRecord_wf (g : Nat) (bytes : List Byte) (s : State) (hm : Memory.wf s = true) :
    Memory.wf (captureRecord g bytes s) = true := by
  unfold captureRecord
  try dsimp only
  repeat' first
    | with_reducible assumption
    | with_reducible apply wf_done
    | with_reducible apply wf_doneFab
    | with_reducible apply wf_next
    | with_reducible refine wf_same (State.setUnit_kept _ _ _).2.2.2 (State.setUnit_kept _ _ _).2.2.1 ?_
    | with_reducible apply storeCapture_wf
    | with_reducible apply wf_foldl
    | with_reducible apply wf_iterate
    | with_reducible apply wf_ite_snd
    | split

theorem withPowerEvent_wf (f : State → State) (s : State) (h_f : ∀ (y0 : State),
    Memory.wf y0 = true → Memory.wf (f y0) = true) (hm : Memory.wf s = true) :
    Memory.wf (withPowerEvent f s) = true := by
  unfold withPowerEvent
  try dsimp only
  repeat' first
    | with_reducible assumption
    | with_reducible apply wf_done
    | with_reducible apply wf_doneFab
    | with_reducible apply wf_next
    | with_reducible refine wf_same (raiseIf_kept _ _ _).2.2.2 (raiseIf_kept _ _ _).2.2.1 ?_
    | with_reducible apply h_f

theorem issue_wf (i : Issue) (word : Nat) (s : State) (f : State → State) (h_f : ∀ (y0 : State),
    Memory.wf y0 = true → Memory.wf (f y0) = true) (hm : Memory.wf s = true) :
    Memory.wf (issue i word s f) = true := by
  unfold issue
  try dsimp only
  repeat' first
    | with_reducible assumption
    | with_reducible apply wf_done
    | with_reducible apply wf_doneFab
    | with_reducible apply wf_next
    | with_reducible refine wf_same (keeperFault_kept _ _ _ _ _).2.2.2 (keeperFault_kept _ _ _ _ _).2.2.1 ?_
    | with_reducible apply h_f
    | with_reducible apply wf_foldl
    | with_reducible apply wf_iterate
    | with_reducible apply wf_ite_snd
    | split

theorem checkedAccess_wf (i : Issue) (word : Nat) (limit : Nat) (size : Nat) (ka : KReg) (imm : BitVec 16) (ecc : EccClass)
    (s : State) (f : Nat → Keeper → State → State) (h_f : ∀ (y0 : Nat) (y1 : Keeper) (y2 : State),
    Memory.wf y2 = true → Memory.wf (f y0 y1 y2) = true) (hm : Memory.wf s = true) :
    Memory.wf (after (checkedAccess i word limit size ka imm ecc s f) s) = true := by
  unfold checkedAccess
  try dsimp only
  repeat' first
    | with_reducible assumption
    | with_reducible apply wf_done
    | with_reducible apply wf_doneFab
    | with_reducible apply wf_next
    | with_reducible apply issue_wf
    | with_reducible refine wf_same (keeperFault_kept _ _ _ _ _).2.2.2 (keeperFault_kept _ _ _ _ _).2.2.1 ?_
    | with_reducible apply h_f
    | with_reducible apply wf_foldl
    | with_reducible apply wf_iterate
    | with_reducible apply wf_ite_snd
    | split
    | intro _

theorem coreWrite_wf (k : Nat) (a : Nat) (n : Nat) (v : Nat) (s : State) (hm : Memory.wf s = true) :
    Memory.wf (coreWrite k a n v s) = true := by
  unfold coreWrite
  try dsimp only
  repeat' first
    | with_reducible assumption
    | with_reducible apply wf_done
    | with_reducible apply wf_doneFab
    | with_reducible apply wf_next
    | with_reducible refine wf_same (State.draw_kept _).2.2.2 (State.draw_kept _).2.2.1 ?_
    | with_reducible refine wf_same (State.setKeeper_kept _ _ _).2.2.2 (State.setKeeper_kept _ _ _).2.2.1 ?_
    | with_reducible apply State.writeNat_wf
    | with_reducible apply wf_foldl
    | with_reducible apply wf_iterate
    | with_reducible apply wf_ite_snd
    | split

theorem coreStore_wf (k : Nat) (a : Nat) (n : Nat) (v : Nat) (c : Keeper) (s : State) (hm : Memory.wf s = true) :
    Memory.wf (coreStore k a n v c s) = true := by
  unfold coreStore
  try dsimp only
  repeat' first
    | with_reducible assumption
    | with_reducible apply wf_done
    | with_reducible apply wf_doneFab
    | with_reducible apply wf_next
    | with_reducible apply coreWrite_wf
    | with_reducible refine wf_same (finish_kept _ _ _ _).2.2.2 (finish_kept _ _ _ _).2.2.1 ?_

theorem land_wf (k : Nat) (t : Tag) (data : Line) (s : State) (hm : Memory.wf s = true) :
    Memory.wf (land k t data s) = true := by
  unfold land
  try dsimp only
  repeat' first
    | with_reducible assumption
    | with_reducible apply wf_done
    | with_reducible apply wf_doneFab
    | with_reducible apply wf_next
    | with_reducible refine wf_same (State.draw_kept _).2.2.2 (State.draw_kept _).2.2.1 ?_
    | with_reducible apply State.writeNat_wf
    | with_reducible apply wf_foldl
    | with_reducible apply wf_iterate
    | with_reducible apply wf_ite_snd
    | split

theorem keeperEnded_wf (k : Nat) (n : Nat) (st : Status) (data : Line) (s : State) (hm : Memory.wf s = true) :
    Memory.wf (keeperEnded k n st data s) = true := by
  unfold keeperEnded
  try dsimp only
  repeat' first
    | with_reducible assumption
    | with_reducible apply wf_done
    | with_reducible apply wf_doneFab
    | with_reducible apply wf_next
    | with_reducible refine wf_same (State.setKeeper_kept _ _ _).2.2.2 (State.setKeeper_kept _ _ _).2.2.1 ?_
    | with_reducible apply land_wf
    | with_reducible refine wf_same (takeOver_kept _ _).2.2.2 (takeOver_kept _ _).2.2.1 ?_
    | with_reducible apply wf_foldl
    | with_reducible apply wf_iterate
    | with_reducible apply wf_ite_snd
    | split

theorem execSt_wf (i : Issue) (kd : KReg) (ka : KReg) (imm : BitVec 16) (s : State) (hm : Memory.wf s = true) :
    Memory.wf (after (execSt i kd ka imm s) s) = true := by
  unfold execSt
  try dsimp only
  repeat' first
    | with_reducible assumption
    | with_reducible apply wf_done
    | with_reducible apply wf_doneFab
    | with_reducible apply wf_next
    | with_reducible apply checkedAccess_wf
    | with_reducible apply coreStore_wf
    | with_reducible apply wf_foldl
    | with_reducible apply wf_iterate
    | with_reducible apply wf_ite_snd
    | split
    | intro _

theorem execStw_wf (i : Issue) (kd : KReg) (ka : KReg) (imm : BitVec 16) (ecc : EccClass) (s : State) (hm : Memory.wf s = true) :
    Memory.wf (after (execStw i kd ka imm ecc s) s) = true := by
  unfold execStw
  try dsimp only
  repeat' first
    | with_reducible assumption
    | with_reducible apply wf_done
    | with_reducible apply wf_doneFab
    | with_reducible apply wf_next
    | with_reducible apply checkedAccess_wf
    | with_reducible apply coreStore_wf
    | with_reducible apply wf_foldl
    | with_reducible apply wf_iterate
    | with_reducible apply wf_ite_snd
    | split
    | intro _

theorem execPst_wf (i : Issue) (kd : KReg) (ka : KReg) (imm : BitVec 16) (s : State) (hm : Memory.wf s = true) :
    Memory.wf (after (execPst i kd ka imm s) s) = true := by
  unfold execPst
  try dsimp only
  repeat' first
    | with_reducible assumption
    | with_reducible apply wf_done
    | with_reducible apply wf_doneFab
    | with_reducible apply wf_next
    | with_reducible apply State.writeNat_wf
    | with_reducible apply checkedAccess_wf
    | with_reducible refine wf_same (finish_kept _ _ _ _).2.2.2 (finish_kept _ _ _ _).2.2.1 ?_
    | with_reducible apply wf_foldl
    | with_reducible apply wf_iterate
    | with_reducible apply wf_ite_snd
    | split
    | intro _

theorem execPxchg_wf (i : Issue) (kd : KReg) (ka : KReg) (imm : BitVec 16) (ecc : EccClass) (s : State)
    (hm : Memory.wf s = true) :
    Memory.wf (after (execPxchg i kd ka imm ecc s) s) = true := by
  unfold execPxchg
  try dsimp only
  repeat' first
    | with_reducible assumption
    | with_reducible apply wf_done
    | with_reducible apply wf_doneFab
    | with_reducible apply wf_next
    | with_reducible apply State.writeNat_wf
    | with_reducible apply checkedAccess_wf
    | with_reducible refine wf_same (finish_kept _ _ _ _).2.2.2 (finish_kept _ _ _ _).2.2.1 ?_
    | with_reducible apply wf_foldl
    | with_reducible apply wf_iterate
    | with_reducible apply wf_ite_snd
    | split
    | intro _

theorem lineChecked_wf (i : Issue) (func : Nat) (kd : KReg) (ka : KReg) (kb : KReg) (s : State)
    (f : Nat → Nat → State → State) (h_f : ∀ (y0 : Nat) (y1 : Nat) (y2 : State),
    Memory.wf y2 = true → Memory.wf (f y0 y1 y2) = true) (hm : Memory.wf s = true) :
    Memory.wf (after (lineChecked i func kd ka kb s f) s) = true := by
  unfold lineChecked
  try dsimp only
  repeat' first
    | with_reducible assumption
    | with_reducible apply wf_done
    | with_reducible apply wf_doneFab
    | with_reducible apply wf_next
    | with_reducible apply issue_wf
    | with_reducible refine wf_same (keeperFault_kept _ _ _ _ _).2.2.2 (keeperFault_kept _ _ _ _ _).2.2.1 ?_
    | with_reducible apply h_f
    | with_reducible apply wf_foldl
    | with_reducible apply wf_iterate
    | with_reducible apply wf_ite_snd
    | split
    | intro _

theorem lineCopied_wf (i : Issue) (word : Nat) (b : Nat) (ecc : EccClass) (s : State) (f : Nat → State → State)
    (h_f : ∀ (y0 : Nat) (y1 : State), Memory.wf y1 = true → Memory.wf (f y0 y1) = true) (hm : Memory.wf s = true) :
    Memory.wf (lineCopied i word b ecc s f) = true := by
  unfold lineCopied
  try dsimp only
  repeat' first
    | with_reducible assumption
    | with_reducible apply wf_done
    | with_reducible apply wf_doneFab
    | with_reducible apply wf_next
    | with_reducible refine wf_same (State.setKeeper_kept _ _ _).2.2.2 (State.setKeeper_kept _ _ _).2.2.1 ?_
    | with_reducible refine wf_same (coreRead_kept _ _ _ _).2.2.2 (coreRead_kept _ _ _ _).2.2.1 ?_
    | with_reducible refine wf_same (keeperFault_kept _ _ _ _ _).2.2.2 (keeperFault_kept _ _ _ _ _).2.2.1 ?_
    | with_reducible apply h_f
    | with_reducible apply wf_foldl
    | with_reducible apply wf_iterate
    | with_reducible apply wf_ite_snd
    | split

theorem storeWrite_wf (addr : Nat) (data : List Byte) (be : Nat) (s : State) (hm : Memory.wf s = true) :
    Memory.wf (storeWrite addr data be s) = true := by
  unfold storeWrite
  try dsimp only
  repeat' first
    | with_reducible assumption
    | with_reducible apply wf_done
    | with_reducible apply wf_doneFab
    | with_reducible apply wf_next
    | with_reducible apply State.writeBytes_wf
    | with_reducible apply State.writeNat_wf
    | with_reducible apply wf_foldl
    | with_reducible apply wf_iterate
    | with_reducible apply wf_ite_snd
    | split

theorem execKeeperCodeStoreWrite_wf (req : ReqId) (addr : BitVec 48) (data : List Byte) (be : BitVec 4) (s : State)
    (hm : Memory.wf s = true) :
    Memory.wf (after (execKeeperCodeStoreWrite req addr data be s) s) = true := by
  unfold execKeeperCodeStoreWrite
  try dsimp only
  repeat' first
    | with_reducible assumption
    | with_reducible apply wf_done
    | with_reducible apply wf_doneFab
    | with_reducible apply wf_next
    | with_reducible refine wf_same (answerStatus_kept _ _ _).2.2.2 (answerStatus_kept _ _ _).2.2.1 ?_
    | with_reducible refine wf_same (openTxn_kept _ _ _ _).2.2.2 (openTxn_kept _ _ _ _).2.2.1 ?_
    | with_reducible apply storeWrite_wf
    | with_reducible apply wf_foldl
    | with_reducible apply wf_iterate
    | with_reducible apply wf_ite_snd
    | split

theorem surveyRequest_wf (idx : Nat) (sub : Nat) (f : State → State) (s : State) (h_f : ∀ (y0 : State),
    Memory.wf y0 = true → Memory.wf (f y0) = true) (hm : Memory.wf s = true) :
    Memory.wf (surveyRequest idx sub f s) = true := by
  unfold surveyRequest
  try dsimp only
  repeat' first
    | with_reducible assumption
    | with_reducible apply wf_done
    | with_reducible apply wf_doneFab
    | with_reducible apply wf_next
    | with_reducible apply h_f
    | with_reducible apply wf_foldl
    | with_reducible apply wf_iterate
    | with_reducible apply wf_ite_snd
    | split

theorem requesterEnded_wf (t : Txn) (st : Status) (data : Line) (s : State) (hm : Memory.wf s = true) :
    Memory.wf (requesterEnded t st data s) = true := by
  unfold requesterEnded
  try dsimp only
  repeat' first
    | with_reducible assumption
    | with_reducible apply wf_done
    | with_reducible apply wf_doneFab
    | with_reducible apply wf_next
    | with_reducible refine wf_same (State.setGroup_kept _ _ _).2.2.2 (State.setGroup_kept _ _ _).2.2.1 ?_
    | with_reducible apply keeperEnded_wf
    | with_reducible apply wf_foldl
    | with_reducible apply wf_iterate
    | with_reducible apply wf_ite_snd
    | split

theorem endTxn_wf (r : ReqId) (st : Status) (data : Line) (s : State) (hm : Memory.wf s = true) :
    Memory.wf (endTxn r st data s) = true := by
  unfold endTxn
  try dsimp only
  repeat' first
    | with_reducible assumption
    | with_reducible apply wf_done
    | with_reducible apply wf_doneFab
    | with_reducible apply wf_next
    | with_reducible refine wf_same (closeTxn_kept _ _).2.2.2 (closeTxn_kept _ _).2.2.1 ?_
    | with_reducible apply requesterEnded_wf
    | with_reducible apply wf_foldl
    | with_reducible apply wf_iterate
    | with_reducible apply wf_ite_snd
    | split

theorem respond_wf (r : ReqId) (st : Status) (data : Line) (s : State) (hm : Memory.wf s = true) :
    Memory.wf (respond r st data s) = true := by
  unfold respond
  try dsimp only
  repeat' first
    | with_reducible assumption
    | with_reducible apply wf_done
    | with_reducible apply wf_doneFab
    | with_reducible apply wf_next
    | with_reducible apply endTxn_wf
    | with_reducible refine wf_same (lateResponse_kept _).2.2.2 (lateResponse_kept _).2.2.1 ?_
    | with_reducible apply wf_foldl
    | with_reducible apply wf_iterate
    | with_reducible apply wf_ite_snd
    | split

theorem takeResponse_wf (req : ReqId) (outside : Option (Status × Line)) (s : State) (hm : Memory.wf s = true) :
    Memory.wf (takeResponse req outside s) = true := by
  unfold takeResponse
  try dsimp only
  repeat' first
    | with_reducible assumption
    | with_reducible apply wf_done
    | with_reducible apply wf_doneFab
    | with_reducible apply wf_next
    | with_reducible apply respond_wf
    | with_reducible apply wf_foldl
    | with_reducible apply wf_iterate
    | with_reducible apply wf_ite_snd
    | split

theorem nocResponse_wf (req : ReqId) (outside : Option (Status × Line)) (s : State) (hm : Memory.wf s = true) :
    Memory.wf (nocResponse req outside s) = true := by
  unfold nocResponse
  try dsimp only
  repeat' first
    | with_reducible assumption
    | with_reducible apply wf_done
    | with_reducible apply wf_doneFab
    | with_reducible apply wf_next
    | with_reducible refine wf_same (lateResponse_kept _).2.2.2 (lateResponse_kept _).2.2.1 ?_
    | with_reducible apply takeResponse_wf
    | with_reducible apply wf_foldl
    | with_reducible apply wf_iterate
    | with_reducible apply wf_ite_snd
    | split

theorem execNocResponse_wf (req : ReqId) (outside : Option (Status × Line)) (s : State) (hm : Memory.wf s = true) :
    Memory.wf (after (execNocResponse req outside s) s) = true := by
  unfold execNocResponse
  try dsimp only
  repeat' first
    | with_reducible assumption
    | with_reducible apply wf_done
    | with_reducible apply wf_doneFab
    | with_reducible apply wf_next
    | with_reducible apply nocResponse_wf

theorem storeLine_wf (f : Flit) (s : State) (hm : Memory.wf s = true) :
    Memory.wf (storeLine f s) = true := by
  unfold storeLine
  try dsimp only
  repeat' first
    | with_reducible assumption
    | with_reducible apply wf_done
    | with_reducible apply wf_doneFab
    | with_reducible apply wf_next
    | with_reducible apply State.writeNat_wf

theorem plainAccess_wf (q : ReqId) (f : Flit) (readOnly : Bool) (e : EccClass) (s : State) (hm : Memory.wf s = true) :
    Memory.wf (plainAccess q f readOnly e s) = true := by
  unfold plainAccess
  try dsimp only
  repeat' first
    | with_reducible assumption
    | with_reducible apply wf_done
    | with_reducible apply wf_doneFab
    | with_reducible apply wf_next
    | with_reducible refine wf_same (answer_kept _ _ _ _).2.2.2 (answer_kept _ _ _ _).2.2.1 ?_
    | with_reducible refine wf_same (answerStatus_kept _ _ _).2.2.2 (answerStatus_kept _ _ _).2.2.1 ?_
    | with_reducible apply storeWrite_wf
    | with_reducible apply wf_foldl
    | with_reducible apply wf_iterate
    | with_reducible apply wf_ite_snd
    | split

theorem performEntry_wf (count : EccClass → State → State) (x : Entering) (s : State) (h_count : ∀ (y0 : EccClass)
    (y1 : State), Memory.wf y1 = true → Memory.wf (count y0 y1) = true) (hm : Memory.wf s = true) :
    Memory.wf (performEntry count x s) = true := by
  unfold performEntry
  try dsimp only
  repeat' first
    | with_reducible assumption
    | with_reducible apply wf_done
    | with_reducible apply wf_doneFab
    | with_reducible apply wf_next
    | with_reducible refine wf_same (patternAccess_kept _ _ _ _ _ _).2.2.2 (patternAccess_kept _ _ _ _ _ _).2.2.1 ?_
    | with_reducible refine wf_same (patternScheduled_kept _ _ _ _).2.2.2 (patternScheduled_kept _ _ _ _).2.2.1 ?_
    | with_reducible apply plainAccess_wf
    | with_reducible apply storeLine_wf
    | with_reducible refine wf_same (windowDeliver_kept _ _ _ _ _).2.2.2 (windowDeliver_kept _ _ _ _ _).2.2.1 ?_
    | with_reducible apply h_count
    | with_reducible apply wf_foldl
    | with_reducible apply wf_iterate
    | with_reducible apply wf_ite_snd
    | split

theorem enterTarget_wf (x : Entering) (s : State) (hm : Memory.wf s = true) :
    Memory.wf (enterTarget x s) = true := by
  unfold enterTarget
  try dsimp only
  repeat' first
    | with_reducible assumption
    | with_reducible apply wf_done
    | with_reducible apply wf_doneFab
    | with_reducible apply wf_next
    | with_reducible refine wf_same (countPoolEcc_kept _ _).2.2.2 (countPoolEcc_kept _ _).2.2.1 ?_
    | with_reducible refine wf_same (openEntry_kept _ _).2.2.2 (openEntry_kept _ _).2.2.1 ?_
    | with_reducible apply performEntry_wf
    | with_reducible apply wf_foldl
    | with_reducible apply wf_iterate
    | with_reducible apply wf_ite_snd
    | split
    | intro _

theorem poolStep_wf (cycle : Nat) (s : State) (hm : Memory.wf s = true) :
    Memory.wf (poolStep cycle s) = true := by
  unfold poolStep
  try dsimp only
  repeat' first
    | with_reducible assumption
    | with_reducible apply wf_done
    | with_reducible apply wf_doneFab
    | with_reducible apply wf_next
    | with_reducible refine wf_same (countStoreEcc_kept _ _ _).2.2.2 (countStoreEcc_kept _ _ _).2.2.1 ?_
    | with_reducible apply performEntry_wf
    | with_reducible apply wf_foldl
    | with_reducible apply wf_iterate
    | with_reducible apply wf_ite_snd
    | split
    | intro _

theorem targetStep_wf (cycle : Nat) (s : State) (hm : Memory.wf s = true) :
    Memory.wf (targetStep cycle s) = true := by
  unfold targetStep
  try dsimp only
  repeat' first
    | with_reducible assumption
    | with_reducible apply wf_done
    | with_reducible apply wf_doneFab
    | with_reducible apply wf_next
    | with_reducible refine wf_same (countPoolEcc_kept _ _).2.2.2 (countPoolEcc_kept _ _).2.2.1 ?_
    | with_reducible apply performEntry_wf
    | with_reducible apply poolStep_wf
    | with_reducible apply wf_foldl
    | with_reducible apply wf_iterate
    | with_reducible apply wf_ite_snd
    | split
    | intro _

theorem patternRequest_wf (req : ReqId) (addr : Nat) (legal : Bool) (data : Option Nat) (s : State) (hm : Memory.wf s = true) :
    Memory.wf (patternRequest req addr legal data s) = true := by
  unfold patternRequest
  try dsimp only
  repeat' first
    | with_reducible assumption
    | with_reducible apply wf_done
    | with_reducible apply wf_doneFab
    | with_reducible apply wf_next
    | with_reducible apply enterTarget_wf

theorem execPatternLineRead_wf (req : ReqId) (addr : BitVec 48) (size : Nat) (s : State) (hm : Memory.wf s = true) :
    Memory.wf (after (execPatternLineRead req addr size s) s) = true := by
  unfold execPatternLineRead
  try dsimp only
  repeat' first
    | with_reducible assumption
    | with_reducible apply wf_done
    | with_reducible apply wf_doneFab
    | with_reducible apply wf_next
    | with_reducible apply patternRequest_wf

theorem execPatternLineWrite_wf (req : ReqId) (addr : BitVec 48) (data : List Byte) (s : State) (hm : Memory.wf s = true) :
    Memory.wf (after (execPatternLineWrite req addr data s) s) = true := by
  unfold execPatternLineWrite
  try dsimp only
  repeat' first
    | with_reducible assumption
    | with_reducible apply wf_done
    | with_reducible apply wf_doneFab
    | with_reducible apply wf_next
    | with_reducible apply patternRequest_wf

theorem deliverScheduled_wf (f : Flit) (s : State) (hm : Memory.wf s = true) :
    Memory.wf (deliverScheduled f s) = true := by
  unfold deliverScheduled
  try dsimp only
  repeat' first
    | with_reducible assumption
    | with_reducible apply wf_done
    | with_reducible apply wf_doneFab
    | with_reducible apply wf_next
    | with_reducible refine wf_same (bufferFlit_kept _ _ _).2.2.2 (bufferFlit_kept _ _ _).2.2.1 ?_
    | with_reducible refine wf_same (countCrc_kept _ _).2.2.2 (countCrc_kept _ _).2.2.1 ?_
    | with_reducible apply enterTarget_wf
    | with_reducible apply holdAccess_wf
    | with_reducible apply storeLine_wf
    | with_reducible apply wf_foldl
    | with_reducible apply wf_iterate
    | with_reducible apply wf_ite_snd
    | split

theorem deliverRequest_wf (q : ReqId) (f : Flit) (e : EccClass) (s : State) (hm : Memory.wf s = true) :
    Memory.wf (deliverRequest q f e s) = true := by
  unfold deliverRequest
  try dsimp only
  repeat' first
    | with_reducible assumption
    | with_reducible apply wf_done
    | with_reducible apply wf_doneFab
    | with_reducible apply wf_next
    | with_reducible refine wf_same (answer_kept _ _ _ _).2.2.2 (answer_kept _ _ _ _).2.2.1 ?_
    | with_reducible refine wf_same (answerStatus_kept _ _ _).2.2.2 (answerStatus_kept _ _ _).2.2.1 ?_
    | with_reducible refine wf_same (countCrc_kept _ _).2.2.2 (countCrc_kept _ _).2.2.1 ?_
    | with_reducible refine wf_same (countStoreEcc_kept _ _ _).2.2.2 (countStoreEcc_kept _ _ _).2.2.1 ?_
    | with_reducible refine wf_same (dramRequest_kept _ _ _).2.2.2 (dramRequest_kept _ _ _).2.2.1 ?_
    | with_reducible apply enterTarget_wf
    | with_reducible apply holdAccess_wf
    | with_reducible refine wf_same (moveFromNoc_kept _ _ _ _ _).2.2.2 (moveFromNoc_kept _ _ _ _ _).2.2.1 ?_
    | with_reducible refine wf_same (patternAccess_kept _ _ _ _ _ _).2.2.2 (patternAccess_kept _ _ _ _ _ _).2.2.1 ?_
    | with_reducible apply plainAccess_wf
    | with_reducible refine wf_same (toCarriage_kept _ _ _ _).2.2.2 (toCarriage_kept _ _ _ _).2.2.1 ?_
    | with_reducible apply wf_foldl
    | with_reducible apply wf_iterate
    | with_reducible apply wf_ite_snd
    | split

theorem deliver_wf (f : Flit) (stale : Bool) (e : EccClass) (s : State) (hm : Memory.wf s = true) :
    Memory.wf (deliver f stale e s) = true := by
  unfold deliver
  try dsimp only
  repeat' first
    | with_reducible assumption
    | with_reducible apply wf_done
    | with_reducible apply wf_doneFab
    | with_reducible apply wf_next
    | with_reducible apply deliverRequest_wf
    | with_reducible apply deliverScheduled_wf
    | with_reducible refine wf_same (lateResponse_kept _).2.2.2 (lateResponse_kept _).2.2.1 ?_
    | with_reducible apply takeResponse_wf
    | with_reducible apply wf_foldl
    | with_reducible apply wf_iterate
    | with_reducible apply wf_ite_snd
    | split

theorem sendOut_wf (r : Nat) (p : Nat) (out : Nat) (cycle : Nat) (f : Flit) (e : EccClass) (stale : Bool) (s : State)
    (hm : Memory.wf s = true) :
    Memory.wf (sendOut r p out cycle f e stale s) = true := by
  unfold sendOut
  try dsimp only
  repeat' first
    | with_reducible assumption
    | with_reducible apply wf_done
    | with_reducible apply wf_doneFab
    | with_reducible apply wf_next
    | with_reducible apply deliver_wf
    | with_reducible apply wf_foldl
    | with_reducible apply wf_iterate
    | with_reducible apply wf_ite_snd
    | split

theorem grantOutput_wf (r : Nat) (out : Nat) (cycle : Nat) (s : State) (hm : Memory.wf s = true) :
    Memory.wf (grantOutput r out cycle s) = true := by
  unfold grantOutput
  try dsimp only
  repeat' first
    | with_reducible assumption
    | with_reducible apply wf_done
    | with_reducible apply wf_doneFab
    | with_reducible apply wf_next
    | with_reducible refine wf_same (noteGrant_kept _ _ _ _).2.2.2 (noteGrant_kept _ _ _ _).2.2.1 ?_
    | with_reducible apply sendOut_wf
    | with_reducible apply wf_foldl
    | with_reducible apply wf_iterate
    | with_reducible apply wf_ite_snd
    | split

theorem bestEffort_wf (r : Nat) (p : Nat) (out : Nat) (j : Nat) (f : Flit) (e : EccClass) (stale : Bool) (s : State)
    (hm : Memory.wf s = true) :
    Memory.wf (bestEffort r p out j f e stale s) = true := by
  unfold bestEffort
  try dsimp only
  repeat' first
    | with_reducible assumption
    | with_reducible apply wf_done
    | with_reducible apply wf_doneFab
    | with_reducible apply wf_next
    | with_reducible apply grantOutput_wf
    | with_reducible apply wf_foldl
    | with_reducible apply wf_iterate
    | with_reducible apply wf_ite_snd
    | split

theorem scheduled_wf (r : Nat) (p : Nat) (out : Nat) (j : Nat) (f : Flit) (e : EccClass) (s : State) (hm : Memory.wf s = true) :
    Memory.wf (scheduled r p out j f e s) = true := by
  unfold scheduled
  try dsimp only
  repeat' first
    | with_reducible assumption
    | with_reducible apply wf_done
    | with_reducible apply wf_doneFab
    | with_reducible apply wf_next
    | with_reducible apply bestEffort_wf
    | with_reducible refine wf_same (noteGrant_kept _ _ _ _).2.2.2 (noteGrant_kept _ _ _ _).2.2.1 ?_
    | with_reducible apply sendOut_wf
    | with_reducible refine wf_same (slotMiss_kept _ _ _ _).2.2.2 (slotMiss_kept _ _ _ _).2.2.1 ?_
    | with_reducible apply wf_foldl
    | with_reducible apply wf_iterate
    | with_reducible apply wf_ite_snd
    | split

theorem routeFlit_wf (r : Nat) (p : Nat) (j : Nat) (f : Flit) (e : EccClass) (stale : Bool) (s : State)
    (hm : Memory.wf s = true) :
    Memory.wf (routeFlit r p j f e stale s) = true := by
  unfold routeFlit
  try dsimp only
  repeat' first
    | with_reducible assumption
    | with_reducible apply wf_done
    | with_reducible apply wf_doneFab
    | with_reducible apply wf_next
    | with_reducible apply bestEffort_wf
    | with_reducible apply scheduled_wf
    | with_reducible apply wf_foldl
    | with_reducible apply wf_iterate
    | with_reducible apply wf_ite_snd
    | split

theorem enterMesh_wf (r : Nat) (p : Nat) (j : Nat) (f : Flit) (e : EccClass) (s : State) (hm : Memory.wf s = true) :
    Memory.wf (enterMesh r p j f e s) = true := by
  unfold enterMesh
  try dsimp only
  repeat' first
    | with_reducible assumption
    | with_reducible apply wf_done
    | with_reducible apply wf_doneFab
    | with_reducible apply wf_next
    | with_reducible refine wf_same (answerStatus_kept _ _ _).2.2.2 (answerStatus_kept _ _ _).2.2.1 ?_
    | with_reducible refine wf_same (openTxn_kept _ _ _ _).2.2.2 (openTxn_kept _ _ _ _).2.2.1 ?_
    | with_reducible refine wf_same (patternAccess_kept _ _ _ _ _ _).2.2.2 (patternAccess_kept _ _ _ _ _ _).2.2.1 ?_
    | with_reducible apply routeFlit_wf
    | with_reducible apply wf_foldl
    | with_reducible apply wf_iterate
    | with_reducible apply wf_ite_snd
    | split

theorem enterResponse_wf (r : Nat) (p : Nat) (j : Nat) (f : Flit) (e : EccClass) (s : State) (hm : Memory.wf s = true) :
    Memory.wf (enterResponse r p j f e s) = true := by
  unfold enterResponse
  try dsimp only
  repeat' first
    | with_reducible assumption
    | with_reducible apply wf_done
    | with_reducible apply wf_doneFab
    | with_reducible apply wf_next
    | with_reducible apply routeFlit_wf
    | with_reducible apply wf_foldl
    | with_reducible apply wf_iterate
    | with_reducible apply wf_ite_snd
    | split

theorem acceptFlit_wf (r : Nat) (p : Nat) (j : Nat) (f : Flit) (e : EccClass) (stale : Bool) (s : State)
    (hm : Memory.wf s = true) :
    Memory.wf (acceptFlit r p j f e stale s) = true := by
  unfold acceptFlit
  try dsimp only
  repeat' first
    | with_reducible assumption
    | with_reducible apply wf_done
    | with_reducible apply wf_doneFab
    | with_reducible apply wf_next
    | with_reducible apply enterMesh_wf
    | with_reducible apply enterResponse_wf
    | with_reducible refine wf_same (raise_kept _ _).2.2.2 (raise_kept _ _).2.2.1 ?_
    | with_reducible apply routeFlit_wf
    | with_reducible apply wf_foldl
    | with_reducible apply wf_iterate
    | with_reducible apply wf_ite_snd
    | split

theorem flightChecked_wf (x : RouterFlit) (j : Nat) (err : FlitErr) (target : EccClass) (s : State) (hm : Memory.wf s = true) :
    Memory.wf (flightChecked x j err target s) = true := by
  unfold flightChecked
  try dsimp only
  repeat' first
    | with_reducible assumption
    | with_reducible apply wf_done
    | with_reducible apply wf_doneFab
    | with_reducible apply wf_next
    | with_reducible apply acceptFlit_wf
    | with_reducible refine wf_same (checkFlit_kept _ _ _ _ _ _).2.2.2 (checkFlit_kept _ _ _ _ _ _).2.2.1 ?_
    | with_reducible apply wf_foldl
    | with_reducible apply wf_iterate
    | with_reducible apply wf_ite_snd
    | split

theorem execRouterFlitIn_wf (router : Fin 64) (port : Fin 16) (flit : Flit) (slot : Fin 64) (err : FlitErr)
    (target : EccClass) (s : State) (hm : Memory.wf s = true) :
    Memory.wf (after (execRouterFlitIn router port flit slot err target s) s) = true := by
  unfold execRouterFlitIn
  try dsimp only
  repeat' first
    | with_reducible assumption
    | with_reducible apply wf_done
    | with_reducible apply wf_doneFab
    | with_reducible apply wf_next
    | with_reducible apply acceptFlit_wf
    | with_reducible refine wf_same (checkFlit_kept _ _ _ _ _ _).2.2.2 (checkFlit_kept _ _ _ _ _ _).2.2.1 ?_
    | with_reducible apply flightChecked_wf
    | with_reducible apply wf_foldl
    | with_reducible apply wf_iterate
    | with_reducible apply wf_ite_snd
    | split

theorem flightEnds_wf (cycle : Nat) (x : RouterFlit) (s : State) (hm : Memory.wf s = true) :
    Memory.wf (flightEnds cycle x s) = true := by
  unfold flightEnds
  try dsimp only
  repeat' first
    | with_reducible assumption
    | with_reducible apply wf_done
    | with_reducible apply wf_doneFab
    | with_reducible apply wf_next
    | with_reducible apply acceptFlit_wf
    | with_reducible apply deliver_wf
    | with_reducible apply wf_foldl
    | with_reducible apply wf_iterate
    | with_reducible apply wf_ite_snd
    | split

theorem flightsStep_wf (cycle : Nat) (s : State) (hm : Memory.wf s = true) :
    Memory.wf (flightsStep cycle s) = true := by
  unfold flightsStep
  try dsimp only
  repeat' first
    | with_reducible assumption
    | with_reducible apply wf_done
    | with_reducible apply wf_doneFab
    | with_reducible apply wf_next
    | with_reducible apply flightEnds_wf
    | with_reducible apply wf_foldl
    | with_reducible apply wf_iterate
    | with_reducible apply wf_ite_snd
    | split
    | intro _

theorem nocGrants_wf (cycle : Nat) (s0 : State) (hm : Memory.wf s0 = true) :
    Memory.wf (nocGrants cycle s0) = true := by
  unfold nocGrants
  try dsimp only
  repeat' first
    | with_reducible assumption
    | with_reducible apply wf_done
    | with_reducible apply wf_doneFab
    | with_reducible apply wf_next
    | with_reducible refine wf_same (crossingsStep_kept _).2.2.2 (crossingsStep_kept _).2.2.1 ?_
    | with_reducible apply flightsStep_wf
    | with_reducible apply grantOutput_wf
    | with_reducible apply targetStep_wf
    | with_reducible apply wf_foldl
    | with_reducible apply wf_iterate
    | with_reducible apply wf_ite_snd
    | split
    | intro _

theorem endEarly_wf (r : ReqId) (st : Status) (s : State) (hm : Memory.wf s = true) :
    Memory.wf (endEarly r st s) = true := by
  unfold endEarly
  try dsimp only
  repeat' first
    | with_reducible assumption
    | with_reducible apply wf_done
    | with_reducible apply wf_doneFab
    | with_reducible apply wf_next
    | with_reducible apply endTxn_wf
    | with_reducible refine wf_same (forgetTxn_kept _ _).2.2.2 (forgetTxn_kept _ _).2.2.1 ?_

theorem execNocTimeout_wf (req : ReqId) (s : State) (hm : Memory.wf s = true) :
    Memory.wf (after (execNocTimeout req s) s) = true := by
  unfold execNocTimeout
  try dsimp only
  repeat' first
    | with_reducible assumption
    | with_reducible apply wf_done
    | with_reducible apply wf_doneFab
    | with_reducible apply wf_next
    | with_reducible apply endEarly_wf
    | with_reducible refine wf_same (raise_kept _ _).2.2.2 (raise_kept _ _).2.2.1 ?_
    | with_reducible apply wf_foldl
    | with_reducible apply wf_iterate
    | with_reducible apply wf_ite_snd
    | split

theorem coldBase_wf (s : State) (_hm : Memory.wf s = true) :
    Memory.wf (coldBase s) = true := by
  exact wf_empty rfl

theorem holdReset_wf (lost : Bool) (s : State) (hm : Memory.wf s = true) :
    Memory.wf (holdReset lost s) = true := by
  unfold holdReset
  try dsimp only
  repeat' first
    | with_reducible assumption
    | with_reducible apply wf_done
    | with_reducible apply wf_doneFab
    | with_reducible apply wf_next
    | with_reducible apply coldBase_wf

theorem coldReset_wf (cause : Nat) (multi : Bool) (role : Bool) (path : Nat) (s : State) (hm : Memory.wf s = true) :
    Memory.wf (coldReset cause multi role path s) = true := by
  unfold coldReset
  try dsimp only
  repeat' first
    | with_reducible assumption
    | with_reducible apply wf_done
    | with_reducible apply wf_doneFab
    | with_reducible apply wf_next
    | with_reducible apply coldBase_wf
    | with_reducible refine wf_same (coldLoad_kept _ _ _).2.2.2 (coldLoad_kept _ _ _).2.2.1 ?_
    | with_reducible apply holdReset_wf
    | with_reducible refine wf_same (logReset_kept _ _ _ _ _).2.2.2 (logReset_kept _ _ _ _ _).2.2.1 ?_
    | with_reducible apply wf_foldl
    | with_reducible apply wf_iterate
    | with_reducible apply wf_ite_snd
    | split

theorem warmBase_wf (s : State) (_hm : Memory.wf s = true) :
    Memory.wf (warmBase s) = true := by
  exact wf_empty rfl

theorem warmReset_wf (cause : Nat) (multi : Bool) (path : Nat) (s : State) (hm : Memory.wf s = true) :
    Memory.wf (warmReset cause multi path s) = true := by
  unfold warmReset
  try dsimp only
  repeat' first
    | with_reducible assumption
    | with_reducible apply wf_done
    | with_reducible apply wf_doneFab
    | with_reducible apply wf_next
    | with_reducible refine wf_same (State.setObj_kept _ _ _ _).2.2.2 (State.setObj_kept _ _ _ _).2.2.1 ?_
    | with_reducible refine wf_same (autostartDefault_kept _).2.2.2 (autostartDefault_kept _).2.2.1 ?_
    | with_reducible refine wf_same (fenceWorkers_kept _).2.2.2 (fenceWorkers_kept _).2.2.1 ?_
    | with_reducible refine wf_same (logReset_kept _ _ _ _ _).2.2.2 (logReset_kept _ _ _ _ _).2.2.1 ?_
    | with_reducible refine wf_same (settleArchive_kept _).2.2.2 (settleArchive_kept _).2.2.1 ?_
    | with_reducible refine wf_same (updateFrozen_kept _).2.2.2 (updateFrozen_kept _).2.2.1 ?_
    | with_reducible apply warmBase_wf
    | with_reducible apply wf_foldl
    | with_reducible apply wf_iterate
    | with_reducible apply wf_ite_snd
    | split

theorem resetSource_wf (cause : Nat) (warm : Bool) (multi : Bool) (role : Bool) (path : Nat) (s : State)
    (hm : Memory.wf s = true) :
    Memory.wf (resetSource cause warm multi role path s) = true := by
  unfold resetSource
  try dsimp only
  repeat' first
    | with_reducible assumption
    | with_reducible apply wf_done
    | with_reducible apply wf_doneFab
    | with_reducible apply wf_next
    | with_reducible apply coldReset_wf
    | with_reducible refine wf_same (raise_kept _ _).2.2.2 (raise_kept _ _).2.2.1 ?_
    | with_reducible apply warmReset_wf
    | with_reducible apply wf_foldl
    | with_reducible apply wf_iterate
    | with_reducible apply wf_ite_snd
    | split

theorem endWindows_wf (w : Nat) (s : State) (hm : Memory.wf s = true) :
    Memory.wf (endWindows w s) = true := by
  unfold endWindows
  try dsimp only
  repeat' first
    | with_reducible assumption
    | with_reducible apply wf_done
    | with_reducible apply wf_doneFab
    | with_reducible apply wf_next
    | with_reducible refine wf_same (State.setGroup_kept _ _ _).2.2.2 (State.setGroup_kept _ _ _).2.2.1 ?_
    | with_reducible apply endEarly_wf
    | with_reducible apply wf_foldl
    | with_reducible apply wf_iterate
    | with_reducible apply wf_ite_snd
    | split
    | intro _

theorem workerDark_wf (w : Nat) (s : State) (hm : Memory.wf s = true) :
    Memory.wf (workerDark w s) = true := by
  unfold workerDark
  try dsimp only
  repeat' first
    | with_reducible assumption
    | with_reducible apply wf_done
    | with_reducible apply wf_doneFab
    | with_reducible apply wf_next
    | with_reducible refine wf_same (State.setWorker_kept _ _ _).2.2.2 (State.setWorker_kept _ _ _).2.2.1 ?_
    | with_reducible refine wf_same (deviceFenceOn_kept _ _).2.2.2 (deviceFenceOn_kept _ _).2.2.1 ?_
    | with_reducible refine wf_same (emcyPush_kept _ _).2.2.2 (emcyPush_kept _ _).2.2.1 ?_
    | with_reducible apply endWindows_wf
    | with_reducible refine wf_same (raise_kept _ _).2.2.2 (raise_kept _ _).2.2.1 ?_
    | with_reducible refine wf_same (relayAbortWith_kept _ _ _).2.2.2 (relayAbortWith_kept _ _ _).2.2.1 ?_
    | with_reducible apply wf_foldl
    | with_reducible apply wf_iterate
    | with_reducible apply wf_ite_snd
    | split

theorem managerLost_wf (w : Nat) (left : Bool) (s : State) (hm : Memory.wf s = true) :
    Memory.wf (managerLost w left s) = true := by
  unfold managerLost
  try dsimp only
  repeat' first
    | with_reducible assumption
    | with_reducible apply wf_done
    | with_reducible apply wf_doneFab
    | with_reducible apply wf_next
    | with_reducible refine wf_same (State.setWorker_kept _ _ _).2.2.2 (State.setWorker_kept _ _ _).2.2.1 ?_
    | with_reducible refine wf_same (raise_kept _ _).2.2.2 (raise_kept _ _).2.2.1 ?_
    | with_reducible apply workerDark_wf
    | with_reducible apply wf_foldl
    | with_reducible apply wf_iterate
    | with_reducible apply wf_ite_snd
    | split

theorem linkLost_wf (g : Nat) (s : State) (hm : Memory.wf s = true) :
    Memory.wf (linkLost g s) = true := by
  unfold linkLost
  try dsimp only
  repeat' first
    | with_reducible assumption
    | with_reducible apply wf_done
    | with_reducible apply wf_doneFab
    | with_reducible apply wf_next
    | with_reducible refine wf_same (State.setGroup_kept _ _ _).2.2.2 (State.setGroup_kept _ _ _).2.2.1 ?_
    | with_reducible apply managerLost_wf
    | with_reducible refine wf_same (workerLost_kept _ _).2.2.2 (workerLost_kept _ _).2.2.1 ?_
    | with_reducible apply wf_foldl
    | with_reducible apply wf_iterate
    | with_reducible apply wf_ite_snd
    | split

theorem toLost_wf (g : Nat) (cause : Nat) (s : State) (hm : Memory.wf s = true) :
    Memory.wf (toLost g cause s) = true := by
  unfold toLost
  try dsimp only
  repeat' first
    | with_reducible assumption
    | with_reducible apply wf_done
    | with_reducible apply wf_doneFab
    | with_reducible apply wf_next
    | with_reducible refine wf_same (enterRx_kept _ _ _).2.2.2 (enterRx_kept _ _ _).2.2.1 ?_
    | with_reducible refine wf_same (groupCause_kept _ _ _).2.2.2 (groupCause_kept _ _ _).2.2.1 ?_
    | with_reducible apply linkLost_wf

theorem judgeLoss_wf (g : Nat) (s : State) (hm : Memory.wf s = true) :
    Memory.wf (judgeLoss g s) = true := by
  unfold judgeLoss
  try dsimp only
  repeat' first
    | with_reducible assumption
    | with_reducible apply wf_done
    | with_reducible apply wf_doneFab
    | with_reducible apply wf_next
    | with_reducible apply toLost_wf
    | with_reducible apply wf_foldl
    | with_reducible apply wf_iterate
    | with_reducible apply wf_ite_snd
    | split

theorem groupEndBeat_wf (g : Nat) (s : State) (hm : Memory.wf s = true) :
    Memory.wf (groupEndBeat g s) = true := by
  unfold groupEndBeat
  try dsimp only
  repeat' first
    | with_reducible assumption
    | with_reducible apply wf_done
    | with_reducible apply wf_doneFab
    | with_reducible apply wf_next
    | with_reducible refine wf_same (State.setGroup_kept _ _ _).2.2.2 (State.setGroup_kept _ _ _).2.2.1 ?_
    | with_reducible refine wf_same (State.setLane_kept _ _ _).2.2.2 (State.setLane_kept _ _ _).2.2.1 ?_
    | with_reducible apply judgeLoss_wf
    | with_reducible refine wf_same (missingFrames_kept _ _).2.2.2 (missingFrames_kept _ _).2.2.1 ?_
    | with_reducible apply wf_foldl
    | with_reducible apply wf_iterate
    | with_reducible apply wf_ite_snd
    | split
    | intro _

theorem writeRecords_wf (s : State) (hm : Memory.wf s = true) :
    Memory.wf (writeRecords s) = true := by
  unfold writeRecords
  try dsimp only
  repeat' first
    | with_reducible assumption
    | with_reducible apply wf_done
    | with_reducible apply wf_doneFab
    | with_reducible apply wf_next
    | with_reducible apply captureRecord_wf
    | with_reducible apply wf_foldl
    | with_reducible apply wf_iterate
    | with_reducible apply wf_ite_snd
    | split
    | intro _

theorem lanesEndBeat_wf (s : State) (hm : Memory.wf s = true) :
    Memory.wf (lanesEndBeat s) = true := by
  unfold lanesEndBeat
  try dsimp only
  repeat' first
    | with_reducible assumption
    | with_reducible apply wf_done
    | with_reducible apply wf_doneFab
    | with_reducible apply wf_next
    | with_reducible apply groupEndBeat_wf
    | with_reducible apply writeRecords_wf
    | with_reducible apply wf_foldl
    | with_reducible apply wf_iterate
    | with_reducible apply wf_ite_snd
    | split
    | intro _

theorem execLaneShallowTimeout_wf (g : Fin 32) (s : State) (hm : Memory.wf s = true) :
    Memory.wf (after (execLaneShallowTimeout g s) s) = true := by
  unfold execLaneShallowTimeout
  try dsimp only
  repeat' first
    | with_reducible assumption
    | with_reducible apply wf_done
    | with_reducible apply wf_doneFab
    | with_reducible apply wf_next
    | with_reducible apply toLost_wf
    | with_reducible apply wf_foldl
    | with_reducible apply wf_iterate
    | with_reducible apply wf_ite_snd
    | split

theorem applyLaneSettings_wf (g : Nat) (oldMode : Nat) (oldNui : Nat) (oldEnable : Nat) (s : State) (hm : Memory.wf s = true) :
    Memory.wf (applyLaneSettings g oldMode oldNui oldEnable s) = true := by
  unfold applyLaneSettings
  try dsimp only
  repeat' first
    | with_reducible assumption
    | with_reducible apply wf_done
    | with_reducible apply wf_doneFab
    | with_reducible apply wf_next
    | with_reducible refine wf_same (State.setGroup_kept _ _ _).2.2.2 (State.setGroup_kept _ _ _).2.2.1 ?_
    | with_reducible refine wf_same (State.setUnit_kept _ _ _).2.2.2 (State.setUnit_kept _ _ _).2.2.1 ?_
    | with_reducible apply captureRecord_wf
    | with_reducible refine wf_same (clearLanes_kept _ _).2.2.2 (clearLanes_kept _ _).2.2.1 ?_
    | with_reducible refine wf_same (dropLoops_kept _ _).2.2.2 (dropLoops_kept _ _).2.2.1 ?_
    | with_reducible refine wf_same (toDeep_kept _ _).2.2.2 (toDeep_kept _ _).2.2.1 ?_
    | with_reducible apply wf_foldl
    | with_reducible apply wf_iterate
    | with_reducible apply wf_ite_snd
    | split
    | intro _

theorem sendRecord_wf (t : Txn) (s : State) (hm : Memory.wf s = true) :
    Memory.wf (sendRecord t s).2 = true := by
  unfold sendRecord
  try dsimp only
  repeat' first
    | with_reducible assumption
    | with_reducible apply wf_done
    | with_reducible apply wf_doneFab
    | with_reducible apply wf_next
    | with_reducible refine wf_same (closeTxn_kept _ _).2.2.2 (closeTxn_kept _ _).2.2.1 ?_
    | with_reducible apply holdRequest_wf
    | with_reducible apply wf_foldl
    | with_reducible apply wf_iterate
    | with_reducible apply wf_ite_snd
    | split

theorem takeScanWrite_wf (g : Fin 32) (status : Status) (s : State) (hm : Memory.wf s = true) :
    Memory.wf (takeScanWrite g status s).2 = true := by
  unfold takeScanWrite
  try dsimp only
  repeat' first
    | with_reducible assumption
    | with_reducible apply wf_done
    | with_reducible apply wf_doneFab
    | with_reducible apply wf_next
    | with_reducible refine wf_same (State.setGroup_kept _ _ _).2.2.2 (State.setGroup_kept _ _ _).2.2.1 ?_
    | with_reducible refine wf_same (closeTxn_kept _ _).2.2.2 (closeTxn_kept _ _).2.2.1 ?_
    | with_reducible apply sendRecord_wf
    | with_reducible apply wf_foldl
    | with_reducible apply wf_iterate
    | with_reducible apply wf_ite_snd
    | split

theorem execEyeScanRecordWriteDone_wf (g : Fin 32) (status : Status) (s : State) (hm : Memory.wf s = true) :
    Memory.wf (after (execEyeScanRecordWriteDone g status s) s) = true := by
  unfold execEyeScanRecordWriteDone
  try dsimp only
  repeat' first
    | with_reducible assumption
    | with_reducible apply wf_done
    | with_reducible apply wf_doneFab
    | with_reducible apply wf_next
    | with_reducible refine wf_same (scanWriteEnded_kept _ _ _).2.2.2 (scanWriteEnded_kept _ _ _).2.2.1 ?_
    | with_reducible apply takeScanWrite_wf
    | with_reducible apply wf_foldl
    | with_reducible apply wf_iterate
    | with_reducible apply wf_ite_snd
    | split

theorem carriageAccept_wf (g : Fin 32) (f : Flit) (s : State) (hm : Memory.wf s = true) :
    Memory.wf (carriageAccept g f s) = true := by
  unfold carriageAccept
  try dsimp only
  repeat' first
    | with_reducible assumption
    | with_reducible apply wf_done
    | with_reducible apply wf_doneFab
    | with_reducible apply wf_next
    | with_reducible apply acceptFlit_wf
    | with_reducible refine wf_same (keepHeader_kept _ _ _).2.2.2 (keepHeader_kept _ _ _).2.2.1 ?_
    | with_reducible refine wf_same (workerAnswers_kept _ _ _).2.2.2 (workerAnswers_kept _ _ _).2.2.1 ?_
    | with_reducible apply wf_foldl
    | with_reducible apply wf_iterate
    | with_reducible apply wf_ite_snd
    | split

theorem execCarriageFlitReceived_wf (g : Fin 32) (err : FlitErr) (s : State) (hm : Memory.wf s = true) :
    Memory.wf (after (execCarriageFlitReceived g err s) s) = true := by
  unfold execCarriageFlitReceived
  try dsimp only
  repeat' first
    | with_reducible assumption
    | with_reducible apply wf_done
    | with_reducible apply wf_doneFab
    | with_reducible apply wf_next
    | with_reducible refine wf_same (State.setGroup_kept _ _ _).2.2.2 (State.setGroup_kept _ _ _).2.2.1 ?_
    | with_reducible apply carriageAccept_wf
    | with_reducible refine wf_same (carriageCorrected_kept _ _).2.2.2 (carriageCorrected_kept _ _).2.2.1 ?_
    | with_reducible apply wf_foldl
    | with_reducible apply wf_iterate
    | with_reducible apply wf_ite_snd
    | split

theorem dropFlit_wf (f : Flit) (s : State) (hm : Memory.wf s = true) :
    Memory.wf (dropFlit f s) = true := by
  unfold dropFlit
  try dsimp only
  repeat' first
    | with_reducible assumption
    | with_reducible apply wf_done
    | with_reducible apply wf_doneFab
    | with_reducible apply wf_next
    | with_reducible apply endTxn_wf
    | with_reducible apply wf_foldl
    | with_reducible apply wf_iterate
    | with_reducible apply wf_ite_snd
    | split

theorem execCarriageResendTimeout_wf (g : Fin 32) (s : State) (hm : Memory.wf s = true) :
    Memory.wf (after (execCarriageResendTimeout g s) s) = true := by
  unfold execCarriageResendTimeout
  try dsimp only
  repeat' first
    | with_reducible assumption
    | with_reducible apply wf_done
    | with_reducible apply wf_doneFab
    | with_reducible apply wf_next
    | with_reducible refine wf_same (State.setGroup_kept _ _ _).2.2.2 (State.setGroup_kept _ _ _).2.2.1 ?_
    | with_reducible apply dropFlit_wf
    | with_reducible refine wf_same (raise_kept _ _).2.2.2 (raise_kept _ _).2.2.1 ?_
    | with_reducible apply wf_foldl
    | with_reducible apply wf_iterate
    | with_reducible apply wf_ite_snd
    | split

theorem execRemoteResetCommand_wf (multi : Bool) (s : State) (hm : Memory.wf s = true) :
    Memory.wf (after (execRemoteResetCommand multi s) s) = true := by
  unfold execRemoteResetCommand
  try dsimp only
  repeat' first
    | with_reducible assumption
    | with_reducible apply wf_done
    | with_reducible apply wf_doneFab
    | with_reducible apply wf_next
    | with_reducible refine wf_same (raise_kept _ _).2.2.2 (raise_kept _ _).2.2.1 ?_
    | with_reducible apply resetSource_wf
    | with_reducible apply wf_foldl
    | with_reducible apply wf_iterate
    | with_reducible apply wf_ite_snd
    | split

theorem holdPort_wf (ecc : List PortEcc) (sinks : Nat) (st : Nat) (h : Nat) (s : State) (hm : Memory.wf s = true) :
    Memory.wf (holdPort ecc sinks st h s) = true := by
  unfold holdPort
  try dsimp only
  repeat' first
    | with_reducible assumption
    | with_reducible apply wf_done
    | with_reducible apply wf_doneFab
    | with_reducible apply wf_next
    | with_reducible refine wf_same (State.setStation_kept _ _ _).2.2.2 (State.setStation_kept _ _ _).2.2.1 ?_
    | with_reducible apply stationAccess_wf
    | with_reducible apply wf_foldl
    | with_reducible apply wf_iterate
    | with_reducible apply wf_ite_snd
    | split

theorem holdPorts_wf (ecc : List PortEcc) (sinks : Nat) (st : Nat) (s : State) (hm : Memory.wf s = true) :
    Memory.wf (holdPorts ecc sinks st s) = true := by
  unfold holdPorts
  try dsimp only
  repeat' first
    | with_reducible assumption
    | with_reducible apply wf_done
    | with_reducible apply wf_doneFab
    | with_reducible apply wf_next
    | with_reducible apply holdPort_wf
    | with_reducible apply wf_foldl
    | with_reducible apply wf_iterate
    | with_reducible apply wf_ite_snd
    | split
    | intro _

theorem stationAsks_wf (ecc : List PortEcc) (st : Nat) (s : State) (hm : Memory.wf s = true) :
    Memory.wf (stationAsks ecc st s) = true := by
  unfold stationAsks
  try dsimp only
  repeat' first
    | with_reducible assumption
    | with_reducible apply wf_done
    | with_reducible apply wf_doneFab
    | with_reducible apply wf_next
    | with_reducible apply holdPorts_wf
    | with_reducible refine wf_same (laneTake_kept _ _ _ _).2.2.2 (laneTake_kept _ _ _ _).2.2.1 ?_
    | with_reducible refine wf_same (searchStep_kept _ _ _).2.2.2 (searchStep_kept _ _ _).2.2.1 ?_
    | with_reducible refine wf_same (ssuStep_kept _ _ _).2.2.2 (ssuStep_kept _ _ _).2.2.1 ?_

theorem unitCycles_wf (s0 : State) (s : State) (hm : Memory.wf s = true) :
    Memory.wf (unitCycles s0 s) = true := by
  unfold unitCycles
  try dsimp only
  repeat' first
    | with_reducible assumption
    | with_reducible apply wf_done
    | with_reducible apply wf_doneFab
    | with_reducible apply wf_next
    | with_reducible apply unitCycle_wf
    | with_reducible apply wf_foldl
    | with_reducible apply wf_iterate
    | with_reducible apply wf_ite_snd
    | split
    | intro _

theorem fabricCycle_wf (ecc : List PortEcc) (s : State) (hm : Memory.wf s = true) :
    Memory.wf (fabricCycle ecc s) = true := by
  unfold fabricCycle
  try dsimp only
  repeat' first
    | with_reducible assumption
    | with_reducible apply wf_done
    | with_reducible apply wf_doneFab
    | with_reducible apply wf_next
    | with_reducible refine wf_same (flashStep_kept _).2.2.2 (flashStep_kept _).2.2.1 ?_
    | with_reducible refine wf_same (probeLog_kept _).2.2.2 (probeLog_kept _).2.2.1 ?_
    | with_reducible refine wf_same (probeStep_kept _).2.2.2 (probeStep_kept _).2.2.1 ?_
    | with_reducible refine wf_same (snapshots_kept _).2.2.2 (snapshots_kept _).2.2.1 ?_
    | with_reducible apply stationAsks_wf
    | with_reducible refine wf_same (stationEnd_kept _ _ _).2.2.2 (stationEnd_kept _ _ _).2.2.1 ?_
    | with_reducible apply unitCycles_wf
    | with_reducible apply wf_foldl
    | with_reducible apply wf_iterate
    | with_reducible apply wf_ite_snd
    | split
    | intro _

theorem nocCycles_wf (s : State) (hm : Memory.wf s = true) :
    Memory.wf (nocCycles s) = true := by
  unfold nocCycles
  try dsimp only
  repeat' first
    | with_reducible assumption
    | with_reducible apply wf_done
    | with_reducible apply wf_doneFab
    | with_reducible apply wf_next
    | with_reducible apply guardStep_wf
    | with_reducible apply nocGrants_wf

theorem execFabCycle_wf (ecc : List PortEcc) (early : List EarlyPair) (pins : BitVec 96) (floating : BitVec 96) (s : State)
    (hm : Memory.wf s = true) :
    Memory.wf (after (execFabCycle ecc early pins floating s) s) = true := by
  unfold execFabCycle
  try dsimp only
  repeat' first
    | with_reducible assumption
    | with_reducible apply wf_done
    | with_reducible apply wf_doneFab
    | with_reducible apply wf_next
    | with_reducible refine wf_same (deferRaises_kept _).2.2.2 (deferRaises_kept _).2.2.1 ?_
    | with_reducible refine wf_same (drivePins_kept _).2.2.2 (drivePins_kept _).2.2.1 ?_
    | with_reducible refine wf_same (dropShown_kept _).2.2.2 (dropShown_kept _).2.2.1 ?_
    | with_reducible apply fabricCycle_wf
    | with_reducible refine wf_same (lanesStep_kept _).2.2.2 (lanesStep_kept _).2.2.1 ?_
    | with_reducible apply nocCycles_wf
    | with_reducible refine wf_same (pinsCycle_kept _ _ _).2.2.2 (pinsCycle_kept _ _ _).2.2.1 ?_
    | with_reducible refine wf_same (probeShift_kept _).2.2.2 (probeShift_kept _).2.2.1 ?_
    | with_reducible refine wf_same (settle_kept _).2.2.2 (settle_kept _).2.2.1 ?_
    | with_reducible refine wf_same (takeRaises_kept _).2.2.2 (takeRaises_kept _).2.2.1 ?_
    | with_reducible apply wf_foldl
    | with_reducible apply wf_iterate
    | with_reducible apply wf_ite_snd
    | split

theorem startWipe_wf (s : State) (hm : Memory.wf s = true) :
    Memory.wf (startWipe s) = true := by
  exact Tbl.wf_filter _ _ _ hm

theorem respondAll_wf (s : State) (hm : Memory.wf s = true) :
    Memory.wf (respondAll s) = true := by
  unfold respondAll
  try dsimp only
  repeat' first
    | with_reducible assumption
    | with_reducible apply wf_done
    | with_reducible apply wf_doneFab
    | with_reducible apply wf_next
    | with_reducible refine wf_same (abandonReport_kept _).2.2.2 (abandonReport_kept _).2.2.1 ?_
    | with_reducible refine wf_same (respondChannel_kept _ _).2.2.2 (respondChannel_kept _ _).2.2.1 ?_
    | with_reducible apply startWipe_wf
    | with_reducible refine wf_same (zeroLinkKeys_kept _).2.2.2 (zeroLinkKeys_kept _).2.2.1 ?_
    | with_reducible apply wf_foldl
    | with_reducible apply wf_iterate
    | with_reducible apply wf_ite_snd
    | split
    | intro _

theorem securityResponse_wf (bits : Nat) (s : State) (hm : Memory.wf s = true) :
    Memory.wf (securityResponse bits s) = true := by
  unfold securityResponse
  try dsimp only
  repeat' first
    | with_reducible assumption
    | with_reducible apply wf_done
    | with_reducible apply wf_doneFab
    | with_reducible apply wf_next
    | with_reducible refine wf_same (alarm_kept _ _).2.2.2 (alarm_kept _ _).2.2.1 ?_
    | with_reducible apply respondAll_wf

theorem execTamperLatch_wf (pin : Fin 2) (s : State) (hm : Memory.wf s = true) :
    Memory.wf (after (execTamperLatch pin s) s) = true := by
  unfold execTamperLatch
  try dsimp only
  repeat' first
    | with_reducible assumption
    | with_reducible apply wf_done
    | with_reducible apply wf_doneFab
    | with_reducible apply wf_next
    | with_reducible apply securityResponse_wf
    | with_reducible apply wf_foldl
    | with_reducible apply wf_iterate
    | with_reducible apply wf_ite_snd
    | split

theorem execGlitchDetected_wf (voltage : Bool) (s : State) (hm : Memory.wf s = true) :
    Memory.wf (after (execGlitchDetected voltage s) s) = true := by
  unfold execGlitchDetected
  try dsimp only
  repeat' first
    | with_reducible assumption
    | with_reducible apply wf_done
    | with_reducible apply wf_doneFab
    | with_reducible apply wf_next
    | with_reducible apply securityResponse_wf
    | with_reducible apply wf_foldl
    | with_reducible apply wf_iterate
    | with_reducible apply wf_ite_snd
    | split

theorem lcAccept_wf (data : List Byte) (s : State) (hm : Memory.wf s = true) :
    Memory.wf (lcAccept data s) = true := by
  unfold lcAccept
  try dsimp only
  repeat' first
    | with_reducible assumption
    | with_reducible apply wf_done
    | with_reducible apply wf_doneFab
    | with_reducible apply wf_next
    | with_reducible apply startWipe_wf
    | with_reducible refine wf_same (zeroDramKeys_kept _).2.2.2 (zeroDramKeys_kept _).2.2.1 ?_
    | with_reducible refine wf_same (zeroLinkKeys_kept _).2.2.2 (zeroLinkKeys_kept _).2.2.1 ?_

theorem lcWrite_wf (data : List Byte) (s : State) (hm : Memory.wf s = true) :
    Memory.wf (lcWrite data s).2 = true := by
  unfold lcWrite
  try dsimp only
  repeat' first
    | with_reducible assumption
    | with_reducible apply wf_done
    | with_reducible apply wf_doneFab
    | with_reducible apply wf_next
    | with_reducible refine wf_same (alarm_kept _ _).2.2.2 (alarm_kept _ _).2.2.1 ?_
    | with_reducible refine wf_same (freshNonce_kept _).2.2.2 (freshNonce_kept _).2.2.1 ?_
    | with_reducible apply lcAccept_wf
    | with_reducible refine wf_same (raise_kept _ _).2.2.2 (raise_kept _ _).2.2.1 ?_
    | with_reducible apply wf_foldl
    | with_reducible apply wf_iterate
    | with_reducible apply wf_ite_snd
    | split

theorem execLcRequestDeployed_wf (path : Path) (data : List Byte) (s : State) (hm : Memory.wf s = true) :
    Memory.wf (after (execLcRequestDeployed path data s) s) = true := by
  unfold execLcRequestDeployed
  try dsimp only
  repeat' first
    | with_reducible assumption
    | with_reducible apply wf_done
    | with_reducible apply wf_doneFab
    | with_reducible apply wf_next
    | with_reducible apply lcWrite_wf
    | with_reducible apply onPath_wf

theorem execLcRequestReturned_wf (path : Path) (data : List Byte) (s : State) (hm : Memory.wf s = true) :
    Memory.wf (after (execLcRequestReturned path data s) s) = true := by
  unfold execLcRequestReturned
  try dsimp only
  repeat' first
    | with_reducible assumption
    | with_reducible apply wf_done
    | with_reducible apply wf_doneFab
    | with_reducible apply wf_next
    | with_reducible apply lcWrite_wf
    | with_reducible apply onPath_wf

theorem execLcRequestScrapped_wf (path : Path) (data : List Byte) (s : State) (hm : Memory.wf s = true) :
    Memory.wf (after (execLcRequestScrapped path data s) s) = true := by
  unfold execLcRequestScrapped
  try dsimp only
  repeat' first
    | with_reducible assumption
    | with_reducible apply wf_done
    | with_reducible apply wf_doneFab
    | with_reducible apply wf_next
    | with_reducible apply lcWrite_wf
    | with_reducible apply onPath_wf

theorem execLifeCycleReset_wf (multi : Bool) (role : Bool) (s : State) (hm : Memory.wf s = true) :
    Memory.wf (after (execLifeCycleReset multi role s) s) = true := by
  unfold execLifeCycleReset
  try dsimp only
  repeat' first
    | with_reducible assumption
    | with_reducible apply wf_done
    | with_reducible apply wf_doneFab
    | with_reducible apply wf_next
    | with_reducible apply resetSource_wf
    | with_reducible apply wf_foldl
    | with_reducible apply wf_iterate
    | with_reducible apply wf_ite_snd
    | split

theorem execPowerOnRelease_wf (resetLow : Bool) (multi : Bool) (roleHigh : Bool) (backupLost : Bool)
    (options : Option (List Byte × List Byte)) (s : State) (hm : Memory.wf s = true) :
    Memory.wf (after (execPowerOnRelease resetLow multi roleHigh backupLost options s) s) = true := by
  unfold execPowerOnRelease
  try dsimp only
  repeat' first
    | with_reducible assumption
    | with_reducible apply wf_done
    | with_reducible apply wf_doneFab
    | with_reducible apply wf_next
    | with_reducible apply coldBase_wf
    | with_reducible refine wf_same (coldLoad_kept _ _ _).2.2.2 (coldLoad_kept _ _ _).2.2.1 ?_
    | with_reducible apply holdReset_wf
    | with_reducible refine wf_same (logReset_kept _ _ _ _ _).2.2.2 (logReset_kept _ _ _ _ _).2.2.1 ?_
    | with_reducible refine wf_same (loseBackup_kept _).2.2.2 (loseBackup_kept _).2.2.1 ?_
    | with_reducible apply wf_foldl
    | with_reducible apply wf_iterate
    | with_reducible apply wf_ite_snd
    | split

theorem execResetPin_wf (low : Bool) (multi : Bool) (role : Bool) (s : State) (hm : Memory.wf s = true) :
    Memory.wf (after (execResetPin low multi role s) s) = true := by
  unfold execResetPin
  try dsimp only
  repeat' first
    | with_reducible assumption
    | with_reducible apply wf_done
    | with_reducible apply wf_doneFab
    | with_reducible apply wf_next
    | with_reducible refine wf_same (coldLoad_kept _ _ _).2.2.2 (coldLoad_kept _ _ _).2.2.1 ?_
    | with_reducible apply holdReset_wf
    | with_reducible refine wf_same (logReset_kept _ _ _ _ _).2.2.2 (logReset_kept _ _ _ _ _).2.2.1 ?_
    | with_reducible apply wf_foldl
    | with_reducible apply wf_iterate
    | with_reducible apply wf_ite_snd
    | split

theorem execWresetPin_wf (multi : Bool) (s : State) (hm : Memory.wf s = true) :
    Memory.wf (after (execWresetPin multi s) s) = true := by
  unfold execWresetPin
  try dsimp only
  repeat' first
    | with_reducible assumption
    | with_reducible apply wf_done
    | with_reducible apply wf_doneFab
    | with_reducible apply wf_next
    | with_reducible apply resetSource_wf

theorem execDictResetTakesEffect_wf (multi : Bool) (role : Bool) (s : State) (hm : Memory.wf s = true) :
    Memory.wf (after (execDictResetTakesEffect multi role s) s) = true := by
  unfold execDictResetTakesEffect
  try dsimp only
  repeat' first
    | with_reducible assumption
    | with_reducible apply wf_done
    | with_reducible apply wf_doneFab
    | with_reducible apply wf_next
    | with_reducible apply resetSource_wf
    | with_reducible apply wf_foldl
    | with_reducible apply wf_iterate
    | with_reducible apply wf_ite_snd
    | split

theorem execRailOutOfWindow_wf (multi : Bool) (s : State) (hm : Memory.wf s = true) :
    Memory.wf (after (execRailOutOfWindow multi s) s) = true := by
  unfold execRailOutOfWindow
  try dsimp only
  repeat' first
    | with_reducible assumption
    | with_reducible apply wf_done
    | with_reducible apply wf_doneFab
    | with_reducible apply wf_next
    | with_reducible apply coldBase_wf
    | with_reducible refine wf_same (logReset_kept _ _ _ _ _).2.2.2 (logReset_kept _ _ _ _ _).2.2.1 ?_
    | with_reducible apply wf_foldl
    | with_reducible apply wf_iterate
    | with_reducible apply wf_ite_snd
    | split

theorem execOptionShadowParity_wf (multi : Bool) (role : Bool) (s : State) (hm : Memory.wf s = true) :
    Memory.wf (after (execOptionShadowParity multi role s) s) = true := by
  unfold execOptionShadowParity
  try dsimp only
  repeat' first
    | with_reducible assumption
    | with_reducible apply wf_done
    | with_reducible apply wf_doneFab
    | with_reducible apply wf_next
    | with_reducible apply resetSource_wf

theorem execClockStateParity_wf (multi : Bool) (role : Bool) (s : State) (hm : Memory.wf s = true) :
    Memory.wf (after (execClockStateParity multi role s) s) = true := by
  unfold execClockStateParity
  try dsimp only
  repeat' first
    | with_reducible assumption
    | with_reducible apply wf_done
    | with_reducible apply wf_doneFab
    | with_reducible apply wf_next
    | with_reducible apply resetSource_wf

theorem execDictEngineStateError_wf (multi : Bool) (s : State) (hm : Memory.wf s = true) :
    Memory.wf (after (execDictEngineStateError multi s) s) = true := by
  unfold execDictEngineStateError
  try dsimp only
  repeat' first
    | with_reducible assumption
    | with_reducible apply wf_done
    | with_reducible apply wf_doneFab
    | with_reducible apply wf_next
    | with_reducible apply resetSource_wf

theorem execNocTableParity_wf (multi : Bool) (s : State) (hm : Memory.wf s = true) :
    Memory.wf (after (execNocTableParity multi s) s) = true := by
  unfold execNocTableParity
  try dsimp only
  repeat' first
    | with_reducible assumption
    | with_reducible apply wf_done
    | with_reducible apply wf_doneFab
    | with_reducible apply wf_next
    | with_reducible apply resetSource_wf

theorem answerTamper_wf (s : State) (hm : Memory.wf s = true) :
    Memory.wf (answerTamper s) = true := by
  unfold answerTamper
  try dsimp only
  repeat' first
    | with_reducible assumption
    | with_reducible apply wf_done
    | with_reducible apply wf_doneFab
    | with_reducible apply wf_next
    | with_reducible apply securityResponse_wf
    | with_reducible apply wf_foldl
    | with_reducible apply wf_iterate
    | with_reducible apply wf_ite_snd
    | split

theorem execEnterService_wf (s : State) (hm : Memory.wf s = true) :
    Memory.wf (after (execEnterService s) s) = true := by
  unfold execEnterService
  try dsimp only
  repeat' first
    | with_reducible assumption
    | with_reducible apply wf_done
    | with_reducible apply wf_doneFab
    | with_reducible apply wf_next
    | with_reducible apply answerTamper_wf
    | with_reducible refine wf_same (reportShutdown_kept _).2.2.2 (reportShutdown_kept _).2.2.1 ?_
    | with_reducible refine wf_same (toService_kept _).2.2.2 (toService_kept _).2.2.1 ?_
    | with_reducible apply wf_foldl
    | with_reducible apply wf_iterate
    | with_reducible apply wf_ite_snd
    | split

theorem blockWrite_wf (sub : Nat) (n : Nat) (base : Nat) (held : Nat → State → State) (value : Nat) (s : State)
    (h_held : ∀ (y0 : Nat) (y1 : State), Memory.wf y1 = true → Memory.wf (held y0 y1) = true) (hm : Memory.wf s = true) :
    Memory.wf (blockWrite sub n base held value s) = true := by
  unfold blockWrite
  try dsimp only
  repeat' first
    | with_reducible assumption
    | with_reducible apply wf_done
    | with_reducible apply wf_doneFab
    | with_reducible apply wf_next
    | with_reducible refine wf_same (State.setObj_kept _ _ _ _).2.2.2 (State.setObj_kept _ _ _ _).2.2.1 ?_
    | with_reducible apply h_held
    | with_reducible apply wf_foldl
    | with_reducible apply wf_iterate
    | with_reducible apply wf_ite_snd
    | split
    | intro _

theorem blockObject_wf (sub : Nat) (n : Nat) (base : Nat) (len : Nat) (held : Nat → State → State) (data : List Byte)
    (s : State) (h_held : ∀ (y0 : Nat) (y1 : State), Memory.wf y1 = true → Memory.wf (held y0 y1) = true)
    (hm : Memory.wf s = true) :
    Memory.wf (blockObject sub n base len held data s).2 = true := by
  unfold blockObject
  try dsimp only
  repeat' first
    | with_reducible assumption
    | with_reducible apply wf_done
    | with_reducible apply wf_doneFab
    | with_reducible apply wf_next
    | with_reducible apply blockWrite_wf
    | with_reducible apply h_held
    | with_reducible apply wf_foldl
    | with_reducible apply wf_iterate
    | with_reducible apply wf_ite_snd

theorem holdLane_wf (g : Nat) (s : State) (hm : Memory.wf s = true) :
    Memory.wf (holdLane g s) = true := by
  unfold holdLane
  try dsimp only
  repeat' first
    | with_reducible assumption
    | with_reducible apply wf_done
    | with_reducible apply wf_doneFab
    | with_reducible apply wf_next
    | with_reducible refine wf_same (State.setGroup_kept _ _ _).2.2.2 (State.setGroup_kept _ _ _).2.2.1 ?_
    | with_reducible refine wf_same (abortScan_kept _ _).2.2.2 (abortScan_kept _ _).2.2.1 ?_
    | with_reducible refine wf_same (clearLanes_kept _ _).2.2.2 (clearLanes_kept _ _).2.2.1 ?_
    | with_reducible apply linkLost_wf

theorem abortClaim_wf (u : Nat) (s : State) (hm : Memory.wf s = true) :
    Memory.wf (abortClaim u s) = true := by
  unfold abortClaim
  try dsimp only
  repeat' first
    | with_reducible assumption
    | with_reducible apply wf_done
    | with_reducible apply wf_doneFab
    | with_reducible apply wf_next
    | with_reducible refine wf_same (State.draw_kept _).2.2.2 (State.draw_kept _).2.2.1 ?_
    | with_reducible apply State.fillRange_wf
    | with_reducible refine wf_same (State.setUnit_kept _ _ _).2.2.2 (State.setUnit_kept _ _ _).2.2.1 ?_
    | with_reducible apply wf_foldl
    | with_reducible apply wf_iterate
    | with_reducible apply wf_ite_snd
    | split

theorem holdQueue_wf (n : Nat) (s : State) (hm : Memory.wf s = true) :
    Memory.wf (holdQueue n s) = true := by
  unfold holdQueue
  try dsimp only
  repeat' first
    | with_reducible assumption
    | with_reducible apply wf_done
    | with_reducible apply wf_doneFab
    | with_reducible apply wf_next
    | with_reducible apply abortClaim_wf
    | with_reducible refine wf_same (resetGroupUnits_kept _ _).2.2.2 (resetGroupUnits_kept _ _).2.2.1 ?_
    | with_reducible apply wf_foldl
    | with_reducible apply wf_iterate
    | with_reducible apply wf_ite_snd
    | split
    | intro _

theorem laneGroupResetWrite_wf (value : Nat) (s : State) (hm : Memory.wf s = true) :
    Memory.wf (laneGroupResetWrite value s).2 = true := by
  unfold laneGroupResetWrite
  try dsimp only
  repeat' first
    | with_reducible assumption
    | with_reducible apply wf_done
    | with_reducible apply wf_doneFab
    | with_reducible apply wf_next
    | with_reducible apply blockWrite_wf
    | with_reducible apply holdLane_wf

theorem execLaneGroupResetWrite_wf (path : Path) (value : BitVec 32) (s : State) (hm : Memory.wf s = true) :
    Memory.wf (after (execLaneGroupResetWrite path value s) s) = true := by
  unfold execLaneGroupResetWrite
  try dsimp only
  repeat' first
    | with_reducible assumption
    | with_reducible apply wf_done
    | with_reducible apply wf_doneFab
    | with_reducible apply wf_next
    | with_reducible apply laneGroupResetWrite_wf
    | with_reducible apply onPath_wf

theorem queueGroupResetWrite_wf (data : List Byte) (s : State) (hm : Memory.wf s = true) :
    Memory.wf (queueGroupResetWrite data s).2 = true := by
  unfold queueGroupResetWrite
  try dsimp only
  repeat' first
    | with_reducible assumption
    | with_reducible apply wf_done
    | with_reducible apply wf_doneFab
    | with_reducible apply wf_next
    | with_reducible apply blockObject_wf
    | with_reducible apply holdQueue_wf

theorem execQueueGroupResetWrite_wf (path : Path) (data : List Byte) (s : State) (hm : Memory.wf s = true) :
    Memory.wf (after (execQueueGroupResetWrite path data s) s) = true := by
  unfold execQueueGroupResetWrite
  try dsimp only
  repeat' first
    | with_reducible assumption
    | with_reducible apply wf_done
    | with_reducible apply wf_doneFab
    | with_reducible apply wf_next
    | with_reducible apply onPath_wf
    | with_reducible apply queueGroupResetWrite_wf

theorem execFenceDrainForced_wf (n : Fin 101) (s : State) (hm : Memory.wf s = true) :
    Memory.wf (after (execFenceDrainForced n s) s) = true := by
  unfold execFenceDrainForced
  try dsimp only
  repeat' first
    | with_reducible assumption
    | with_reducible apply wf_done
    | with_reducible apply wf_doneFab
    | with_reducible apply wf_next
    | with_reducible refine wf_same (answerStatus_kept _ _ _).2.2.2 (answerStatus_kept _ _ _).2.2.1 ?_
    | with_reducible apply endEarly_wf
    | with_reducible refine wf_same (fenceAcked_kept _ _).2.2.2 (fenceAcked_kept _ _).2.2.1 ?_
    | with_reducible refine wf_same (raise_kept _ _).2.2.2 (raise_kept _ _).2.2.1 ?_
    | with_reducible refine wf_same (setFenceState_kept _ _ _).2.2.2 (setFenceState_kept _ _ _).2.2.1 ?_
    | with_reducible refine wf_same (withdraw_kept _ _).2.2.2 (withdraw_kept _ _).2.2.1 ?_
    | with_reducible apply wf_foldl
    | with_reducible apply wf_iterate
    | with_reducible apply wf_ite_snd
    | split
    | intro _

theorem unitPower_wf (old : Nat) (u : Nat) (s : State) (hm : Memory.wf s = true) :
    Memory.wf (unitPower old u s) = true := by
  unfold unitPower
  try dsimp only
  repeat' first
    | with_reducible assumption
    | with_reducible apply wf_done
    | with_reducible apply wf_doneFab
    | with_reducible apply wf_next
    | with_reducible apply State.fillRange_wf
    | with_reducible refine wf_same (State.setUnit_kept _ _ _).2.2.2 (State.setUnit_kept _ _ _).2.2.1 ?_
    | with_reducible refine wf_same (fenceWaiting_kept _ _).2.2.2 (fenceWaiting_kept _ _).2.2.1 ?_
    | with_reducible apply wf_foldl
    | with_reducible apply wf_iterate
    | with_reducible apply wf_ite_snd
    | split

theorem unitMapDatum_wf (old : Nat) (s : State) (hm : Memory.wf s = true) :
    Memory.wf (unitMapDatum old s) = true := by
  unfold unitMapDatum
  try dsimp only
  repeat' first
    | with_reducible assumption
    | with_reducible apply wf_done
    | with_reducible apply wf_doneFab
    | with_reducible apply wf_next
    | with_reducible apply unitPower_wf
    | with_reducible apply wf_foldl
    | with_reducible apply wf_iterate
    | with_reducible apply wf_ite_snd
    | split
    | intro _

theorem clearHold_wf (s : State) (hm : Memory.wf s = true) :
    Memory.wf (clearHold s) = true := by
  unfold clearHold
  unfold Memory.wf at hm ⊢
  dsimp only
  rw [Tbl.wf_iff] at hm ⊢
  refine ⟨hm.1.filter _, fun e he => ?_⟩
  rw [List.mem_filter] at he
  have hd := hm.2 e he.1
  have ho : e.1 < holdBase ∨ holdEnd ≤ e.1 := by simpa using he.2
  unfold memDefault at hd ⊢
  rwa [if_neg (by omega)] at hd ⊢

theorem upperReady_wf (s : State) (hm : Memory.wf s = true) :
    Memory.wf (upperReady s) = true := by
  unfold upperReady
  try dsimp only
  repeat' first
    | with_reducible assumption
    | with_reducible apply wf_done
    | with_reducible apply wf_doneFab
    | with_reducible apply wf_next
    | with_reducible apply clearHold_wf
    | with_reducible refine wf_same (deviceFenceOff_kept _ _).2.2.2 (deviceFenceOff_kept _ _).2.2.1 ?_
    | with_reducible refine wf_same (dramWake_kept _).2.2.2 (dramWake_kept _).2.2.1 ?_
    | with_reducible refine wf_same (emptyRegions_kept _).2.2.2 (emptyRegions_kept _).2.2.1 ?_
    | with_reducible refine wf_same (raise_kept _ _).2.2.2 (raise_kept _ _).2.2.1 ?_
    | with_reducible refine wf_same (wakePins_kept _).2.2.2 (wakePins_kept _).2.2.1 ?_
    | with_reducible apply wf_foldl
    | with_reducible apply wf_iterate
    | with_reducible apply wf_ite_snd
    | split
    | intro _

theorem execUpperLayersReady_wf (s : State) (hm : Memory.wf s = true) :
    Memory.wf (after (execUpperLayersReady s) s) = true := by
  unfold execUpperLayersReady
  try dsimp only
  repeat' first
    | with_reducible assumption
    | with_reducible apply wf_done
    | with_reducible apply wf_doneFab
    | with_reducible apply wf_next
    | with_reducible apply upperReady_wf
    | with_reducible apply wf_foldl
    | with_reducible apply wf_iterate
    | with_reducible apply wf_ite_snd
    | split

theorem execRegulatorFault_wf (regulator : Fin 4) (multi : Bool) (role : Bool) (s : State) (hm : Memory.wf s = true) :
    Memory.wf (after (execRegulatorFault regulator multi role s) s) = true := by
  unfold execRegulatorFault
  try dsimp only
  repeat' first
    | with_reducible assumption
    | with_reducible apply wf_done
    | with_reducible apply wf_doneFab
    | with_reducible apply wf_next
    | with_reducible refine wf_same (State.setObj_kept _ _ _ _).2.2.2 (State.setObj_kept _ _ _ _).2.2.1 ?_
    | with_reducible refine wf_same (patternDown_kept _).2.2.2 (patternDown_kept _).2.2.1 ?_
    | with_reducible refine wf_same (raise_kept _ _).2.2.2 (raise_kept _ _).2.2.1 ?_
    | with_reducible apply resetSource_wf
    | with_reducible apply wf_foldl
    | with_reducible apply wf_iterate
    | with_reducible apply wf_ite_snd
    | split

theorem execThermalShutdownExit_wf (multi : Bool) (role : Bool) (s : State) (hm : Memory.wf s = true) :
    Memory.wf (after (execThermalShutdownExit multi role s) s) = true := by
  unfold execThermalShutdownExit
  try dsimp only
  repeat' first
    | with_reducible assumption
    | with_reducible apply wf_done
    | with_reducible apply wf_doneFab
    | with_reducible apply wf_next
    | with_reducible apply resetSource_wf
    | with_reducible apply wf_foldl
    | with_reducible apply wf_iterate
    | with_reducible apply wf_ite_snd
    | split

theorem backgroundRead_wf (half : Nat) (repaired : List (Fin 64)) (fatal : Bool) (multi : Bool) (flips : BitVec 2560)
    (found : FrameCheck) (s : State) (hm : Memory.wf s = true) :
    Memory.wf (backgroundRead half repaired fatal multi flips found s) = true := by
  unfold backgroundRead
  try dsimp only
  repeat' first
    | with_reducible assumption
    | with_reducible apply wf_done
    | with_reducible apply wf_doneFab
    | with_reducible apply wf_next
    | with_reducible apply resetSource_wf
    | with_reducible refine wf_same (scrubBackground_kept _ _ _ _ _).2.2.2 (scrubBackground_kept _ _ _ _ _).2.2.1 ?_
    | with_reducible apply wf_foldl
    | with_reducible apply wf_iterate
    | with_reducible apply wf_ite_snd
    | split

theorem execScrubFrameRead_wf (scrubber : Fin 2) (peerCorrected : List (Fin 64)) (peerFatal : Bool) (flips : BitVec 2560)
    (found : FrameCheck) (multi : Bool) (s : State) (hm : Memory.wf s = true) :
    Memory.wf (after (execScrubFrameRead scrubber peerCorrected peerFatal flips found multi s) s) = true := by
  unfold execScrubFrameRead
  try dsimp only
  repeat' first
    | with_reducible assumption
    | with_reducible apply wf_done
    | with_reducible apply wf_doneFab
    | with_reducible apply wf_next
    | with_reducible apply backgroundRead_wf
    | with_reducible refine wf_same (scrubRequested_kept _ _ _ _ _).2.2.2 (scrubRequested_kept _ _ _ _ _).2.2.1 ?_
    | with_reducible refine wf_same (setReqPos_kept _ _ _).2.2.2 (setReqPos_kept _ _ _).2.2.1 ?_
    | with_reducible refine wf_same (setTurn_kept _ _ _).2.2.2 (setTurn_kept _ _ _).2.2.1 ?_
    | with_reducible apply wf_foldl
    | with_reducible apply wf_iterate
    | with_reducible apply wf_ite_snd
    | split

theorem groupDatum_wf (s0 : State) (g : Nat) (s : State) (hm : Memory.wf s = true) :
    Memory.wf (groupDatum s0 g s) = true := by
  unfold groupDatum
  try dsimp only
  repeat' first
    | with_reducible assumption
    | with_reducible apply wf_done
    | with_reducible apply wf_doneFab
    | with_reducible apply wf_next
    | with_reducible refine wf_same (State.setGroup_kept _ _ _).2.2.2 (State.setGroup_kept _ _ _).2.2.1 ?_
    | with_reducible refine wf_same (applyLanePower_kept _ _ _ _).2.2.2 (applyLanePower_kept _ _ _ _).2.2.1 ?_
    | with_reducible apply applyLaneSettings_wf
    | with_reducible refine wf_same (freeSleepClaim_kept _ _).2.2.2 (freeSleepClaim_kept _ _).2.2.1 ?_
    | with_reducible apply wf_foldl
    | with_reducible apply wf_iterate
    | with_reducible apply wf_ite_snd
    | split

theorem groupsDatum_wf (s0 : State) (s : State) (hm : Memory.wf s = true) :
    Memory.wf (groupsDatum s0 s) = true := by
  unfold groupsDatum
  try dsimp only
  repeat' first
    | with_reducible assumption
    | with_reducible apply wf_done
    | with_reducible apply wf_doneFab
    | with_reducible apply wf_next
    | with_reducible apply groupDatum_wf
    | with_reducible apply wf_foldl
    | with_reducible apply wf_iterate
    | with_reducible apply wf_ite_snd
    | split
    | intro _

theorem nearDatum_wf (s0 : State) (s : State) (hm : Memory.wf s = true) :
    Memory.wf (nearDatum s0 s) = true := by
  unfold nearDatum
  try dsimp only
  repeat' first
    | with_reducible assumption
    | with_reducible apply wf_done
    | with_reducible apply wf_doneFab
    | with_reducible apply wf_next
    | with_reducible refine wf_same (applyNear_kept _).2.2.2 (applyNear_kept _).2.2.1 ?_
    | with_reducible refine wf_same (noteSelection_kept _ _ _).2.2.2 (noteSelection_kept _ _ _).2.2.1 ?_
    | with_reducible refine wf_same (patternOn_kept _).2.2.2 (patternOn_kept _).2.2.1 ?_
    | with_reducible refine wf_same (planApplied_kept _ _).2.2.2 (planApplied_kept _ _).2.2.1 ?_
    | with_reducible refine wf_same (powerDatum_kept _ _).2.2.2 (powerDatum_kept _ _).2.2.1 ?_
    | with_reducible refine wf_same (sectorsRestart_kept _).2.2.2 (sectorsRestart_kept _).2.2.1 ?_
    | with_reducible apply unitMapDatum_wf
    | with_reducible refine wf_same (unitsServe_kept _).2.2.2 (unitsServe_kept _).2.2.1 ?_
    | with_reducible refine wf_same (workerSource_kept _).2.2.2 (workerSource_kept _).2.2.1 ?_
    | with_reducible apply wf_foldl
    | with_reducible apply wf_iterate
    | with_reducible apply wf_ite_snd
    | split
    | intro _

theorem unitsAndLanesDatum_wf (s0 : State) (s : State) (hm : Memory.wf s = true) :
    Memory.wf (unitsAndLanesDatum s0 s) = true := by
  unfold unitsAndLanesDatum
  try dsimp only
  repeat' first
    | with_reducible assumption
    | with_reducible apply wf_done
    | with_reducible apply wf_doneFab
    | with_reducible apply wf_next
    | with_reducible refine wf_same (applyLinkKeys_kept _).2.2.2 (applyLinkKeys_kept _).2.2.1 ?_
    | with_reducible refine wf_same (beaconDatum_kept _).2.2.2 (beaconDatum_kept _).2.2.1 ?_
    | with_reducible refine wf_same (capturesDatum_kept _).2.2.2 (capturesDatum_kept _).2.2.1 ?_
    | with_reducible refine wf_same (freshWatches_kept _ _).2.2.2 (freshWatches_kept _ _).2.2.1 ?_
    | with_reducible apply groupsDatum_wf
    | with_reducible refine wf_same (keeperDatum_kept _ _).2.2.2 (keeperDatum_kept _ _).2.2.1 ?_
    | with_reducible refine wf_same (muxDatum_kept _ _).2.2.2 (muxDatum_kept _ _).2.2.1 ?_
    | with_reducible refine wf_same (resumeSending_kept _).2.2.2 (resumeSending_kept _).2.2.1 ?_
    | with_reducible refine wf_same (streamsDatum_kept _ _).2.2.2 (streamsDatum_kept _ _).2.2.1 ?_
    | with_reducible refine wf_same (unitModes_kept _ _).2.2.2 (unitModes_kept _ _).2.2.1 ?_
    | with_reducible refine wf_same (unitsDatum_kept _ _).2.2.2 (unitsDatum_kept _ _).2.2.1 ?_
    | with_reducible refine wf_same (workerResumes_kept _).2.2.2 (workerResumes_kept _).2.2.1 ?_
    | with_reducible apply wf_foldl
    | with_reducible apply wf_iterate
    | with_reducible apply wf_ite_snd
    | split
    | intro _

theorem datumSteps_wf (s : State) (hm : Memory.wf s = true) :
    Memory.wf (datumSteps s) = true := by
  unfold datumSteps
  try dsimp only
  repeat' first
    | with_reducible assumption
    | with_reducible apply wf_done
    | with_reducible apply wf_doneFab
    | with_reducible apply wf_next
    | with_reducible refine wf_same (alignDatum_kept _).2.2.2 (alignDatum_kept _).2.2.1 ?_
    | with_reducible refine wf_same (contextDatum_kept _ _).2.2.2 (contextDatum_kept _ _).2.2.1 ?_
    | with_reducible refine wf_same (crossingReset_kept _).2.2.2 (crossingReset_kept _).2.2.1 ?_
    | with_reducible refine wf_same (lookAhead_kept _).2.2.2 (lookAhead_kept _).2.2.1 ?_
    | with_reducible apply nearDatum_wf
    | with_reducible refine wf_same (releaseDatum_kept _ _).2.2.2 (releaseDatum_kept _ _).2.2.1 ?_
    | with_reducible refine wf_same (shiftFar_kept _).2.2.2 (shiftFar_kept _).2.2.1 ?_
    | with_reducible apply unitsAndLanesDatum_wf

theorem endBeat_wf (s : State) (hm : Memory.wf s = true) :
    Memory.wf (endBeat s) = true := by
  unfold endBeat
  try dsimp only
  repeat' first
    | with_reducible assumption
    | with_reducible apply wf_done
    | with_reducible apply wf_doneFab
    | with_reducible apply wf_next
    | with_reducible apply lanesEndBeat_wf
    | with_reducible refine wf_same (lanesTransmit_kept _).2.2.2 (lanesTransmit_kept _).2.2.1 ?_
    | with_reducible refine wf_same (pinsBeat_kept _).2.2.2 (pinsBeat_kept _).2.2.1 ?_
    | with_reducible apply wf_foldl
    | with_reducible apply wf_iterate
    | with_reducible apply wf_ite_snd
    | split

theorem beatEdge_wf (ecc : List RingEcc) (s : State) (hm : Memory.wf s = true) :
    Memory.wf (beatEdge ecc s) = true := by
  unfold beatEdge
  try dsimp only
  repeat' first
    | with_reducible assumption
    | with_reducible apply wf_done
    | with_reducible apply wf_doneFab
    | with_reducible apply wf_next
    | with_reducible apply datumSteps_wf
    | with_reducible refine wf_same (drivePins_kept _).2.2.2 (drivePins_kept _).2.2.1 ?_
    | with_reducible refine wf_same (earlyDatum_kept _ _).2.2.2 (earlyDatum_kept _ _).2.2.1 ?_
    | with_reducible apply endBeat_wf
    | with_reducible refine wf_same (framesLeave_kept _).2.2.2 (framesLeave_kept _).2.2.1 ?_
    | with_reducible refine wf_same (layerClears_kept _).2.2.2 (layerClears_kept _).2.2.1 ?_
    | with_reducible refine wf_same (markBeat_kept _).2.2.2 (markBeat_kept _).2.2.1 ?_
    | with_reducible refine wf_same (readoutAll_kept _ _).2.2.2 (readoutAll_kept _ _).2.2.1 ?_
    | with_reducible refine wf_same (settle_kept _).2.2.2 (settle_kept _).2.2.1 ?_
    | with_reducible refine wf_same (startBeat_kept _).2.2.2 (startBeat_kept _).2.2.1 ?_
    | with_reducible refine wf_same (sweepsStep_kept _).2.2.2 (sweepsStep_kept _).2.2.1 ?_
    | with_reducible refine wf_same (takeRaises_kept _).2.2.2 (takeRaises_kept _).2.2.1 ?_
    | with_reducible apply wf_foldl
    | with_reducible apply wf_iterate
    | with_reducible apply wf_ite_snd
    | split

theorem execBeat_wf (ecc : List RingEcc) (s : State) (hm : Memory.wf s = true) :
    Memory.wf (after (execBeat ecc s) s) = true := by
  unfold execBeat
  try dsimp only
  repeat' first
    | with_reducible assumption
    | with_reducible apply wf_done
    | with_reducible apply wf_doneFab
    | with_reducible apply wf_next
    | with_reducible apply beatEdge_wf
    | with_reducible refine wf_same (doneFab_kept _).2.2.2 (doneFab_kept _).2.2.1 ?_
    | with_reducible apply wf_foldl
    | with_reducible apply wf_iterate
    | with_reducible apply wf_ite_snd
    | split

theorem execDatumBeat_wf (ecc : List RingEcc) (s : State) (hm : Memory.wf s = true) :
    Memory.wf (after (execDatumBeat ecc s) s) = true := by
  unfold execDatumBeat
  try dsimp only
  repeat' first
    | with_reducible assumption
    | with_reducible apply wf_done
    | with_reducible apply wf_doneFab
    | with_reducible apply wf_next
    | with_reducible apply beatEdge_wf
    | with_reducible refine wf_same (doneFab_kept _).2.2.2 (doneFab_kept _).2.2.1 ?_
    | with_reducible apply wf_foldl
    | with_reducible apply wf_iterate
    | with_reducible apply wf_ite_snd
    | split

theorem markerDatum_wf (s : State) (hm : Memory.wf s = true) :
    Memory.wf (markerDatum s) = true := by
  unfold markerDatum
  try dsimp only
  repeat' first
    | with_reducible assumption
    | with_reducible apply wf_done
    | with_reducible apply wf_doneFab
    | with_reducible apply wf_next
    | with_reducible apply datumSteps_wf
    | with_reducible refine wf_same (drivePins_kept _).2.2.2 (drivePins_kept _).2.2.1 ?_
    | with_reducible refine wf_same (raise_kept _ _).2.2.2 (raise_kept _ _).2.2.1 ?_

theorem alignAt_wf (s : State) (hm : Memory.wf s = true) :
    Memory.wf (alignAt s) = true := by
  unfold alignAt
  try dsimp only
  repeat' first
    | with_reducible assumption
    | with_reducible apply wf_done
    | with_reducible apply wf_doneFab
    | with_reducible apply wf_next
    | with_reducible refine wf_same (markAligned_kept _).2.2.2 (markAligned_kept _).2.2.1 ?_
    | with_reducible apply markerDatum_wf
    | with_reducible apply wf_foldl
    | with_reducible apply wf_iterate
    | with_reducible apply wf_ite_snd
    | split

theorem datumMarker_wf (s : State) (hm : Memory.wf s = true) :
    Memory.wf (datumMarker s) = true := by
  unfold datumMarker
  try dsimp only
  repeat' first
    | with_reducible assumption
    | with_reducible apply wf_done
    | with_reducible apply wf_doneFab
    | with_reducible apply wf_next
    | with_reducible apply alignAt_wf
    | with_reducible refine wf_same (endAlign_kept _).2.2.2 (endAlign_kept _).2.2.1 ?_
    | with_reducible refine wf_same (raise_kept _ _).2.2.2 (raise_kept _ _).2.2.1 ?_
    | with_reducible apply wf_foldl
    | with_reducible apply wf_iterate
    | with_reducible apply wf_ite_snd
    | split

theorem execDatumMarker_wf (s : State) (hm : Memory.wf s = true) :
    Memory.wf (after (execDatumMarker s) s) = true := by
  unfold execDatumMarker
  try dsimp only
  repeat' first
    | with_reducible assumption
    | with_reducible apply wf_done
    | with_reducible apply wf_doneFab
    | with_reducible apply wf_next
    | with_reducible apply datumMarker_wf
    | with_reducible refine wf_same (doneFab_kept _).2.2.2 (doneFab_kept _).2.2.1 ?_
    | with_reducible refine wf_same (markerTaken_kept _).2.2.2 (markerTaken_kept _).2.2.1 ?_
    | with_reducible apply wf_foldl
    | with_reducible apply wf_iterate
    | with_reducible apply wf_ite_snd
    | split

theorem nmtFrame_wf (specifier : Nat) (multi : Bool) (s : State) (hm : Memory.wf s = true) :
    Memory.wf (nmtFrame specifier multi s) = true := by
  unfold nmtFrame
  try dsimp only
  repeat' first
    | with_reducible assumption
    | with_reducible apply wf_done
    | with_reducible apply wf_doneFab
    | with_reducible apply wf_next
    | with_reducible refine wf_same (nmtPreOpCmd_kept _).2.2.2 (nmtPreOpCmd_kept _).2.2.1 ?_
    | with_reducible refine wf_same (nmtResetCommCmd_kept _).2.2.2 (nmtResetCommCmd_kept _).2.2.1 ?_
    | with_reducible refine wf_same (nmtStartCmd_kept _).2.2.2 (nmtStartCmd_kept _).2.2.1 ?_
    | with_reducible refine wf_same (nmtStopCmd_kept _).2.2.2 (nmtStopCmd_kept _).2.2.1 ?_
    | with_reducible apply resetSource_wf
    | with_reducible apply wf_foldl
    | with_reducible apply wf_iterate
    | with_reducible apply wf_ite_snd
    | split

theorem onUsdo_wf (f : State → State) (s : State) (h_f : ∀ (y0 : State), Memory.wf y0 = true → Memory.wf (f y0) = true)
    (hm : Memory.wf s = true) :
    Memory.wf (onUsdo f s) = true := by
  unfold onUsdo
  try dsimp only
  repeat' first
    | with_reducible assumption
    | with_reducible apply wf_done
    | with_reducible apply wf_doneFab
    | with_reducible apply wf_next
    | with_reducible apply h_f
    | with_reducible apply wf_foldl
    | with_reducible apply wf_iterate
    | with_reducible apply wf_ite_snd
    | split

theorem actOn_wf (f : CanRx) (s : State) (hm : Memory.wf s = true) :
    Memory.wf (actOn f s) = true := by
  unfold actOn
  try dsimp only
  repeat' first
    | with_reducible assumption
    | with_reducible apply wf_done
    | with_reducible apply wf_doneFab
    | with_reducible apply wf_next
    | with_reducible refine wf_same (State.setSession_kept _ _ _).2.2.2 (State.setSession_kept _ _ _).2.2.1 ?_
    | with_reducible refine wf_same (consumeHeartbeat_kept _ _ _).2.2.2 (consumeHeartbeat_kept _ _ _).2.2.1 ?_
    | with_reducible refine wf_same (downloadInitiate_kept _ _ _ _ _).2.2.2 (downloadInitiate_kept _ _ _ _ _).2.2.1 ?_
    | with_reducible refine wf_same (downloadSegment_kept _ _ _ _).2.2.2 (downloadSegment_kept _ _ _ _).2.2.1 ?_
    | with_reducible refine wf_same (enqueue_kept _ _ _ _ _).2.2.2 (enqueue_kept _ _ _ _ _).2.2.1 ?_
    | with_reducible apply nmtFrame_wf
    | with_reducible apply onUsdo_wf
    | with_reducible refine wf_same (uploadSegment_kept _ _).2.2.2 (uploadSegment_kept _ _).2.2.1 ?_
    | with_reducible refine wf_same (usdoInitiate_kept _).2.2.2 (usdoInitiate_kept _).2.2.1 ?_
    | with_reducible apply wf_foldl
    | with_reducible apply wf_iterate
    | with_reducible apply wf_ite_snd
    | split
    | intro _

theorem takeFrames_wf (a0 : Nat) (a1 : State) (hm : Memory.wf a1 = true) :
    Memory.wf (takeFrames a0 a1) = true := by
  induction a0 generalizing a1 with
  | zero => exact hm
  | succ n ih =>
    unfold takeFrames
    split
    · exact hm
    · exact ih _ (actOn_wf _ _ (wf_same rfl rfl hm))

theorem frameArrives_wf (newMs : Bool) (f : CanRx) (s : State) (hm : Memory.wf s = true) :
    Memory.wf (frameArrives newMs f s) = true := by
  unfold frameArrives
  try dsimp only
  repeat' first
    | with_reducible assumption
    | with_reducible apply wf_done
    | with_reducible apply wf_doneFab
    | with_reducible apply wf_next
    | with_reducible refine wf_same (frameIn_kept _).2.2.2 (frameIn_kept _).2.2.1 ?_
    | with_reducible refine wf_same (freshTx_kept _).2.2.2 (freshTx_kept _).2.2.1 ?_
    | with_reducible refine wf_same (newMillisecond_kept _ _).2.2.2 (newMillisecond_kept _ _).2.2.1 ?_
    | with_reducible refine wf_same (rxOverrun_kept _ _).2.2.2 (rxOverrun_kept _ _).2.2.1 ?_
    | with_reducible apply takeFrames_wf
    | with_reducible apply wf_foldl
    | with_reducible apply wf_iterate
    | with_reducible apply wf_ite_snd
    | split

theorem execNmtStart_wf (newMs : Bool) (s : State) (hm : Memory.wf s = true) :
    Memory.wf (after (execNmtStart newMs s) s) = true := by
  unfold execNmtStart
  try dsimp only
  repeat' first
    | with_reducible assumption
    | with_reducible apply wf_done
    | with_reducible apply wf_doneFab
    | with_reducible apply wf_next
    | with_reducible apply frameArrives_wf

theorem execNmtStop_wf (newMs : Bool) (s : State) (hm : Memory.wf s = true) :
    Memory.wf (after (execNmtStop newMs s) s) = true := by
  unfold execNmtStop
  try dsimp only
  repeat' first
    | with_reducible assumption
    | with_reducible apply wf_done
    | with_reducible apply wf_doneFab
    | with_reducible apply wf_next
    | with_reducible apply frameArrives_wf

theorem execNmtEnterPreOperational_wf (newMs : Bool) (s : State) (hm : Memory.wf s = true) :
    Memory.wf (after (execNmtEnterPreOperational newMs s) s) = true := by
  unfold execNmtEnterPreOperational
  try dsimp only
  repeat' first
    | with_reducible assumption
    | with_reducible apply wf_done
    | with_reducible apply wf_doneFab
    | with_reducible apply wf_next
    | with_reducible apply frameArrives_wf

theorem execNmtResetNode_wf (newMs : Bool) (multi : Bool) (s : State) (hm : Memory.wf s = true) :
    Memory.wf (after (execNmtResetNode newMs multi s) s) = true := by
  unfold execNmtResetNode
  try dsimp only
  repeat' first
    | with_reducible assumption
    | with_reducible apply wf_done
    | with_reducible apply wf_doneFab
    | with_reducible apply wf_next
    | with_reducible apply frameArrives_wf

theorem execNmtResetCommunication_wf (newMs : Bool) (s : State) (hm : Memory.wf s = true) :
    Memory.wf (after (execNmtResetCommunication newMs s) s) = true := by
  unfold execNmtResetCommunication
  try dsimp only
  repeat' first
    | with_reducible assumption
    | with_reducible apply wf_done
    | with_reducible apply wf_doneFab
    | with_reducible apply wf_next
    | with_reducible apply frameArrives_wf

theorem execUsdoDownloadInitiate_wf (newMs : Bool) (index : BitVec 16) (sub : BitVec 8) (size : Nat)
    (expedited : Option (List Byte)) (s : State) (hm : Memory.wf s = true) :
    Memory.wf (after (execUsdoDownloadInitiate newMs index sub size expedited s) s) = true := by
  unfold execUsdoDownloadInitiate
  try dsimp only
  repeat' first
    | with_reducible assumption
    | with_reducible apply wf_done
    | with_reducible apply wf_doneFab
    | with_reducible apply wf_next
    | with_reducible apply frameArrives_wf

theorem execUsdoDownloadSegment_wf (newMs : Bool) (toggle : Bool) (data : List Byte) (last : Bool) (s : State)
    (hm : Memory.wf s = true) :
    Memory.wf (after (execUsdoDownloadSegment newMs toggle data last s) s) = true := by
  unfold execUsdoDownloadSegment
  try dsimp only
  repeat' first
    | with_reducible assumption
    | with_reducible apply wf_done
    | with_reducible apply wf_doneFab
    | with_reducible apply wf_next
    | with_reducible apply frameArrives_wf

theorem execUsdoUploadInitiate_wf (newMs : Bool) (index : BitVec 16) (sub : BitVec 8) (s : State) (hm : Memory.wf s = true) :
    Memory.wf (after (execUsdoUploadInitiate newMs index sub s) s) = true := by
  unfold execUsdoUploadInitiate
  try dsimp only
  repeat' first
    | with_reducible assumption
    | with_reducible apply wf_done
    | with_reducible apply wf_doneFab
    | with_reducible apply wf_next
    | with_reducible apply frameArrives_wf

theorem execUsdoUploadSegment_wf (newMs : Bool) (toggle : Bool) (s : State) (hm : Memory.wf s = true) :
    Memory.wf (after (execUsdoUploadSegment newMs toggle s) s) = true := by
  unfold execUsdoUploadSegment
  try dsimp only
  repeat' first
    | with_reducible assumption
    | with_reducible apply wf_done
    | with_reducible apply wf_doneFab
    | with_reducible apply wf_next
    | with_reducible apply frameArrives_wf

theorem execHeartbeatReceived_wf (newMs : Bool) (node : BitVec 7) (_state : BitVec 8) (s : State) (hm : Memory.wf s = true) :
    Memory.wf (after (execHeartbeatReceived newMs node _state s) s) = true := by
  unfold execHeartbeatReceived
  try dsimp only
  repeat' first
    | with_reducible assumption
    | with_reducible apply wf_done
    | with_reducible apply wf_doneFab
    | with_reducible apply wf_next
    | with_reducible apply frameArrives_wf

theorem stagedOnPath_wf (p : Path) (idx : Nat) (sub : Nat) (s : State) (r : Nat × State) (h0 : Memory.wf r.2 = true)
    (hm : Memory.wf s = true) :
    Memory.wf (stagedOnPath p idx sub s r) = true := by
  unfold stagedOnPath
  try dsimp only
  repeat' first
    | with_reducible assumption
    | with_reducible apply wf_done
    | with_reducible apply wf_doneFab
    | with_reducible apply wf_next
    | with_reducible refine wf_same (reply_kept _ _ _ _ _ _ _).2.2.2 (reply_kept _ _ _ _ _ _ _).2.2.1 ?_
    | with_reducible apply wf_foldl
    | with_reducible apply wf_iterate
    | with_reducible apply wf_ite_snd
    | split

theorem plainLine_wf (q : ReqId) (addr : Nat) (data : Option Line) (bad : Bool) (ecc : List EccClass) (s : State)
    (hm : Memory.wf s = true) :
    Memory.wf (plainLine q addr data bad ecc s) = true := by
  unfold plainLine
  try dsimp only
  repeat' first
    | with_reducible assumption
    | with_reducible apply wf_done
    | with_reducible apply wf_doneFab
    | with_reducible apply wf_next
    | with_reducible apply State.writeNat_wf
    | with_reducible refine wf_same (answer_kept _ _ _ _).2.2.2 (answer_kept _ _ _ _).2.2.1 ?_
    | with_reducible refine wf_same (answerStatus_kept _ _ _).2.2.2 (answerStatus_kept _ _ _).2.2.1 ?_
    | with_reducible apply wf_foldl
    | with_reducible apply wf_iterate
    | with_reducible apply wf_ite_snd
    | split

theorem targetAccess_wf (q : ReqId) (addr : Nat) (data : Option Line) (bad : Bool) (crc : Option Nat) (m : MoveFlit)
    (s : State) (hm : Memory.wf s = true) :
    Memory.wf (targetAccess q addr data bad crc m s) = true := by
  unfold targetAccess
  try dsimp only
  repeat' first
    | with_reducible assumption
    | with_reducible apply wf_done
    | with_reducible apply wf_doneFab
    | with_reducible apply wf_next
    | with_reducible refine wf_same (answer_kept _ _ _ _).2.2.2 (answer_kept _ _ _ _).2.2.1 ?_
    | with_reducible refine wf_same (answerStatus_kept _ _ _).2.2.2 (answerStatus_kept _ _ _).2.2.1 ?_
    | with_reducible refine wf_same (countLineEcc_kept _ _ _ _).2.2.2 (countLineEcc_kept _ _ _ _).2.2.1 ?_
    | with_reducible refine wf_same (dramRequest_kept _ _ _).2.2.2 (dramRequest_kept _ _ _).2.2.1 ?_
    | with_reducible apply holdAccess_wf
    | with_reducible refine wf_same (moveCollides_kept _ _ _).2.2.2 (moveCollides_kept _ _ _).2.2.1 ?_
    | with_reducible refine wf_same (moveFromNoc_kept _ _ _ _ _).2.2.2 (moveFromNoc_kept _ _ _ _ _).2.2.1 ?_
    | with_reducible refine wf_same (moveToWorker_kept _ _ _ _ _ _ _ _).2.2.2 (moveToWorker_kept _ _ _ _ _ _ _ _).2.2.1 ?_
    | with_reducible refine wf_same (openTxn_kept _ _ _ _).2.2.2 (openTxn_kept _ _ _ _).2.2.1 ?_
    | with_reducible refine wf_same (patternAccess_kept _ _ _ _ _ _).2.2.2 (patternAccess_kept _ _ _ _ _ _).2.2.1 ?_
    | with_reducible apply plainLine_wf
    | with_reducible refine wf_same (windowDeliver_kept _ _ _ _ _).2.2.2 (windowDeliver_kept _ _ _ _ _).2.2.1 ?_
    | with_reducible apply wf_foldl
    | with_reducible apply wf_iterate
    | with_reducible apply wf_ite_snd
    | split

theorem serveWaiting_wf (q : ReqId) (s : State) (hm : Memory.wf s = true) :
    Memory.wf (serveWaiting q s) = true := by
  unfold serveWaiting
  try dsimp only
  repeat' first
    | with_reducible assumption
    | with_reducible apply wf_done
    | with_reducible apply wf_doneFab
    | with_reducible apply wf_next
    | with_reducible refine wf_same (State.setChannel_kept _ _ _).2.2.2 (State.setChannel_kept _ _ _).2.2.1 ?_
    | with_reducible refine wf_same (State.setUnit_kept _ _ _).2.2.2 (State.setUnit_kept _ _ _).2.2.1 ?_
    | with_reducible refine wf_same (answerStatus_kept _ _ _).2.2.2 (answerStatus_kept _ _ _).2.2.1 ?_
    | with_reducible refine wf_same (commitFlit_kept _ _).2.2.2 (commitFlit_kept _ _).2.2.1 ?_
    | with_reducible refine wf_same (holdAnswer_kept _ _ _).2.2.2 (holdAnswer_kept _ _ _).2.2.1 ?_
    | with_reducible refine wf_same (performDram_kept _ _ _ _).2.2.2 (performDram_kept _ _ _ _).2.2.1 ?_
    | with_reducible refine wf_same (serveHeld_kept _ _).2.2.2 (serveHeld_kept _ _).2.2.1 ?_
    | with_reducible apply serveNoc_wf
    | with_reducible refine wf_same (unitCauses_kept _ _ _).2.2.2 (unitCauses_kept _ _ _).2.2.1 ?_
    | with_reducible apply wf_foldl
    | with_reducible apply wf_iterate
    | with_reducible apply wf_ite_snd
    | split
    | intro _

theorem accessAtTarget_wf (q : ReqId) (addr : Nat) (data : Option Line) (bad : Bool) (crc : Option Nat) (m : MoveFlit)
    (s : State) (hm : Memory.wf s = true) :
    Memory.wf (accessAtTarget q addr data bad crc m s).2.2 = true := by
  unfold accessAtTarget
  try dsimp only
  repeat' first
    | with_reducible assumption
    | with_reducible apply wf_done
    | with_reducible apply wf_doneFab
    | with_reducible apply wf_next
    | with_reducible apply serveWaiting_wf
    | with_reducible refine wf_same (takeAnswer_kept _ _).2.2.2 (takeAnswer_kept _ _).2.2.1 ?_
    | with_reducible apply targetAccess_wf
    | with_reducible apply wf_foldl
    | with_reducible apply wf_iterate
    | with_reducible apply wf_ite_snd
    | split

theorem moveAccess_wf (q : ReqId) (addr : Nat) (crc : Bool) (sent : Option Line) (data : Option Line) (m : MoveFlit)
    (p : MovePath) (s : State) (hm : Memory.wf s = true) :
    Memory.wf (moveAccess q addr crc sent data m p s).2.2 = true := by
  unfold moveAccess
  try dsimp only
  repeat' first
    | with_reducible assumption
    | with_reducible apply wf_done
    | with_reducible apply wf_doneFab
    | with_reducible apply wf_next
    | with_reducible apply accessAtTarget_wf
    | with_reducible refine wf_same (accessTimedOut_kept _ _).2.2.2 (accessTimedOut_kept _ _).2.2.1 ?_
    | with_reducible refine wf_same (answerComesLate_kept _ _ _).2.2.2 (answerComesLate_kept _ _ _).2.2.1 ?_
    | with_reducible refine wf_same (countCrc_kept _ _).2.2.2 (countCrc_kept _ _).2.2.1 ?_
    | with_reducible refine wf_same (pathCheck_kept _ _).2.2.2 (pathCheck_kept _ _).2.2.1 ?_
    | with_reducible apply wf_foldl
    | with_reducible apply wf_iterate
    | with_reducible apply wf_ite_snd
    | split
    | intro _

theorem moveFlit_wf (q : ReqId) (src dst len : Nat) (crc : Bool) (met : List MoveFlit) (r : MoveRun) (i : Nat)
    (hm : Memory.wf r.state = true) : Memory.wf (moveFlit q src dst len crc met r i).state = true := by
  unfold moveFlit MoveRun.fail
  dsimp only
  cases (flitMet met i).readEnds <;> cases (flitMet met i).writeEnds <;> dsimp only <;> (repeat' split) <;>
    (repeat' first | with_reducible assumption | with_reducible apply moveAccess_wf)

theorem runMove_wf (e : Fin 4) (d : Nat) (met : List MoveFlit) (s : State) (hm : Memory.wf s = true) :
    Memory.wf (runMove e d met s).state = true := by
  unfold runMove
  have hd : Memory.wf s.draw = true := wf_same (State.draw_kept s).2.2.2 (State.draw_kept s).2.2.1 hm
  revert hd
  generalize s.draw = t
  intro hd
  have h : ∀ (l : List Nat) (r : MoveRun), Memory.wf r.state = true →
      Memory.wf (l.foldl (fun r i => moveFlit ⟨.move e, i % 2048⟩ (moveSrc d) (moveDst d) (moveLength d) (moveCrc d) met r i)
        r).state = true := by
    intro l
    induction l with
    | nil => exact fun r hr => hr
    | cons x l ih => exact fun r hr => ih _ (moveFlit_wf _ _ _ _ _ _ _ _ hr)
  exact h _ ⟨none, [], false, t⟩ hd

theorem execMoveDone_wf (engine : Fin 4) (met : List MoveFlit) (s : State) (hm : Memory.wf s = true) :
    Memory.wf (after (execMoveDone engine met s) s) = true := by
  unfold execMoveDone
  split
  · exact wf_settle hm
  · dsimp only
    split
    · exact wf_settle hm
    · refine wf_settle ?_
      repeat' first
        | with_reducible exact runMove_wf _ _ _ _ hm
        | with_reducible refine wf_same (State.setMover_kept _ _ _).2.2.2 (State.setMover_kept _ _ _).2.2.1 ?_
        | with_reducible refine wf_same (raise_kept _ _).2.2.2 (raise_kept _ _).2.2.1 ?_
        | split

theorem writeResets_wf (path : Nat) (sub : Nat) (v : Nat) (data : List Byte) (s : State) (hm : Memory.wf s = true) :
    Memory.wf (writeResets path sub v data s).2 = true := by
  unfold writeResets
  try dsimp only
  repeat' first
    | with_reducible assumption
    | with_reducible apply wf_done
    | with_reducible apply wf_doneFab
    | with_reducible apply wf_next
    | with_reducible refine wf_same (State.draw_kept _).2.2.2 (State.draw_kept _).2.2.1 ?_
    | with_reducible refine wf_same (dramChannelResetWrite_kept _ _).2.2.2 (dramChannelResetWrite_kept _ _).2.2.1 ?_
    | with_reducible refine wf_same (engineResetWrite_kept _ _).2.2.2 (engineResetWrite_kept _ _).2.2.1 ?_
    | with_reducible refine wf_same (keeperResetWrite_kept _ _).2.2.2 (keeperResetWrite_kept _ _).2.2.1 ?_
    | with_reducible apply laneGroupResetWrite_wf
    | with_reducible refine wf_same (optionWrite_kept _ _ _).2.2.2 (optionWrite_kept _ _ _).2.2.1 ?_
    | with_reducible refine wf_same (patternBankResetWrite_kept _ _).2.2.2 (patternBankResetWrite_kept _ _).2.2.1 ?_
    | with_reducible apply queueGroupResetWrite_wf
    | with_reducible refine wf_same (resetRequestWrite_kept _ _ _).2.2.2 (resetRequestWrite_kept _ _ _).2.2.1 ?_
    | with_reducible refine wf_same (stationResetWrite_kept _ _).2.2.2 (stationResetWrite_kept _ _).2.2.1 ?_
    | with_reducible apply wf_foldl
    | with_reducible apply wf_iterate
    | with_reducible apply wf_ite_snd

theorem writeSecurity_wf (sub : Nat) (v : Nat) (data : List Byte) (s : State) (hm : Memory.wf s = true) :
    Memory.wf (writeSecurity sub v data s).2 = true := by
  unfold writeSecurity
  try dsimp only
  repeat' first
    | with_reducible assumption
    | with_reducible apply wf_done
    | with_reducible apply wf_doneFab
    | with_reducible apply wf_next
    | with_reducible refine wf_same (attestWrite_kept _ _).2.2.2 (attestWrite_kept _ _).2.2.1 ?_
    | with_reducible apply lcWrite_wf
    | with_reducible refine wf_same (linkKeyWrite_kept _ _).2.2.2 (linkKeyWrite_kept _ _).2.2.1 ?_
    | with_reducible refine wf_same (rekeyWrite_kept _ _ _).2.2.2 (rekeyWrite_kept _ _ _).2.2.1 ?_
    | with_reducible refine wf_same (tamperConfigWrite_kept _ _).2.2.2 (tamperConfigWrite_kept _ _).2.2.1 ?_
    | with_reducible apply wf_foldl
    | with_reducible apply wf_iterate
    | with_reducible apply wf_ite_snd

theorem writeNow_wf (path : Nat) (idx : Nat) (sub : Nat) (v : Nat) (data : List Byte) (s : State) (hm : Memory.wf s = true) :
    Memory.wf (writeNow path idx sub v data s).2 = true := by
  unfold writeNow
  try dsimp only
  repeat' first
    | with_reducible assumption
    | with_reducible apply wf_done
    | with_reducible apply wf_doneFab
    | with_reducible apply wf_next
    | with_reducible refine wf_same (keeperCommandWrite_kept _ _ _).2.2.2 (keeperCommandWrite_kept _ _ _).2.2.1 ?_
    | with_reducible refine wf_same (mailboxWrite_kept _ _ _).2.2.2 (mailboxWrite_kept _ _ _).2.2.1 ?_
    | with_reducible refine wf_same (storeObject_kept _ _ _ _).2.2.2 (storeObject_kept _ _ _ _).2.2.1 ?_
    | with_reducible refine wf_same (writeArchive_kept _ _ _ _ _).2.2.2 (writeArchive_kept _ _ _ _ _).2.2.1 ?_
    | with_reducible refine wf_same (writeClocksPins_kept _ _ _ _ _ _).2.2.2 (writeClocksPins_kept _ _ _ _ _ _).2.2.1 ?_
    | with_reducible refine wf_same (writeCommunication_kept _ _ _ _ _).2.2.2 (writeCommunication_kept _ _ _ _ _).2.2.1 ?_
    | with_reducible refine wf_same (writeConfig_kept _ _ _).2.2.2 (writeConfig_kept _ _ _).2.2.1 ?_
    | with_reducible refine wf_same (writeHold_kept _ _ _ _).2.2.2 (writeHold_kept _ _ _ _).2.2.1 ?_
    | with_reducible refine wf_same (writeLanes_kept _ _ _ _ _).2.2.2 (writeLanes_kept _ _ _ _ _).2.2.1 ?_
    | with_reducible apply writeResets_wf
    | with_reducible apply writeSecurity_wf
    | with_reducible refine wf_same (writeWorker_kept _ _ _ _).2.2.2 (writeWorker_kept _ _ _ _).2.2.1 ?_
    | with_reducible apply wf_foldl
    | with_reducible apply wf_iterate
    | with_reducible apply wf_ite_snd

theorem writeRow_wf (r : ObjRow) (path : Nat) (idx : Nat) (sub : Nat) (data : List Byte) (s : State) (hm : Memory.wf s = true) :
    Memory.wf (writeRow r path idx sub data s).2 = true := by
  unfold writeRow
  try dsimp only
  repeat' first
    | with_reducible assumption
    | with_reducible apply wf_done
    | with_reducible apply wf_doneFab
    | with_reducible apply wf_next
    | with_reducible refine wf_same (clearWrite_kept _ _ _ _).2.2.2 (clearWrite_kept _ _ _ _).2.2.1 ?_
    | with_reducible refine wf_same (stageWrite_kept _ _ _ _ _ _).2.2.2 (stageWrite_kept _ _ _ _ _ _).2.2.1 ?_
    | with_reducible refine wf_same (timerConfigWrite_kept _ _ _ _).2.2.2 (timerConfigWrite_kept _ _ _ _).2.2.1 ?_
    | with_reducible apply writeNow_wf
    | with_reducible apply wf_foldl
    | with_reducible apply wf_iterate
    | with_reducible apply wf_ite_snd
    | split

theorem checkLength_wf (r : ObjRow) (data : List Byte) (s : State) (w : Nat × State) (h0 : Memory.wf w.2 = true)
    (hm : Memory.wf s = true) :
    Memory.wf (checkLength r data s w).2 = true := by
  unfold checkLength
  try dsimp only
  repeat' first
    | with_reducible assumption
    | with_reducible apply wf_done
    | with_reducible apply wf_doneFab
    | with_reducible apply wf_next
    | with_reducible apply wf_foldl
    | with_reducible apply wf_iterate
    | with_reducible apply wf_ite_snd

theorem submitWrite_wf (path : Nat) (idx : Nat) (sub : Nat) (data : List Byte) (s : State) (hm : Memory.wf s = true) :
    Memory.wf (submitWrite path idx sub data s).2 = true := by
  unfold submitWrite
  try dsimp only
  repeat' first
    | with_reducible assumption
    | with_reducible apply wf_done
    | with_reducible apply wf_doneFab
    | with_reducible apply wf_next
    | with_reducible apply checkLength_wf
    | with_reducible apply writeRow_wf
    | with_reducible apply wf_foldl
    | with_reducible apply wf_iterate
    | with_reducible apply wf_ite_snd
    | split

theorem writeOnPath_wf (p : Path) (idx : Nat) (sub : Nat) (data : List Byte) (s : State) (hm : Memory.wf s = true) :
    Memory.wf (writeOnPath p idx sub data s) = true := by
  unfold writeOnPath
  split
  · exact hm
  · split
    · have h := relayStart_kept p (idx - 0x5000) (some data) s
      revert h
      cases relayStart p (idx - 0x5000) (some data) s with
      | mk a t =>
        intro h
        have ht : Memory.wf t = true := wf_same h.2.2.2 h.2.2.1 hm
        cases a
        · exact ht
        · exact wf_same (answered_kept _ _ _ _).2.2.2 (answered_kept _ _ _ _).2.2.1 ht
    · refine wf_same (reply_kept _ _ _ _ _ _ _).2.2.2 (reply_kept _ _ _ _ _ _ _).2.2.1 (submitWrite_wf _ _ _ _ _ ?_)
      split
      · exact wf_same (freshTx_kept _).2.2.2 (freshTx_kept _).2.2.1 hm
      · exact hm

theorem execStagedWrite_wf (path : Path) (index : BitVec 16) (sub : BitVec 8) (data : List Byte) (s : State)
    (hm : Memory.wf s = true) :
    Memory.wf (after (execStagedWrite path index sub data s) s) = true := by
  unfold execStagedWrite
  try dsimp only
  repeat' first
    | with_reducible assumption
    | with_reducible apply wf_done
    | with_reducible apply wf_doneFab
    | with_reducible apply wf_next
    | with_reducible apply writeOnPath_wf

theorem execObjectWrite_wf (path : Path) (index : BitVec 16) (sub : BitVec 8) (data : List Byte) (s : State)
    (hm : Memory.wf s = true) :
    Memory.wf (after (execObjectWrite path index sub data s) s) = true := by
  unfold execObjectWrite
  try dsimp only
  repeat' first
    | with_reducible assumption
    | with_reducible apply wf_done
    | with_reducible apply wf_doneFab
    | with_reducible apply wf_next
    | with_reducible apply writeOnPath_wf

theorem onDict_wf (f : State → State) (s : State) (h_f : ∀ (y0 : State), Memory.wf y0 = true → Memory.wf (f y0) = true)
    (hm : Memory.wf s = true) :
    Memory.wf (onDict f s) = true := by
  unfold onDict
  try dsimp only
  repeat' first
    | with_reducible assumption
    | with_reducible apply wf_done
    | with_reducible apply wf_doneFab
    | with_reducible apply wf_next
    | with_reducible refine wf_same (selectTap_kept _ _ _).2.2.2 (selectTap_kept _ _ _).2.2.1 ?_
    | with_reducible apply h_f
    | with_reducible apply wf_foldl
    | with_reducible apply wf_iterate
    | with_reducible apply wf_ite_snd
    | split

theorem dictUpdate_wf (w : BitVec 128) (f : DictWord → State → State) (s : State) (h_f : ∀ (y0 : DictWord) (y1 : State),
    Memory.wf y1 = true → Memory.wf (f y0 y1) = true) (hm : Memory.wf s = true) :
    Memory.wf (dictUpdate w f s) = true := by
  unfold dictUpdate
  try dsimp only
  repeat' first
    | with_reducible assumption
    | with_reducible apply wf_done
    | with_reducible apply wf_doneFab
    | with_reducible apply wf_next
    | with_reducible apply onDict_wf
    | with_reducible apply surveyRequest_wf
    | with_reducible apply h_f
    | with_reducible apply wf_foldl
    | with_reducible apply wf_iterate
    | with_reducible apply wf_ite_snd
    | split
    | intro _

theorem windowArrives_wf (req : ReqId) (k : Nat) (op : Nat) (idx : Nat) (sub : Nat) (off : Nat) (len : Nat)
    (data : List Byte) (s : State) (hm : Memory.wf s = true) :
    Memory.wf (windowArrives req k op idx sub off len data s) = true := by
  unfold windowArrives
  try dsimp only
  repeat' first
    | with_reducible assumption
    | with_reducible apply wf_done
    | with_reducible apply wf_doneFab
    | with_reducible apply wf_next
    | with_reducible apply enterTarget_wf
    | with_reducible refine wf_same (openTxn_kept _ _ _ _).2.2.2 (openTxn_kept _ _ _ _).2.2.1 ?_
    | with_reducible refine wf_same (windowWrite_kept _ _ _ _ _ _ _ _ _).2.2.2 (windowWrite_kept _ _ _ _ _ _ _ _ _).2.2.1 ?_
    | with_reducible apply wf_foldl
    | with_reducible apply wf_iterate
    | with_reducible apply wf_ite_snd
    | split

theorem execWindowRead_wf (req : ReqId) (slot : Fin 4) (index : BitVec 16) (sub : BitVec 8) (offset : BitVec 32)
    (len : BitVec 8) (s : State) (hm : Memory.wf s = true) :
    Memory.wf (after (execWindowRead req slot index sub offset len s) s) = true := by
  unfold execWindowRead
  try dsimp only
  repeat' first
    | with_reducible assumption
    | with_reducible apply wf_done
    | with_reducible apply wf_doneFab
    | with_reducible apply wf_next
    | with_reducible apply windowArrives_wf

theorem execWindowWriteSegment_wf (req : ReqId) (slot : Fin 4) (index : BitVec 16) (sub : BitVec 8) (offset : BitVec 32)
    (len : BitVec 8) (data : List Byte) (s : State) (hm : Memory.wf s = true) :
    Memory.wf (after (execWindowWriteSegment req slot index sub offset len data s) s) = true := by
  unfold execWindowWriteSegment
  try dsimp only
  repeat' first
    | with_reducible assumption
    | with_reducible apply wf_done
    | with_reducible apply wf_doneFab
    | with_reducible apply wf_next
    | with_reducible apply windowArrives_wf

theorem execWindowWriteFinal_wf (req : ReqId) (slot : Fin 4) (index : BitVec 16) (sub : BitVec 8) (offset : BitVec 32)
    (len : BitVec 8) (data : List Byte) (s : State) (hm : Memory.wf s = true) :
    Memory.wf (after (execWindowWriteFinal req slot index sub offset len data s) s) = true := by
  unfold execWindowWriteFinal
  try dsimp only
  repeat' first
    | with_reducible assumption
    | with_reducible apply wf_done
    | with_reducible apply wf_doneFab
    | with_reducible apply wf_next
    | with_reducible apply windowArrives_wf

theorem finishWrite_wf (j : Job) (data : List Byte) (s : State) (hm : Memory.wf s = true) :
    Memory.wf (finishWrite j data s) = true := by
  unfold finishWrite
  try dsimp only
  repeat' first
    | with_reducible assumption
    | with_reducible apply wf_done
    | with_reducible apply wf_doneFab
    | with_reducible apply wf_next
    | with_reducible refine wf_same (finishCode_kept _ _ _ _ _).2.2.2 (finishCode_kept _ _ _ _ _).2.2.1 ?_
    | with_reducible apply submitWrite_wf
    | with_reducible apply wf_foldl
    | with_reducible apply wf_iterate
    | with_reducible apply wf_ite_snd
    | split

theorem finishJob_wf (j : Job) (s : State) (hm : Memory.wf s = true) :
    Memory.wf (finishJob j s) = true := by
  unfold finishJob
  try dsimp only
  repeat' first
    | with_reducible assumption
    | with_reducible apply wf_done
    | with_reducible apply wf_doneFab
    | with_reducible apply wf_next
    | with_reducible refine wf_same (finishAnyRead_kept _ _).2.2.2 (finishAnyRead_kept _ _).2.2.1 ?_
    | with_reducible apply finishWrite_wf
    | with_reducible refine wf_same (relayJob_kept _ _ _).2.2.2 (relayJob_kept _ _ _).2.2.1 ?_
    | with_reducible apply wf_foldl
    | with_reducible apply wf_iterate
    | with_reducible apply wf_ite_snd
    | split

theorem execDictOperationDone_wf (s : State) (hm : Memory.wf s = true) :
    Memory.wf (after (execDictOperationDone s) s) = true := by
  unfold execDictOperationDone
  try dsimp only
  repeat' first
    | with_reducible assumption
    | with_reducible apply wf_done
    | with_reducible apply wf_doneFab
    | with_reducible apply wf_next
    | with_reducible apply finishJob_wf
    | with_reducible refine wf_same (freshTx_kept _).2.2.2 (freshTx_kept _).2.2.1 ?_
    | with_reducible refine wf_same (grantNext_kept _).2.2.2 (grantNext_kept _).2.2.1 ?_
    | with_reducible apply takeFrames_wf
    | with_reducible apply wf_foldl
    | with_reducible apply wf_iterate
    | with_reducible apply wf_ite_snd
    | split

theorem execRelayResponse_wf (w : Fin 32) (code : BitVec 32) (data : List Byte) (s : State) (hm : Memory.wf s = true) :
    Memory.wf (after (execRelayResponse w code data s) s) = true := by
  unfold execRelayResponse
  try dsimp only
  repeat' first
    | with_reducible assumption
    | with_reducible apply wf_done
    | with_reducible apply wf_doneFab
    | with_reducible apply wf_next
    | with_reducible refine wf_same (freshTx_kept _).2.2.2 (freshTx_kept _).2.2.1 ?_
    | with_reducible refine wf_same (relayResponse_kept _ _ _ _).2.2.2 (relayResponse_kept _ _ _ _).2.2.1 ?_
    | with_reducible apply takeFrames_wf
    | with_reducible apply wf_foldl
    | with_reducible apply wf_iterate
    | with_reducible apply wf_ite_snd
    | split

theorem execRelayTimeout_wf (w : Fin 32) (s : State) (hm : Memory.wf s = true) :
    Memory.wf (after (execRelayTimeout w s) s) = true := by
  unfold execRelayTimeout
  try dsimp only
  repeat' first
    | with_reducible assumption
    | with_reducible apply wf_done
    | with_reducible apply wf_doneFab
    | with_reducible apply wf_next
    | with_reducible refine wf_same (freshTx_kept _).2.2.2 (freshTx_kept _).2.2.1 ?_
    | with_reducible refine wf_same (relayAbortWith_kept _ _ _).2.2.2 (relayAbortWith_kept _ _ _).2.2.1 ?_
    | with_reducible apply takeFrames_wf
    | with_reducible apply wf_foldl
    | with_reducible apply wf_iterate
    | with_reducible apply wf_ite_snd
    | split

end Sys2Proof.Machine
end

