-- ==== Sys2Proof/Laws/State.lean ====
section
/-! SUPPORT. The named updates of the state: each leaves every other field, and what it writes reads back. -/

namespace Sys2Proof.Machine

/-! Each update leaves every field but its own. -/

@[simp] theorem State.setObj_rest (s : State) (idx sub v : Nat) :
    (s.setObj idx sub v).part = s.part ∧ (s.setObj idx sub v).nvm = s.nvm ∧ (s.setObj idx sub v).backup = s.backup ∧
    (s.setObj idx sub v).rst = s.rst ∧ (s.setObj idx sub v).time = s.time ∧ (s.setObj idx sub v).dev = s.dev ∧
    (s.setObj idx sub v).stg = s.stg ∧ (s.setObj idx sub v).eng = s.eng ∧ (s.setObj idx sub v).can = s.can ∧
    (s.setObj idx sub v).ev = s.ev ∧ (s.setObj idx sub v).fab = s.fab ∧ (s.setObj idx sub v).pat = s.pat ∧
    (s.setObj idx sub v).hold = s.hold ∧ (s.setObj idx sub v).con = s.con ∧ (s.setObj idx sub v).lan = s.lan ∧
    (s.setObj idx sub v).mer = s.mer ∧ (s.setObj idx sub v).noc = s.noc ∧ (s.setObj idx sub v).dram = s.dram ∧
    (s.setObj idx sub v).keep = s.keep ∧ (s.setObj idx sub v).cfg = s.cfg ∧ (s.setObj idx sub v).clk = s.clk ∧
    (s.setObj idx sub v).pwr = s.pwr ∧ (s.setObj idx sub v).pins = s.pins ∧ (s.setObj idx sub v).sec = s.sec ∧
    (s.setObj idx sub v).mem = s.mem ∧ (s.setObj idx sub v).memGen = s.memGen ∧
    (s.setObj idx sub v).dramGen = s.dramGen ∧ (s.setObj idx sub v).freeCtr = s.freeCtr ∧
    (s.setObj idx sub v).pending = s.pending :=
  ⟨rfl, rfl, rfl, rfl, rfl, rfl, rfl, rfl, rfl, rfl, rfl, rfl, rfl, rfl, rfl, rfl, rfl, rfl, rfl, rfl, rfl, rfl, rfl, rfl, rfl, rfl, rfl, rfl, rfl⟩

@[simp] theorem State.setKeeper_rest (s : State) (k : Nat) (x : Keeper) :
    (s.setKeeper k x).part = s.part ∧ (s.setKeeper k x).nvm = s.nvm ∧ (s.setKeeper k x).backup = s.backup ∧
    (s.setKeeper k x).rst = s.rst ∧ (s.setKeeper k x).time = s.time ∧ (s.setKeeper k x).dev = s.dev ∧
    (s.setKeeper k x).dict = s.dict ∧ (s.setKeeper k x).stg = s.stg ∧ (s.setKeeper k x).eng = s.eng ∧
    (s.setKeeper k x).can = s.can ∧ (s.setKeeper k x).ev = s.ev ∧ (s.setKeeper k x).fab = s.fab ∧
    (s.setKeeper k x).pat = s.pat ∧ (s.setKeeper k x).hold = s.hold ∧ (s.setKeeper k x).con = s.con ∧
    (s.setKeeper k x).lan = s.lan ∧ (s.setKeeper k x).mer = s.mer ∧ (s.setKeeper k x).noc = s.noc ∧
    (s.setKeeper k x).dram = s.dram ∧ (s.setKeeper k x).cfg = s.cfg ∧ (s.setKeeper k x).clk = s.clk ∧
    (s.setKeeper k x).pwr = s.pwr ∧ (s.setKeeper k x).pins = s.pins ∧ (s.setKeeper k x).sec = s.sec ∧
    (s.setKeeper k x).mem = s.mem ∧ (s.setKeeper k x).memGen = s.memGen ∧ (s.setKeeper k x).dramGen = s.dramGen ∧
    (s.setKeeper k x).freeCtr = s.freeCtr ∧ (s.setKeeper k x).pending = s.pending :=
  ⟨rfl, rfl, rfl, rfl, rfl, rfl, rfl, rfl, rfl, rfl, rfl, rfl, rfl, rfl, rfl, rfl, rfl, rfl, rfl, rfl, rfl, rfl, rfl, rfl, rfl, rfl, rfl, rfl, rfl⟩

@[simp] theorem raise_rest (s : State) (e : Nat) :
    (raise e s).part = s.part ∧ (raise e s).nvm = s.nvm ∧ (raise e s).backup = s.backup ∧ (raise e s).rst = s.rst ∧
    (raise e s).time = s.time ∧ (raise e s).dev = s.dev ∧ (raise e s).dict = s.dict ∧ (raise e s).stg = s.stg ∧
    (raise e s).eng = s.eng ∧ (raise e s).can = s.can ∧ (raise e s).fab = s.fab ∧ (raise e s).pat = s.pat ∧
    (raise e s).hold = s.hold ∧ (raise e s).con = s.con ∧ (raise e s).lan = s.lan ∧ (raise e s).mer = s.mer ∧
    (raise e s).noc = s.noc ∧ (raise e s).dram = s.dram ∧ (raise e s).keep = s.keep ∧ (raise e s).cfg = s.cfg ∧
    (raise e s).clk = s.clk ∧ (raise e s).pwr = s.pwr ∧ (raise e s).pins = s.pins ∧ (raise e s).sec = s.sec ∧
    (raise e s).mem = s.mem ∧ (raise e s).memGen = s.memGen ∧ (raise e s).dramGen = s.dramGen ∧
    (raise e s).freeCtr = s.freeCtr ∧ (raise e s).pending = s.pending :=
  ⟨rfl, rfl, rfl, rfl, rfl, rfl, rfl, rfl, rfl, rfl, rfl, rfl, rfl, rfl, rfl, rfl, rfl, rfl, rfl, rfl, rfl, rfl, rfl, rfl, rfl, rfl, rfl, rfl, rfl⟩

@[simp] theorem State.draw_rest (s : State)  :
    (s.draw).part = s.part ∧ (s.draw).nvm = s.nvm ∧ (s.draw).backup = s.backup ∧ (s.draw).rst = s.rst ∧
    (s.draw).time = s.time ∧ (s.draw).dev = s.dev ∧ (s.draw).dict = s.dict ∧ (s.draw).stg = s.stg ∧
    (s.draw).eng = s.eng ∧ (s.draw).can = s.can ∧ (s.draw).ev = s.ev ∧ (s.draw).fab = s.fab ∧ (s.draw).pat = s.pat ∧
    (s.draw).hold = s.hold ∧ (s.draw).con = s.con ∧ (s.draw).lan = s.lan ∧ (s.draw).mer = s.mer ∧ (s.draw).noc = s.noc ∧
    (s.draw).dram = s.dram ∧ (s.draw).keep = s.keep ∧ (s.draw).cfg = s.cfg ∧ (s.draw).clk = s.clk ∧
    (s.draw).pwr = s.pwr ∧ (s.draw).pins = s.pins ∧ (s.draw).sec = s.sec ∧ (s.draw).mem = s.mem ∧
    (s.draw).memGen = s.memGen ∧ (s.draw).dramGen = s.dramGen ∧ (s.draw).pending = s.pending :=
  ⟨rfl, rfl, rfl, rfl, rfl, rfl, rfl, rfl, rfl, rfl, rfl, rfl, rfl, rfl, rfl, rfl, rfl, rfl, rfl, rfl, rfl, rfl, rfl, rfl, rfl, rfl, rfl, rfl, rfl⟩

@[simp] theorem reply_rest (s : State) (p idx sub code seq : Nat) (data : List Byte) :
    (reply p idx sub code seq data s).part = s.part ∧ (reply p idx sub code seq data s).nvm = s.nvm ∧
    (reply p idx sub code seq data s).backup = s.backup ∧ (reply p idx sub code seq data s).rst = s.rst ∧
    (reply p idx sub code seq data s).time = s.time ∧ (reply p idx sub code seq data s).dev = s.dev ∧
    (reply p idx sub code seq data s).dict = s.dict ∧ (reply p idx sub code seq data s).stg = s.stg ∧
    (reply p idx sub code seq data s).can = s.can ∧ (reply p idx sub code seq data s).ev = s.ev ∧
    (reply p idx sub code seq data s).fab = s.fab ∧ (reply p idx sub code seq data s).pat = s.pat ∧
    (reply p idx sub code seq data s).hold = s.hold ∧ (reply p idx sub code seq data s).con = s.con ∧
    (reply p idx sub code seq data s).lan = s.lan ∧ (reply p idx sub code seq data s).mer = s.mer ∧
    (reply p idx sub code seq data s).noc = s.noc ∧ (reply p idx sub code seq data s).dram = s.dram ∧
    (reply p idx sub code seq data s).keep = s.keep ∧ (reply p idx sub code seq data s).cfg = s.cfg ∧
    (reply p idx sub code seq data s).clk = s.clk ∧ (reply p idx sub code seq data s).pwr = s.pwr ∧
    (reply p idx sub code seq data s).pins = s.pins ∧ (reply p idx sub code seq data s).sec = s.sec ∧
    (reply p idx sub code seq data s).mem = s.mem ∧ (reply p idx sub code seq data s).memGen = s.memGen ∧
    (reply p idx sub code seq data s).dramGen = s.dramGen ∧ (reply p idx sub code seq data s).freeCtr = s.freeCtr ∧
    (reply p idx sub code seq data s).pending = s.pending :=
  ⟨rfl, rfl, rfl, rfl, rfl, rfl, rfl, rfl, rfl, rfl, rfl, rfl, rfl, rfl, rfl, rfl, rfl, rfl, rfl, rfl, rfl, rfl, rfl, rfl, rfl, rfl, rfl, rfl, rfl⟩

@[simp] theorem State.writeByte_rest (s : State) (a : Nat) (v : Byte) :
    (s.writeByte a v).part = s.part ∧ (s.writeByte a v).nvm = s.nvm ∧ (s.writeByte a v).backup = s.backup ∧
    (s.writeByte a v).rst = s.rst ∧ (s.writeByte a v).time = s.time ∧ (s.writeByte a v).dev = s.dev ∧
    (s.writeByte a v).dict = s.dict ∧ (s.writeByte a v).stg = s.stg ∧ (s.writeByte a v).eng = s.eng ∧
    (s.writeByte a v).can = s.can ∧ (s.writeByte a v).ev = s.ev ∧ (s.writeByte a v).fab = s.fab ∧
    (s.writeByte a v).pat = s.pat ∧ (s.writeByte a v).hold = s.hold ∧ (s.writeByte a v).con = s.con ∧
    (s.writeByte a v).lan = s.lan ∧ (s.writeByte a v).mer = s.mer ∧ (s.writeByte a v).noc = s.noc ∧
    (s.writeByte a v).dram = s.dram ∧ (s.writeByte a v).keep = s.keep ∧ (s.writeByte a v).cfg = s.cfg ∧
    (s.writeByte a v).clk = s.clk ∧ (s.writeByte a v).pwr = s.pwr ∧ (s.writeByte a v).pins = s.pins ∧
    (s.writeByte a v).sec = s.sec ∧ (s.writeByte a v).memGen = s.memGen ∧ (s.writeByte a v).dramGen = s.dramGen ∧
    (s.writeByte a v).freeCtr = s.freeCtr ∧ (s.writeByte a v).pending = s.pending :=
  ⟨rfl, rfl, rfl, rfl, rfl, rfl, rfl, rfl, rfl, rfl, rfl, rfl, rfl, rfl, rfl, rfl, rfl, rfl, rfl, rfl, rfl, rfl, rfl, rfl, rfl, rfl, rfl, rfl, rfl⟩

@[simp] theorem State.fillRange_rest (s : State) (base n : Nat) (f : Nat → Byte) :
    (s.fillRange base n f).part = s.part ∧ (s.fillRange base n f).nvm = s.nvm ∧
    (s.fillRange base n f).backup = s.backup ∧ (s.fillRange base n f).rst = s.rst ∧
    (s.fillRange base n f).time = s.time ∧ (s.fillRange base n f).dev = s.dev ∧ (s.fillRange base n f).dict = s.dict ∧
    (s.fillRange base n f).stg = s.stg ∧ (s.fillRange base n f).eng = s.eng ∧ (s.fillRange base n f).can = s.can ∧
    (s.fillRange base n f).ev = s.ev ∧ (s.fillRange base n f).fab = s.fab ∧ (s.fillRange base n f).pat = s.pat ∧
    (s.fillRange base n f).hold = s.hold ∧ (s.fillRange base n f).con = s.con ∧ (s.fillRange base n f).lan = s.lan ∧
    (s.fillRange base n f).mer = s.mer ∧ (s.fillRange base n f).noc = s.noc ∧ (s.fillRange base n f).dram = s.dram ∧
    (s.fillRange base n f).keep = s.keep ∧ (s.fillRange base n f).cfg = s.cfg ∧ (s.fillRange base n f).clk = s.clk ∧
    (s.fillRange base n f).pwr = s.pwr ∧ (s.fillRange base n f).pins = s.pins ∧ (s.fillRange base n f).sec = s.sec ∧
    (s.fillRange base n f).memGen = s.memGen ∧ (s.fillRange base n f).dramGen = s.dramGen ∧
    (s.fillRange base n f).freeCtr = s.freeCtr ∧ (s.fillRange base n f).pending = s.pending :=
  ⟨rfl, rfl, rfl, rfl, rfl, rfl, rfl, rfl, rfl, rfl, rfl, rfl, rfl, rfl, rfl, rfl, rfl, rfl, rfl, rfl, rfl, rfl, rfl, rfl, rfl, rfl, rfl, rfl, rfl⟩

@[simp] theorem State.setBank_rest (s : State) (st : Nat) (x : PatBank) :
    (s.setBank st x).part = s.part ∧ (s.setBank st x).nvm = s.nvm ∧ (s.setBank st x).backup = s.backup ∧
    (s.setBank st x).rst = s.rst ∧ (s.setBank st x).time = s.time ∧ (s.setBank st x).dev = s.dev ∧
    (s.setBank st x).dict = s.dict ∧ (s.setBank st x).stg = s.stg ∧ (s.setBank st x).eng = s.eng ∧
    (s.setBank st x).can = s.can ∧ (s.setBank st x).ev = s.ev ∧ (s.setBank st x).fab = s.fab ∧
    (s.setBank st x).hold = s.hold ∧ (s.setBank st x).con = s.con ∧ (s.setBank st x).lan = s.lan ∧
    (s.setBank st x).mer = s.mer ∧ (s.setBank st x).noc = s.noc ∧ (s.setBank st x).dram = s.dram ∧
    (s.setBank st x).keep = s.keep ∧ (s.setBank st x).cfg = s.cfg ∧ (s.setBank st x).clk = s.clk ∧
    (s.setBank st x).pwr = s.pwr ∧ (s.setBank st x).pins = s.pins ∧ (s.setBank st x).sec = s.sec ∧
    (s.setBank st x).mem = s.mem ∧ (s.setBank st x).memGen = s.memGen ∧ (s.setBank st x).dramGen = s.dramGen ∧
    (s.setBank st x).freeCtr = s.freeCtr ∧ (s.setBank st x).pending = s.pending :=
  ⟨rfl, rfl, rfl, rfl, rfl, rfl, rfl, rfl, rfl, rfl, rfl, rfl, rfl, rfl, rfl, rfl, rfl, rfl, rfl, rfl, rfl, rfl, rfl, rfl, rfl, rfl, rfl, rfl, rfl⟩

@[simp] theorem State.setStation_rest (s : State) (st : Nat) (x : Station) :
    (s.setStation st x).part = s.part ∧ (s.setStation st x).nvm = s.nvm ∧ (s.setStation st x).backup = s.backup ∧
    (s.setStation st x).rst = s.rst ∧ (s.setStation st x).time = s.time ∧ (s.setStation st x).dev = s.dev ∧
    (s.setStation st x).dict = s.dict ∧ (s.setStation st x).stg = s.stg ∧ (s.setStation st x).eng = s.eng ∧
    (s.setStation st x).can = s.can ∧ (s.setStation st x).ev = s.ev ∧ (s.setStation st x).pat = s.pat ∧
    (s.setStation st x).hold = s.hold ∧ (s.setStation st x).con = s.con ∧ (s.setStation st x).lan = s.lan ∧
    (s.setStation st x).mer = s.mer ∧ (s.setStation st x).noc = s.noc ∧ (s.setStation st x).dram = s.dram ∧
    (s.setStation st x).keep = s.keep ∧ (s.setStation st x).cfg = s.cfg ∧ (s.setStation st x).clk = s.clk ∧
    (s.setStation st x).pwr = s.pwr ∧ (s.setStation st x).pins = s.pins ∧ (s.setStation st x).sec = s.sec ∧
    (s.setStation st x).mem = s.mem ∧ (s.setStation st x).memGen = s.memGen ∧ (s.setStation st x).dramGen = s.dramGen ∧
    (s.setStation st x).freeCtr = s.freeCtr ∧ (s.setStation st x).pending = s.pending :=
  ⟨rfl, rfl, rfl, rfl, rfl, rfl, rfl, rfl, rfl, rfl, rfl, rfl, rfl, rfl, rfl, rfl, rfl, rfl, rfl, rfl, rfl, rfl, rfl, rfl, rfl, rfl, rfl, rfl, rfl⟩

@[simp] theorem State.setUnit_rest (s : State) (u : Nat) (x : HoldUnit) :
    (s.setUnit u x).part = s.part ∧ (s.setUnit u x).nvm = s.nvm ∧ (s.setUnit u x).backup = s.backup ∧
    (s.setUnit u x).rst = s.rst ∧ (s.setUnit u x).time = s.time ∧ (s.setUnit u x).dev = s.dev ∧
    (s.setUnit u x).dict = s.dict ∧ (s.setUnit u x).stg = s.stg ∧ (s.setUnit u x).eng = s.eng ∧
    (s.setUnit u x).can = s.can ∧ (s.setUnit u x).ev = s.ev ∧ (s.setUnit u x).fab = s.fab ∧ (s.setUnit u x).pat = s.pat ∧
    (s.setUnit u x).con = s.con ∧ (s.setUnit u x).lan = s.lan ∧ (s.setUnit u x).mer = s.mer ∧
    (s.setUnit u x).noc = s.noc ∧ (s.setUnit u x).dram = s.dram ∧ (s.setUnit u x).keep = s.keep ∧
    (s.setUnit u x).cfg = s.cfg ∧ (s.setUnit u x).clk = s.clk ∧ (s.setUnit u x).pwr = s.pwr ∧
    (s.setUnit u x).pins = s.pins ∧ (s.setUnit u x).sec = s.sec ∧ (s.setUnit u x).mem = s.mem ∧
    (s.setUnit u x).memGen = s.memGen ∧ (s.setUnit u x).dramGen = s.dramGen ∧ (s.setUnit u x).freeCtr = s.freeCtr ∧
    (s.setUnit u x).pending = s.pending :=
  ⟨rfl, rfl, rfl, rfl, rfl, rfl, rfl, rfl, rfl, rfl, rfl, rfl, rfl, rfl, rfl, rfl, rfl, rfl, rfl, rfl, rfl, rfl, rfl, rfl, rfl, rfl, rfl, rfl, rfl⟩

@[simp] theorem State.setHoldCount_rest (s : State) (st : Nat) (x : HoldCount) :
    (s.setHoldCount st x).part = s.part ∧ (s.setHoldCount st x).nvm = s.nvm ∧ (s.setHoldCount st x).backup = s.backup ∧
    (s.setHoldCount st x).rst = s.rst ∧ (s.setHoldCount st x).time = s.time ∧ (s.setHoldCount st x).dev = s.dev ∧
    (s.setHoldCount st x).dict = s.dict ∧ (s.setHoldCount st x).stg = s.stg ∧ (s.setHoldCount st x).eng = s.eng ∧
    (s.setHoldCount st x).can = s.can ∧ (s.setHoldCount st x).ev = s.ev ∧ (s.setHoldCount st x).fab = s.fab ∧
    (s.setHoldCount st x).pat = s.pat ∧ (s.setHoldCount st x).con = s.con ∧ (s.setHoldCount st x).lan = s.lan ∧
    (s.setHoldCount st x).mer = s.mer ∧ (s.setHoldCount st x).noc = s.noc ∧ (s.setHoldCount st x).dram = s.dram ∧
    (s.setHoldCount st x).keep = s.keep ∧ (s.setHoldCount st x).cfg = s.cfg ∧ (s.setHoldCount st x).clk = s.clk ∧
    (s.setHoldCount st x).pwr = s.pwr ∧ (s.setHoldCount st x).pins = s.pins ∧ (s.setHoldCount st x).sec = s.sec ∧
    (s.setHoldCount st x).mem = s.mem ∧ (s.setHoldCount st x).memGen = s.memGen ∧
    (s.setHoldCount st x).dramGen = s.dramGen ∧ (s.setHoldCount st x).freeCtr = s.freeCtr ∧
    (s.setHoldCount st x).pending = s.pending :=
  ⟨rfl, rfl, rfl, rfl, rfl, rfl, rfl, rfl, rfl, rfl, rfl, rfl, rfl, rfl, rfl, rfl, rfl, rfl, rfl, rfl, rfl, rfl, rfl, rfl, rfl, rfl, rfl, rfl, rfl⟩

@[simp] theorem State.setChannel_rest (s : State) (c : Nat) (x : Channel) :
    (s.setChannel c x).part = s.part ∧ (s.setChannel c x).nvm = s.nvm ∧ (s.setChannel c x).backup = s.backup ∧
    (s.setChannel c x).rst = s.rst ∧ (s.setChannel c x).time = s.time ∧ (s.setChannel c x).dev = s.dev ∧
    (s.setChannel c x).dict = s.dict ∧ (s.setChannel c x).stg = s.stg ∧ (s.setChannel c x).eng = s.eng ∧
    (s.setChannel c x).can = s.can ∧ (s.setChannel c x).ev = s.ev ∧ (s.setChannel c x).fab = s.fab ∧
    (s.setChannel c x).pat = s.pat ∧ (s.setChannel c x).hold = s.hold ∧ (s.setChannel c x).con = s.con ∧
    (s.setChannel c x).lan = s.lan ∧ (s.setChannel c x).mer = s.mer ∧ (s.setChannel c x).noc = s.noc ∧
    (s.setChannel c x).keep = s.keep ∧ (s.setChannel c x).cfg = s.cfg ∧ (s.setChannel c x).clk = s.clk ∧
    (s.setChannel c x).pwr = s.pwr ∧ (s.setChannel c x).pins = s.pins ∧ (s.setChannel c x).sec = s.sec ∧
    (s.setChannel c x).mem = s.mem ∧ (s.setChannel c x).memGen = s.memGen ∧ (s.setChannel c x).dramGen = s.dramGen ∧
    (s.setChannel c x).freeCtr = s.freeCtr ∧ (s.setChannel c x).pending = s.pending :=
  ⟨rfl, rfl, rfl, rfl, rfl, rfl, rfl, rfl, rfl, rfl, rfl, rfl, rfl, rfl, rfl, rfl, rfl, rfl, rfl, rfl, rfl, rfl, rfl, rfl, rfl, rfl, rfl, rfl, rfl⟩

@[simp] theorem State.setCell_rest (s : State) (c off : Nat) (b : SubBurst) :
    (s.setCell c off b).part = s.part ∧ (s.setCell c off b).nvm = s.nvm ∧ (s.setCell c off b).backup = s.backup ∧
    (s.setCell c off b).rst = s.rst ∧ (s.setCell c off b).time = s.time ∧ (s.setCell c off b).dev = s.dev ∧
    (s.setCell c off b).dict = s.dict ∧ (s.setCell c off b).stg = s.stg ∧ (s.setCell c off b).eng = s.eng ∧
    (s.setCell c off b).can = s.can ∧ (s.setCell c off b).ev = s.ev ∧ (s.setCell c off b).fab = s.fab ∧
    (s.setCell c off b).pat = s.pat ∧ (s.setCell c off b).hold = s.hold ∧ (s.setCell c off b).con = s.con ∧
    (s.setCell c off b).lan = s.lan ∧ (s.setCell c off b).mer = s.mer ∧ (s.setCell c off b).noc = s.noc ∧
    (s.setCell c off b).keep = s.keep ∧ (s.setCell c off b).cfg = s.cfg ∧ (s.setCell c off b).clk = s.clk ∧
    (s.setCell c off b).pwr = s.pwr ∧ (s.setCell c off b).pins = s.pins ∧ (s.setCell c off b).sec = s.sec ∧
    (s.setCell c off b).mem = s.mem ∧ (s.setCell c off b).memGen = s.memGen ∧ (s.setCell c off b).dramGen = s.dramGen ∧
    (s.setCell c off b).freeCtr = s.freeCtr ∧ (s.setCell c off b).pending = s.pending :=
  ⟨rfl, rfl, rfl, rfl, rfl, rfl, rfl, rfl, rfl, rfl, rfl, rfl, rfl, rfl, rfl, rfl, rfl, rfl, rfl, rfl, rfl, rfl, rfl, rfl, rfl, rfl, rfl, rfl, rfl⟩

@[simp] theorem State.setStream_rest (s : State) (i : Nat) (x : Stream) :
    (s.setStream i x).part = s.part ∧ (s.setStream i x).nvm = s.nvm ∧ (s.setStream i x).backup = s.backup ∧
    (s.setStream i x).rst = s.rst ∧ (s.setStream i x).time = s.time ∧ (s.setStream i x).dev = s.dev ∧
    (s.setStream i x).dict = s.dict ∧ (s.setStream i x).stg = s.stg ∧ (s.setStream i x).eng = s.eng ∧
    (s.setStream i x).can = s.can ∧ (s.setStream i x).ev = s.ev ∧ (s.setStream i x).fab = s.fab ∧
    (s.setStream i x).pat = s.pat ∧ (s.setStream i x).hold = s.hold ∧ (s.setStream i x).con = s.con ∧
    (s.setStream i x).lan = s.lan ∧ (s.setStream i x).mer = s.mer ∧ (s.setStream i x).noc = s.noc ∧
    (s.setStream i x).keep = s.keep ∧ (s.setStream i x).cfg = s.cfg ∧ (s.setStream i x).clk = s.clk ∧
    (s.setStream i x).pwr = s.pwr ∧ (s.setStream i x).pins = s.pins ∧ (s.setStream i x).sec = s.sec ∧
    (s.setStream i x).mem = s.mem ∧ (s.setStream i x).memGen = s.memGen ∧ (s.setStream i x).dramGen = s.dramGen ∧
    (s.setStream i x).freeCtr = s.freeCtr ∧ (s.setStream i x).pending = s.pending :=
  ⟨rfl, rfl, rfl, rfl, rfl, rfl, rfl, rfl, rfl, rfl, rfl, rfl, rfl, rfl, rfl, rfl, rfl, rfl, rfl, rfl, rfl, rfl, rfl, rfl, rfl, rfl, rfl, rfl, rfl⟩

@[simp] theorem State.setWorker_rest (s : State) (w : Nat) (x : Worker) :
    (s.setWorker w x).part = s.part ∧ (s.setWorker w x).nvm = s.nvm ∧ (s.setWorker w x).backup = s.backup ∧
    (s.setWorker w x).rst = s.rst ∧ (s.setWorker w x).time = s.time ∧ (s.setWorker w x).dev = s.dev ∧
    (s.setWorker w x).dict = s.dict ∧ (s.setWorker w x).stg = s.stg ∧ (s.setWorker w x).eng = s.eng ∧
    (s.setWorker w x).can = s.can ∧ (s.setWorker w x).ev = s.ev ∧ (s.setWorker w x).fab = s.fab ∧
    (s.setWorker w x).pat = s.pat ∧ (s.setWorker w x).hold = s.hold ∧ (s.setWorker w x).con = s.con ∧
    (s.setWorker w x).lan = s.lan ∧ (s.setWorker w x).noc = s.noc ∧ (s.setWorker w x).dram = s.dram ∧
    (s.setWorker w x).keep = s.keep ∧ (s.setWorker w x).cfg = s.cfg ∧ (s.setWorker w x).clk = s.clk ∧
    (s.setWorker w x).pwr = s.pwr ∧ (s.setWorker w x).pins = s.pins ∧ (s.setWorker w x).sec = s.sec ∧
    (s.setWorker w x).mem = s.mem ∧ (s.setWorker w x).memGen = s.memGen ∧ (s.setWorker w x).dramGen = s.dramGen ∧
    (s.setWorker w x).freeCtr = s.freeCtr ∧ (s.setWorker w x).pending = s.pending :=
  ⟨rfl, rfl, rfl, rfl, rfl, rfl, rfl, rfl, rfl, rfl, rfl, rfl, rfl, rfl, rfl, rfl, rfl, rfl, rfl, rfl, rfl, rfl, rfl, rfl, rfl, rfl, rfl, rfl, rfl⟩

@[simp] theorem State.setSession_rest (s : State) (c : Nat) (x : Session) :
    (s.setSession c x).part = s.part ∧ (s.setSession c x).nvm = s.nvm ∧ (s.setSession c x).backup = s.backup ∧
    (s.setSession c x).rst = s.rst ∧ (s.setSession c x).time = s.time ∧ (s.setSession c x).dev = s.dev ∧
    (s.setSession c x).dict = s.dict ∧ (s.setSession c x).stg = s.stg ∧ (s.setSession c x).can = s.can ∧
    (s.setSession c x).ev = s.ev ∧ (s.setSession c x).fab = s.fab ∧ (s.setSession c x).pat = s.pat ∧
    (s.setSession c x).hold = s.hold ∧ (s.setSession c x).con = s.con ∧ (s.setSession c x).lan = s.lan ∧
    (s.setSession c x).mer = s.mer ∧ (s.setSession c x).noc = s.noc ∧ (s.setSession c x).dram = s.dram ∧
    (s.setSession c x).keep = s.keep ∧ (s.setSession c x).cfg = s.cfg ∧ (s.setSession c x).clk = s.clk ∧
    (s.setSession c x).pwr = s.pwr ∧ (s.setSession c x).pins = s.pins ∧ (s.setSession c x).sec = s.sec ∧
    (s.setSession c x).mem = s.mem ∧ (s.setSession c x).memGen = s.memGen ∧ (s.setSession c x).dramGen = s.dramGen ∧
    (s.setSession c x).freeCtr = s.freeCtr ∧ (s.setSession c x).pending = s.pending :=
  ⟨rfl, rfl, rfl, rfl, rfl, rfl, rfl, rfl, rfl, rfl, rfl, rfl, rfl, rfl, rfl, rfl, rfl, rfl, rfl, rfl, rfl, rfl, rfl, rfl, rfl, rfl, rfl, rfl, rfl⟩

@[simp] theorem State.setGroup_rest (s : State) (g : Nat) (x : Group) :
    (s.setGroup g x).part = s.part ∧ (s.setGroup g x).nvm = s.nvm ∧ (s.setGroup g x).backup = s.backup ∧
    (s.setGroup g x).rst = s.rst ∧ (s.setGroup g x).time = s.time ∧ (s.setGroup g x).dev = s.dev ∧
    (s.setGroup g x).dict = s.dict ∧ (s.setGroup g x).stg = s.stg ∧ (s.setGroup g x).eng = s.eng ∧
    (s.setGroup g x).can = s.can ∧ (s.setGroup g x).ev = s.ev ∧ (s.setGroup g x).fab = s.fab ∧
    (s.setGroup g x).pat = s.pat ∧ (s.setGroup g x).hold = s.hold ∧ (s.setGroup g x).con = s.con ∧
    (s.setGroup g x).mer = s.mer ∧ (s.setGroup g x).noc = s.noc ∧ (s.setGroup g x).dram = s.dram ∧
    (s.setGroup g x).keep = s.keep ∧ (s.setGroup g x).cfg = s.cfg ∧ (s.setGroup g x).clk = s.clk ∧
    (s.setGroup g x).pwr = s.pwr ∧ (s.setGroup g x).pins = s.pins ∧ (s.setGroup g x).sec = s.sec ∧
    (s.setGroup g x).mem = s.mem ∧ (s.setGroup g x).memGen = s.memGen ∧ (s.setGroup g x).dramGen = s.dramGen ∧
    (s.setGroup g x).freeCtr = s.freeCtr ∧ (s.setGroup g x).pending = s.pending :=
  ⟨rfl, rfl, rfl, rfl, rfl, rfl, rfl, rfl, rfl, rfl, rfl, rfl, rfl, rfl, rfl, rfl, rfl, rfl, rfl, rfl, rfl, rfl, rfl, rfl, rfl, rfl, rfl, rfl, rfl⟩

@[simp] theorem State.setLane_rest (s : State) (i : Nat) (x : Lane) :
    (s.setLane i x).part = s.part ∧ (s.setLane i x).nvm = s.nvm ∧ (s.setLane i x).backup = s.backup ∧
    (s.setLane i x).rst = s.rst ∧ (s.setLane i x).time = s.time ∧ (s.setLane i x).dev = s.dev ∧
    (s.setLane i x).dict = s.dict ∧ (s.setLane i x).stg = s.stg ∧ (s.setLane i x).eng = s.eng ∧
    (s.setLane i x).can = s.can ∧ (s.setLane i x).ev = s.ev ∧ (s.setLane i x).fab = s.fab ∧ (s.setLane i x).pat = s.pat ∧
    (s.setLane i x).hold = s.hold ∧ (s.setLane i x).con = s.con ∧ (s.setLane i x).mer = s.mer ∧
    (s.setLane i x).noc = s.noc ∧ (s.setLane i x).dram = s.dram ∧ (s.setLane i x).keep = s.keep ∧
    (s.setLane i x).cfg = s.cfg ∧ (s.setLane i x).clk = s.clk ∧ (s.setLane i x).pwr = s.pwr ∧
    (s.setLane i x).pins = s.pins ∧ (s.setLane i x).sec = s.sec ∧ (s.setLane i x).mem = s.mem ∧
    (s.setLane i x).memGen = s.memGen ∧ (s.setLane i x).dramGen = s.dramGen ∧ (s.setLane i x).freeCtr = s.freeCtr ∧
    (s.setLane i x).pending = s.pending :=
  ⟨rfl, rfl, rfl, rfl, rfl, rfl, rfl, rfl, rfl, rfl, rfl, rfl, rfl, rfl, rfl, rfl, rfl, rfl, rfl, rfl, rfl, rfl, rfl, rfl, rfl, rfl, rfl, rfl, rfl⟩

@[simp] theorem State.setMover_rest (s : State) (e : Nat) (x : MoveEngine) :
    (s.setMover e x).part = s.part ∧ (s.setMover e x).nvm = s.nvm ∧ (s.setMover e x).backup = s.backup ∧
    (s.setMover e x).rst = s.rst ∧ (s.setMover e x).time = s.time ∧ (s.setMover e x).dev = s.dev ∧
    (s.setMover e x).dict = s.dict ∧ (s.setMover e x).stg = s.stg ∧ (s.setMover e x).eng = s.eng ∧
    (s.setMover e x).can = s.can ∧ (s.setMover e x).ev = s.ev ∧ (s.setMover e x).fab = s.fab ∧
    (s.setMover e x).pat = s.pat ∧ (s.setMover e x).hold = s.hold ∧ (s.setMover e x).con = s.con ∧
    (s.setMover e x).lan = s.lan ∧ (s.setMover e x).mer = s.mer ∧ (s.setMover e x).dram = s.dram ∧
    (s.setMover e x).keep = s.keep ∧ (s.setMover e x).cfg = s.cfg ∧ (s.setMover e x).clk = s.clk ∧
    (s.setMover e x).pwr = s.pwr ∧ (s.setMover e x).pins = s.pins ∧ (s.setMover e x).sec = s.sec ∧
    (s.setMover e x).mem = s.mem ∧ (s.setMover e x).memGen = s.memGen ∧ (s.setMover e x).dramGen = s.dramGen ∧
    (s.setMover e x).freeCtr = s.freeCtr ∧ (s.setMover e x).pending = s.pending :=
  ⟨rfl, rfl, rfl, rfl, rfl, rfl, rfl, rfl, rfl, rfl, rfl, rfl, rfl, rfl, rfl, rfl, rfl, rfl, rfl, rfl, rfl, rfl, rfl, rfl, rfl, rfl, rfl, rfl, rfl⟩

@[simp] theorem State.setWatch_rest (s : State) (w : Nat) (x : PinWatch) :
    (s.setWatch w x).part = s.part ∧ (s.setWatch w x).nvm = s.nvm ∧ (s.setWatch w x).backup = s.backup ∧
    (s.setWatch w x).rst = s.rst ∧ (s.setWatch w x).time = s.time ∧ (s.setWatch w x).dev = s.dev ∧
    (s.setWatch w x).dict = s.dict ∧ (s.setWatch w x).stg = s.stg ∧ (s.setWatch w x).eng = s.eng ∧
    (s.setWatch w x).can = s.can ∧ (s.setWatch w x).ev = s.ev ∧ (s.setWatch w x).fab = s.fab ∧
    (s.setWatch w x).pat = s.pat ∧ (s.setWatch w x).hold = s.hold ∧ (s.setWatch w x).con = s.con ∧
    (s.setWatch w x).lan = s.lan ∧ (s.setWatch w x).mer = s.mer ∧ (s.setWatch w x).noc = s.noc ∧
    (s.setWatch w x).dram = s.dram ∧ (s.setWatch w x).keep = s.keep ∧ (s.setWatch w x).cfg = s.cfg ∧
    (s.setWatch w x).clk = s.clk ∧ (s.setWatch w x).pwr = s.pwr ∧ (s.setWatch w x).sec = s.sec ∧
    (s.setWatch w x).mem = s.mem ∧ (s.setWatch w x).memGen = s.memGen ∧ (s.setWatch w x).dramGen = s.dramGen ∧
    (s.setWatch w x).freeCtr = s.freeCtr ∧ (s.setWatch w x).pending = s.pending :=
  ⟨rfl, rfl, rfl, rfl, rfl, rfl, rfl, rfl, rfl, rfl, rfl, rfl, rfl, rfl, rfl, rfl, rfl, rfl, rfl, rfl, rfl, rfl, rfl, rfl, rfl, rfl, rfl, rfl, rfl⟩

@[simp] theorem setConsumer_rest (s : State) (n : Nat) (x : Consumer) :
    (setConsumer n x s).part = s.part ∧ (setConsumer n x s).nvm = s.nvm ∧ (setConsumer n x s).backup = s.backup ∧
    (setConsumer n x s).rst = s.rst ∧ (setConsumer n x s).time = s.time ∧ (setConsumer n x s).dev = s.dev ∧
    (setConsumer n x s).dict = s.dict ∧ (setConsumer n x s).stg = s.stg ∧ (setConsumer n x s).eng = s.eng ∧
    (setConsumer n x s).ev = s.ev ∧ (setConsumer n x s).fab = s.fab ∧ (setConsumer n x s).pat = s.pat ∧
    (setConsumer n x s).hold = s.hold ∧ (setConsumer n x s).con = s.con ∧ (setConsumer n x s).lan = s.lan ∧
    (setConsumer n x s).mer = s.mer ∧ (setConsumer n x s).noc = s.noc ∧ (setConsumer n x s).dram = s.dram ∧
    (setConsumer n x s).keep = s.keep ∧ (setConsumer n x s).cfg = s.cfg ∧ (setConsumer n x s).clk = s.clk ∧
    (setConsumer n x s).pwr = s.pwr ∧ (setConsumer n x s).pins = s.pins ∧ (setConsumer n x s).sec = s.sec ∧
    (setConsumer n x s).mem = s.mem ∧ (setConsumer n x s).memGen = s.memGen ∧ (setConsumer n x s).dramGen = s.dramGen ∧
    (setConsumer n x s).freeCtr = s.freeCtr ∧ (setConsumer n x s).pending = s.pending :=
  ⟨rfl, rfl, rfl, rfl, rfl, rfl, rfl, rfl, rfl, rfl, rfl, rfl, rfl, rfl, rfl, rfl, rfl, rfl, rfl, rfl, rfl, rfl, rfl, rfl, rfl, rfl, rfl, rfl, rfl⟩

/-! What is written reads back, and every other entry reads as before. -/

theorem State.keeper_setKeeper (s : State) (k j : Nat) (x : Keeper) :
    (s.setKeeper k x).keeper j = if j = k then x else s.keeper j := Tbl.at_upd _ _ _ _ _

@[simp] theorem State.keeper_setKeeper_same (s : State) (k : Nat) (x : Keeper) : (s.setKeeper k x).keeper k = x :=
  Tbl.at_upd_same _ _ _ _

/-- Two logical stations are served by two physical stations (R20). -/
theorem State.physOf_inj (s : State) (i j : Nat) : s.physOf i = s.physOf j ↔ i = j := by
  refine ⟨fun h => ?_, fun h => h ▸ rfl⟩
  have b : ∀ m c : Nat, c ≤ physColumn m c ∧ physColumn m c ≤ c + 1 := by
    intro m c; unfold physColumn; split <;> omega
  unfold State.physOf at h
  have hi := b (s.skipColumn (i / 16)) (i % 16)
  have hj := b (s.skipColumn (j / 16)) (j % 16)
  have hd : i / 16 = j / 16 := by omega
  rw [hd] at h
  have hc : i % 16 = j % 16 := by
    revert h; unfold physColumn; (repeat' split) <;> omega
  omega

theorem State.bank_setBank (s : State) (st j : Nat) (x : PatBank) :
    (s.setBank st x).bank j = if j = st then x else s.bank j := by
  refine (Tbl.at_upd _ _ _ _ _).trans ?_
  simp only [State.bank, show (s.setBank st x).physOf j = s.physOf j from rfl, State.physOf_inj]

@[simp] theorem State.bank_setBank_same (s : State) (st : Nat) (x : PatBank) : (s.setBank st x).bank st = x :=
  Tbl.at_upd_same _ _ _ _

theorem State.station_setStation (s : State) (st j : Nat) (x : Station) :
    (s.setStation st x).station j = if j = st then x else s.station j := by
  refine (Tbl.at_upd _ _ _ _ _).trans ?_
  simp only [State.station, show (s.setStation st x).physOf j = s.physOf j from rfl, State.physOf_inj]

@[simp] theorem State.station_setStation_same (s : State) (st : Nat) (x : Station) : (s.setStation st x).station st = x :=
  Tbl.at_upd_same _ _ _ _

theorem State.unit_setUnit (s : State) (u j : Nat) (x : HoldUnit) :
    (s.setUnit u x).unit j = if j = u then x else s.unit j := Tbl.at_upd _ _ _ _ _

@[simp] theorem State.unit_setUnit_same (s : State) (u : Nat) (x : HoldUnit) : (s.setUnit u x).unit u = x :=
  Tbl.at_upd_same _ _ _ _

theorem State.holdCount_setHoldCount (s : State) (st j : Nat) (x : HoldCount) :
    (s.setHoldCount st x).holdCount j = if j = st then x else s.holdCount j := Tbl.at_upd _ _ _ _ _

@[simp] theorem State.holdCount_setHoldCount_same (s : State) (st : Nat) (x : HoldCount) : (s.setHoldCount st x).holdCount st = x :=
  Tbl.at_upd_same _ _ _ _

theorem State.channel_setChannel (s : State) (c j : Nat) (x : Channel) :
    (s.setChannel c x).channel j = if j = c then x else s.channel j := Tbl.at_upd _ _ _ _ _

@[simp] theorem State.channel_setChannel_same (s : State) (c : Nat) (x : Channel) : (s.setChannel c x).channel c = x :=
  Tbl.at_upd_same _ _ _ _

theorem State.stream_setStream (s : State) (i j : Nat) (x : Stream) :
    (s.setStream i x).stream j = if j = i then x else s.stream j := Tbl.at_upd _ _ _ _ _

@[simp] theorem State.stream_setStream_same (s : State) (i : Nat) (x : Stream) : (s.setStream i x).stream i = x :=
  Tbl.at_upd_same _ _ _ _

theorem State.worker_setWorker (s : State) (w j : Nat) (x : Worker) :
    (s.setWorker w x).worker j = if j = w then x else s.worker j := Tbl.at_upd _ _ _ _ _

@[simp] theorem State.worker_setWorker_same (s : State) (w : Nat) (x : Worker) : (s.setWorker w x).worker w = x :=
  Tbl.at_upd_same _ _ _ _

theorem State.session_setSession (s : State) (c j : Nat) (x : Session) :
    (s.setSession c x).session j = if j = c then x else s.session j := Tbl.at_upd _ _ _ _ _

@[simp] theorem State.session_setSession_same (s : State) (c : Nat) (x : Session) : (s.setSession c x).session c = x :=
  Tbl.at_upd_same _ _ _ _

theorem State.group_setGroup (s : State) (g j : Nat) (x : Group) :
    (s.setGroup g x).group j = if j = g then x else s.group j := Tbl.at_upd _ _ _ _ _

@[simp] theorem State.group_setGroup_same (s : State) (g : Nat) (x : Group) : (s.setGroup g x).group g = x :=
  Tbl.at_upd_same _ _ _ _

theorem State.lane_setLane (s : State) (i j : Nat) (x : Lane) :
    (s.setLane i x).lane j = if j = i then x else s.lane j := Tbl.at_upd _ _ _ _ _

@[simp] theorem State.lane_setLane_same (s : State) (i : Nat) (x : Lane) : (s.setLane i x).lane i = x :=
  Tbl.at_upd_same _ _ _ _

theorem State.obj_setObj (s : State) (idx sub v i j : Nat) :
    (s.setObj idx sub v).obj i j = if okey i j = okey idx sub then v else s.obj i j := Tbl.get_set _ _ _ _ _

@[simp] theorem State.obj_setObj_same (s : State) (idx sub v : Nat) : (s.setObj idx sub v).obj idx sub = v :=
  Tbl.get_set_same _ _ _ _

/-- The answer on a path is the one written last. -/
theorem answers_reply (s : State) (p idx sub code seq : Nat) (data : List Byte) (q : Nat) :
    Tbl.at {} (reply p idx sub code seq data s).eng.answers q =
      if q = p then ⟨idx, sub, code, seq, data⟩ else Tbl.at {} s.eng.answers q := Tbl.at_upd _ _ _ _ _

/-! A whole object read where no command has written it is its default. -/

theorem State.obj_reset (idx sub : Nat) : State.reset.obj idx sub = objDefault (okey idx sub) := rfl

/-- A raise waits for the event block with the rotation and beat of its condition (R484). -/
theorem raise_waiting (e : Nat) (s : State) : (raise e s).ev.waiting = s.ev.waiting ++ [s.stampOf e] := rfl

end Sys2Proof.Machine
end

