-- ==== Sys2Proof/Machine/Package.lean ====
section
/-! DEFINITION. Package and ratings: speed bins and ordering codes, the package rails and their windows, and the ball of every GPIO,
test-port master and dedicated signal (R441, R498 to R502, R509). -/

namespace Sys2Proof.Machine

/-! Speed bins (R502, Table 21-4). -/

/-- VL3 of a speed bin, in mV. -/
def binMillivolts (bin : Nat) : Nat := 600 + 40 * bin

/-! Package rails (R498 to R500, Tables 21-1 and 21-2). -/

/-- The package rails. -/
inductive Rail where
  | vddBase | vinStk | vddLane | vddhLane | vddqMem | vdd2Mem | vioGp | vioSvc | vbak
  deriving DecidableEq, Repr

/-- Nominal voltage in mV; a GPIO bank rail of the 3.3 V class has 3,300. -/
def railNominal (gp33 : Bool) (r : Rail) : Nat :=
  match r with
  | .vddBase => 750
  | .vinStk => 1800
  | .vddLane => 900
  | .vddhLane => 1200
  | .vddqMem => 500
  | .vdd2Mem => 1050
  | .vioGp => if gp33 then 3300 else 1800
  | .vioSvc => 1800
  | .vbak => 3000

/-- Absolute maximum of a rail, in mV (Table 21-1). -/
def railMaximum (r : Rail) : Nat :=
  match r with
  | .vddBase => 900
  | .vinStk => 2100
  | .vddLane => 1050
  | .vddhLane => 1400
  | .vddqMem => 700
  | .vdd2Mem => 1250
  | .vioGp => 3960
  | .vioSvc => 2200
  | .vbak => 4000

/-- A rail at `mv` is inside its monitor window: ±7 % of nominal, the class of R443 for a GPIO bank rail, 1.9 V and up for VBAK
(Table 21-2). -/
def railInWindow (r : Rail) (mv : Nat) : Bool :=
  match r with
  | .vioGp => decide (bankClass mv ≠ 0)
  | .vbak => decide (1900 ≤ mv)
  | r => decide (93 * railNominal false r ≤ 100 * mv) && decide (100 * mv ≤ 107 * railNominal false r)

/-! The ball map (R509, Table 21-8); a ball is its row and its column. -/

/-- Ball of GPp. -/
def gpioBall (p : Nat) : Nat × Nat :=
  let b := p / 16
  let i := p % 16
  if b < 3 then (9 + i / 4, 9 + 7 * b + i % 4) else (51 + i / 4, 33 + 7 * (b - 3) + i % 4)

/-- Ball of VIO_GPb. -/
def vioBall (b : Nat) : Nat × Nat := if b < 3 then (9, 13 + 7 * b) else (51, 37 + 7 * (b - 3))

/-- Ball of test-port master signal `j` of chain port `c`, in the order MTCK, MTMS, MTDI, MTDO, MTWD[0] to MTWD[7], MTWCK. -/
def masterBall (c j : Nat) : Nat × Nat := (51 + j % 4, 9 + 6 * c + j / 4)

/-- The dedicated signals of Table 21-8. -/
inductive Dedicated where
  | tck | tms | tdi | tdo | twck | twd (k : Fin 8) | canTxd | canRxd | pmbusScl | pmbusSda | pmbusAlertN | beacon | diodeA
  | diodeK | resetN | wresetN | role | tamper0 | tamper1 | vioSvc (n : Fin 3) | refclkP | refclkN | xoP | xoN | vbak
  deriving DecidableEq, Repr

/-- Ball of a dedicated signal. -/
def dedicatedBall (d : Dedicated) : Nat × Nat :=
  match d with
  | .tck => (9, 31)
  | .tms => (9, 32)
  | .tdi => (9, 33)
  | .tdo => (9, 34)
  | .twck => (9, 36)
  | .twd k => (10, 31 + k.val)
  | .canTxd => (9, 40)
  | .canRxd => (9, 41)
  | .pmbusScl => (9, 43)
  | .pmbusSda => (9, 44)
  | .pmbusAlertN => (9, 45)
  | .beacon => (9, 47)
  | .diodeA => (14, 29)
  | .diodeK => (14, 30)
  | .resetN => (11, 31)
  | .wresetN => (11, 32)
  | .role => (11, 34)
  | .tamper0 => (11, 36)
  | .tamper1 => (11, 37)
  | .vioSvc n => (12, [31, 40, 50].getD n.val 31)
  | .refclkP => (13, 29)
  | .refclkN => (13, 30)
  | .xoP => (13, 33)
  | .xoN => (13, 34)
  | .vbak => (14, 34)

end Sys2Proof.Machine
end

