-- ==== Sys2Proof/Machine/Rates.lean ====
section
/-! DEFINITION. Rates and set points that the manual tabulates and software does not read back: CAN bit timing, the clock loops and
domains, and the integrated regulators (R196, R339, R340, R387, R390, R393, R406). -/

namespace Sys2Proof.Machine

/-! CAN bit timing (R339, R340, Table 13-3). -/

/-- Time quanta of 12.5 ns in a bit's segments, and the synchronisation jump width. -/
structure BitTiming where
  sync : Nat
  tseg1 : Nat
  tseg2 : Nat
  sjw : Nat
  deriving DecidableEq, Repr

/-- Time quanta of a bit. -/
def BitTiming.quanta (x : BitTiming) : Nat := x.sync + x.tseg1 + x.tseg2

/-- Nominal phase, by NOM_RATE. -/
def nominalTiming (code : Nat) : Option BitTiming :=
  match code with
  | 0 => some ⟨1, 127, 32, 32⟩
  | 1 => some ⟨1, 63, 16, 16⟩
  | _ => none

/-- Data phase, by DATA_RATE; code 3 is reserved. -/
def dataTiming (code : Nat) : Option BitTiming :=
  match code with
  | 0 => some ⟨1, 29, 10, 10⟩
  | 1 => some ⟨1, 11, 4, 4⟩
  | 2 => some ⟨1, 6, 3, 3⟩
  | _ => none

/-- The timing in use, nominal and data. -/
def Can.timing (c : Can) : Option BitTiming × Option BitTiming := (nominalTiming c.nomRate, dataTiming c.dataRate)

/-- Transmitter delay compensation is enabled at 5 and 8 Mbit/s. -/
def Can.delayCompensation (c : Can) : Bool := c.dataRate == 1 || c.dataRate == 2

/-! Loops and domains (R387, R390, R393, Tables 15-1 and 15-3). -/

/-- Rate of a data lane of group `g`, kbit/s: twice the output of its transmit loop, 6 × N_UI / M times LTX. -/
def State.laneKbps (s : State) (g : Nat) : Nat := s.nui g * s.fRef

/-- The clock domains of Table 15-3; LRX has one instance for each lane group. -/
inductive Domain where
  | aon | bak | svc | can | test | twide | beat | fab | trv | pat | hold | cfg | noc | keep | ltx
  | lrx (group : Fin 32)
  | memc | mphy
  deriving DecidableEq, Repr

/-- A divider code of Table 15-4. -/
def divider (code : Nat) : Nat := 16 + 4 * code

/-- SVC and CFG run from the root: the Lantern loop has locked and is not locking anew or off (R393). -/
def State.fromRoot (s : State) : Bool := decide (s.clk.lantern ≠ .off) && decide (s.clk.lantern ≠ .locking)

/-- Nominal frequency of a domain as a fraction, kHz; `none` for a clock that comes from outside (TCK, TWCK). -/
def State.domainKhz (s : State) (d : Domain) : Option (Nat × Nat) :=
  let word := s.obj 0x2100 3
  let slow (lo : Nat) : Nat × Nat := if s.fromRoot then (s.rootKhz, divider (bitsAt word lo 4)) else (2000000, 8)
  match d with
  | .aon => some (32000, 1)
  | .bak => some (32768, 1000)
  | .svc => some (slow 0)
  | .can => some (2000000, 25)
  | .test => none
  | .twide => none
  | .beat => some (s.rootKhz, s.M)
  | .fab => some (s.rootKhz, 8)
  | .trv => some (s.rootKhz, 8)
  | .pat => some (s.rootKhz, 16)
  | .hold => some (s.rootKhz, 8)
  | .cfg => some (slow 4)
  | .noc => some (s.rootKhz, 4)
  | .keep => some (s.rootKhz, 4)
  | .ltx => some (s.rootKhz, 12)
  | .lrx g => some (s.laneKbps g.val, 4)
  | .memc => some (rateUnits (s.obj 0x3800 1) * 20000, 3)
  | .mphy => some (rateUnits (s.obj 0x3800 1) * 160000, 3)

/-! Integrated regulators (R406, Table 16-2). -/

/-- Maximum current of VL(i + 1), A. -/
def regulatorAmps (i : Fin 4) : Nat :=
  match i with
  | 0 => 30
  | 1 => 15
  | 2 => 240
  | 3 => 30

/-- Set point of VL(i + 1), mV: VL2 is lowered in DEEP, VL3 is fixed by the speed bin. -/
def State.setPointMv (s : State) (i : Fin 4) : Nat :=
  match i with
  | 0 => 700
  | 1 => if s.pwr.state = 2 then 550 else 700
  | 2 => binMillivolts s.part.binCode
  | 3 => 700

/-- An output is inside its ±3 % window. -/
def State.regulatorInWindow (s : State) (i : Fin 4) (mv : Nat) : Bool :=
  decide (97 * s.setPointMv i ≤ 100 * mv) && decide (100 * mv ≤ 103 * s.setPointMv i)

end Sys2Proof.Machine
end

