-- ==== Sys2Proof/WellFormed.lean ====
section
/-! DEFINITION. Which commands are well formed: operands whose types are wider than what the spec admits are checked here
(flit sizes, tag pools, list lengths). -/

namespace Sys2Proof

/-- Size of a requester's tag pool (R259, Table 10-5). -/
def Requester.pool : Requester → Nat
  | .keeper _ => 512
  | .dict => 1024
  | .config => 1024
  | .move _ => 2048
  | .carriage _ => 64
  | .eyeScan _ => 32
  | .security => 1024

/-- The tag belongs to the requester's pool (R259). -/
def ReqId.ok (r : ReqId) : Bool := decide (r.tag < r.src.pool)

/-- At most one flit's payload (R252). -/
def fitsFlit (d : List Byte) : Bool := decide (d.length ≤ 64)

/-- A DICT word's OP is the row's own, or 3 to poll (R355, Table 13-10). -/
def surveyOp (w : BitVec 128) (op : Nat) : Bool :=
  decide (w.toNat / 2 ^ 102 % 4 = op) || decide (w.toNat / 2 ^ 102 % 4 = 3)

/-- A command's operands lie in the ranges the spec gives them. -/
def Instr.ranged : Instr → Bool
  | .patternLineRead r _ n => r.ok && decide (n ≤ 64)
  | .patternLineWrite r _ d => r.ok && fitsFlit d
  | .holdNocReadRow r _ n e => r.ok && decide (n ≤ 64) && decide (e.length ≤ 16)
  | .holdNocWriteRow r _ d _ => r.ok && fitsFlit d
  | .holdNocWriteWord r _ _ _ => r.ok
  | .nocResponse r _ => r.ok
  | .nocTimeout r => r.ok
  | .dramRead r _ _ _ => r.ok
  | .dramWriteLine r _ _ _ => r.ok
  | .dramWriteWord r _ _ _ _ _ => r.ok
  | .keeperCodeStoreWrite r _ d _ => r.ok && fitsFlit d
  | .windowRead r _ _ _ _ _ => r.ok
  | .windowWriteSegment r _ _ _ _ _ d => r.ok && decide (d.length = 48)
  | .windowWriteFinal r _ _ _ _ _ d => r.ok && decide (d.length = 48)
  | .marchDone _ f => f.all (fun x => decide (x.2 < 16384))
  | .moveDone _ b => b.all (fun x => decide (x.index < 16384) && decide (x.ecc.length ≤ 16))
  | .fabCycle e _ _ _ => e.all (fun x => decide (x.station < 256) && decide (x.port < 16))
  | .imageTrailer _ _ b => decide (b.length ≤ 3081)
  | .cfgLoad .. => true
  | .cfgWide .. => true
  | .sensorSample _ r _ => decide (-32768 ≤ r) && decide (r < 32768)
  | .dramRefreshDue _ b => decide (b < 32)
  | .usdoDownloadInitiate _ _ _ n d =>
    decide (n < 2 ^ 32) && (match d with
      | some b => decide (1 ≤ b.length) && decide (b.length ≤ 8)
      | none => true)
  | .usdoDownloadSegment _ _ d _ => decide (d.length ≤ 56)
  | .relayRequestReceived _ _ _ d => decide ((d.getD []).length < 2 ^ 24)
  | .relayResponse _ _ d => decide (d.length ≤ 131072)
  | .datumBeat .. => true
  | .releaseWriteEnables => true
  | .releaseStationReset => true
  | .datumMarker => true
  | .stagedWrite .. => true
  | .objectWrite .. => true
  | .keeperMailboxWrite .. => true
  | .probeSel .. => true
  | .probeLogDrop => true
  | .patternParityCheck .. => true
  | .patternBankClearDone .. => true
  | .patternLayerOn => true
  | .holdStarved .. => true
  | .holdPushWaitExpired .. => true
  | .fillRequest .. => true
  | .fillDone .. => true
  | .queueResetRequest .. => true
  | .marchRequest .. => true
  | .queueGroupResetDone .. => true
  | .ringOwnerWrite .. => true
  | .routerFlitIn .. => true
  | .fenceRequest .. => true
  | .fenceLift .. => true
  | .fenceAck .. => true
  | .fenceDrainForced .. => true
  | .moveSubmit .. => true
  | .laneFrameReceived .. => true
  | .remoteResetCommand .. => true
  | .laneClockOk .. => true
  | .laneAdaptDone .. => true
  | .laneLockTimeout .. => true
  | .laneDeskewDone .. => true
  | .merigAlignTimeout .. => true
  | .laneAutoRetrain .. => true
  | .laneShallowTimeout .. => true
  | .laneTrainingRequest .. => true
  | .eyeScanRequest .. => true
  | .eyeScanPointDone .. => true
  | .eyeScanRecordWriteDone .. => true
  | .laneLoopLocked .. => true
  | .laneLoopUnlock .. => true
  | .carriageFlitReceived .. => true
  | .carriageResendTimeout .. => true
  | .remoteResetOrder .. => true
  | .relayTransfer .. => true
  | .relayTimeout .. => true
  | .chainLoadRequest .. => true
  | .chainLoadDone .. => true
  | .dataRateWrite .. => true
  | .retrainPeriodicRequest .. => true
  | .retrainFullRequest .. => true
  | .dramPeriodicRetrainDue .. => true
  | .dramTrainingDone .. => true
  | .dramSelfRefreshEntry .. => true
  | .dramSelfRefreshExit .. => true
  | .dramParityAlert .. => true
  | .rfmSweepRequest .. => true
  | .rfmSweepDone .. => true
  | .rescrambleSweepRequest .. => true
  | .dramInitialiseRequest .. => true
  | .sweepDone .. => true
  | .dramRekeyRequest .. => true
  | .archiveFlitCommit .. => true
  | .archiveRelease .. => true
  | .add .. => true
  | .sub .. => true
  | .and .. => true
  | .or .. => true
  | .xor .. => true
  | .sll .. => true
  | .srl .. => true
  | .sra .. => true
  | .slt .. => true
  | .sltu .. => true
  | .mul .. => true
  | .mulhu .. => true
  | .nld .. => true
  | .nst .. => true
  | .nstw .. => true
  | .watch .. => true
  | .srd .. => true
  | .round .. => true
  | .halt .. => true
  | .addi .. => true
  | .andi .. => true
  | .ori .. => true
  | .xori .. => true
  | .slli .. => true
  | .srli .. => true
  | .srai .. => true
  | .slti .. => true
  | .sltiu .. => true
  | .ld .. => true
  | .ldw .. => true
  | .st .. => true
  | .stw .. => true
  | .pld .. => true
  | .pst .. => true
  | .pxchg .. => true
  | .beq .. => true
  | .bne .. => true
  | .blt .. => true
  | .bge .. => true
  | .bltu .. => true
  | .bgeu .. => true
  | .nwait .. => true
  | .nwaitTimeout .. => true
  | .wbeat .. => true
  | .wbeatReturn .. => true
  | .evpost .. => true
  | .emcy .. => true
  | .jalr .. => true
  | .lui .. => true
  | .j .. => true
  | .jal .. => true
  | .keeperRun .. => true
  | .keeperStop .. => true
  | .nmtStart .. => true
  | .nmtStop .. => true
  | .nmtEnterPreOperational .. => true
  | .nmtResetNode .. => true
  | .nmtResetCommunication .. => true
  | .usdoUploadInitiate .. => true
  | .usdoUploadSegment .. => true
  | .usdoSessionTimeout => true
  | .heartbeatSend => true
  | .heartbeatReceived .. => true
  | .heartbeatTimeout .. => true
  | .heartbeatTimeWrite .. => true
  | .consumerHeartbeatWrite .. => true
  | .errorFieldClear .. => true
  | .emcySend => true
  | .canBusOffRecovery => true
  | .canRxOverrun .. => true
  | .dictOperationDone => true
  | .dictRead w => surveyOp w 0
  | .dictWriteSegment w => surveyOp w 1
  | .dictWriteFinal w => surveyOp w 2
  | .extest => true
  | .idcode => true
  | .samplePreload => true
  | .clamp => true
  | .highz => true
  | .bypass => true
  | .testLogicReset => true
  | .cfgStatus => true
  | .chainSel .. => true
  | .imageHeader .. => true
  | .imageFrame .. => true
  | .imageCheckDone => true
  | .slotClearDone => true
  | .scrubFrameRead .. => true
  | .scrubRequest .. => true
  | .regionInvalidate .. => true
  | .xoWindowEnd .. => true
  | .refWindowEnd .. => true
  | .missingEdge => true
  | .lanternLock => true
  | .lanternLockTimeout => true
  | .daymarkLock => true
  | .multiplierWrite .. => true
  | .referenceFrequencyWrite .. => true
  | .regulatorFault .. => true
  | .sectorRampDone .. => true
  | .upperLayersReady => true
  | .sensorSelfCheck .. => true
  | .thermalShutdownExit .. => true
  | .pmbusPoll .. => true
  | .pmbusAlert .. => true
  | .powerGoodSample .. => true
  | .powerOnRelease .. => true
  | .resetPin .. => true
  | .wresetPin .. => true
  | .resetRequestWarm .. => true
  | .resetRequestCold .. => true
  | .dictResetTakesEffect .. => true
  | .railOutOfWindow .. => true
  | .optionShadowParity .. => true
  | .clockStateParity .. => true
  | .dictEngineStateError .. => true
  | .nocTableParity .. => true
  | .enterService => true
  | .stationResetWrite .. => true
  | .laneGroupResetWrite .. => true
  | .dramChannelResetWrite .. => true
  | .keeperResetWrite .. => true
  | .patternBankResetWrite .. => true
  | .queueGroupResetWrite .. => true
  | .dictEngineReset .. => true
  | .blockResetDone .. => true
  | .optionWrite .. => true
  | .gpioOutputWrite .. => true
  | .bankRailMeasure .. => true
  | .consoleTransmit .. => true
  | .consoleReceive .. => true
  | .consoleByteReceived .. => true
  | .pinWatchMatch .. => true
  | .pinWatchWindowExpired .. => true
  | .beatTimerFire .. => true
  | .timerOwnerWrite .. => true
  | .timerConfigWrite .. => true
  | .counterClear .. => true
  | .logClear .. => true
  | .lcRequestDeployed .. => true
  | .lcRequestReturned .. => true
  | .lcRequestScrapped .. => true
  | .lifeCycleReset .. => true
  | .attestationRequest .. => true
  | .attestationDone => true
  | .tamperLatch .. => true
  | .glitchDetected .. => true
  | .secureSramWipeDone => true
  | .linkKeyLoad .. => true
  | .entropyRetry .. => true
  | .beat .. => true
  | .streamSlot _ _ e => decide (e.length ≤ 16)
  | .fenceLiftDone .. => true
  | .canBusError .. => true
  | .canRejoin => true
  | .memoryLoopLock => true
  | .illegalInstruction .. => true

end Sys2Proof
end

