-- ==== Sys2Proof/Tests/Slice0.lean ====
section
/-! SUPPORT. This model's own tests: ill-formed operands are refused, the spec's worked examples, single commands on small states,
and for each statement of Obligations.lean that has hypotheses a state and operands that meet them. -/

namespace Sys2Proof.Tests

open Sys2Proof.Machine

set_option Elab.async false

/-! Small states. -/

/-- A device in SERVICE, with the reset values elsewhere. -/
def inService : State := { rst := { phase := .service } }

/-- The same in a manager's role. -/
def managerIn : State := { rst := { phase := .service, roleManager := true } }

/-- In SERVICE, with the beat clock running and beats not released. -/
def beating : State := { inService with clk := { lantern := .locked } }

/-- Released, in a beat where the stations run. -/
def released : State := { beating with time := { relStep := 3 } }

/-- Core 0 runs, with register k1 = 5 and k2 = 7, and `w` as its word at PC 0. -/
def coreAt (w : Nat) : State :=
  { beating with keep := [(0, { state := .running, regs := [(1, 5), (2, 7)] })] }.writeNat (codeBase 0) 4 w

/-- A request of the dictionary. -/
def dictReq : ReqId := ⟨.dict, 3⟩

/-- Core 0 without a parity error. -/
def onCore0 : Issue := ⟨0, false⟩

/-! Ill-formed commands are refused, one for each check. -/

theorem test_wf_tag : Instr.ranged (.nocTimeout ⟨.eyeScan 0, 32⟩) = false := by decide
theorem test_wf_tag_last : Instr.ranged (.nocTimeout ⟨.eyeScan 0, 31⟩) = true := by decide
theorem test_wf_read_size : Instr.ranged (.patternLineRead dictReq 0 65) = false := by decide
theorem test_wf_write_length : Instr.ranged (.patternLineWrite dictReq 0 (List.replicate 65 0)) = false := by decide
theorem test_wf_ecc : Instr.ranged (.holdNocReadRow dictReq 0 64 (List.replicate 17 .clean)) = false := by decide
theorem test_wf_row_length : Instr.ranged (.holdNocWriteRow dictReq 0 (List.replicate 65 0) false) = false := by decide
theorem test_wf_code_length : Instr.ranged (.keeperCodeStoreWrite dictReq 0 (List.replicate 65 0) 0) = false := by decide
theorem test_wf_segment_op : Instr.ranged (.dictWriteSegment 0) = false := by decide
theorem test_wf_final_op : Instr.ranged (.dictWriteFinal 0) = false := by decide
theorem test_wf_window_short : Instr.ranged (.windowWriteFinal dictReq 0 0 0 0 1 (List.replicate 47 0)) = false := by decide
theorem test_wf_march_word : Instr.ranged (.marchDone 0 [(0, 16384)]) = false := by decide
theorem test_wf_move_index :
    Instr.ranged (.moveDone 0 [{ index := 16384, ecc := [], errA := .clean, errB := .clean, collided := false, readEnds := none, writeEnds := none, outside := 0 }]) = false := by decide
theorem test_wf_port : Instr.ranged (.fabCycle [⟨0, 16, .clean⟩] [] 0 0) = false := by decide
theorem test_wf_trailer : Instr.ranged (.imageTrailer false 0 (List.replicate 3082 0)) = false := by decide +kernel
theorem test_wf_sensor : Instr.ranged (.sensorSample 0 32768 0) = false := by decide
theorem test_wf_refresh : Instr.ranged (.dramRefreshDue 0 32) = false := by decide
theorem test_wf_usdo_size : Instr.ranged (.usdoDownloadInitiate false 0 0 (2 ^ 32) none) = false := by decide
theorem test_wf_usdo_expedited : Instr.ranged (.usdoDownloadInitiate false 0 0 9 (some (List.replicate 9 0))) = false := by decide
theorem test_wf_usdo_segment : Instr.ranged (.usdoDownloadSegment false false (List.replicate 57 0) true) = false := by decide

/-! Worked examples of the spec. -/

/-- Station 157 lies in sector 11 (the example of chapter 1). -/
theorem test_sector : sectorOf 157 = 11 := by decide

/-- The operands of Table 4-9 in the sinks. -/
def ssuSinks : Nat :=
  packFields 16 [12, 340, 7, 95, 410, 0, 101, 88, 1200, 33, 100, 560, 4, 410, 72, 5000] * 2 ^ 5216

/-- Tables 4-9 and 4-10. -/
theorem test_ssu_sum : ssuResult 0xA 100 ssuSinks = 0x701F55 := by decide +kernel
theorem test_ssu_max4 : ssuResult 3 100 ssuSinks = 0x419AB23084B0FFFF := by decide +kernel
theorem test_ssu_maskgt : ssuResult 0xE 100 ssuSinks = 0x7A952 := by decide +kernel
theorem test_ssu_minmax : ssuResult 4 100 ssuSinks = 0xF513880000 := by decide +kernel
theorem test_ssu_prefix : (List.range 4).map (ssuPrefix (ssuOperands ssuSinks)) =
    [0x01C601670160000C, 0x041D03C503600360, 0x0B82095208EE08CD, 0x20F00D680D200B86] := by decide +kernel

/-- The result words of the example in chapter 5. -/
theorem test_pattern_multi : resultWord 1 [(2050, { tag := 0x3C }), (2100, {})] = 0x8F00A00B := by decide
theorem test_pattern_one : resultWord 1 [(2300, { tag := 0x11 })] = 0x844063F1 := by decide

/-- Spacing comes before the cap (R120). -/
theorem test_strobe : [strobeDecision false 0 2, strobeDecision true 1 2, strobeDecision false 2 2] =
    [.accepted, .spacing, .overCap] := by decide

/-- Table 19-8: P = 1 and Q = 2 ^ 32. -/
def mixKey : BitVec 128 := 0x00000000000000010000000100000000
theorem test_mix_rounds : (mixRound mixKey 1 1 (mixRound mixKey 1 0 0)) = 0x0000020000000402 := by decide +kernel
theorem test_mix : mix mixKey 0 0 = 0x0040400100000005 ∧ mix mixKey 1 0 = 0x0040200180200005 := by decide +kernel
theorem test_unmix : unmix mixKey 1 0x0040200180200005 = 0 ∧ keyCheck mixKey = 5 := by decide +kernel

/-- Encodings of Table 12-9. -/
theorem test_keeper_words :
    [encC 0x28 1 0x400, encB 8 1 1 16, encA 0 1 1 13 0, encB 4 2 0 0x100, encA 1 0 0 0 5, encB 0x21 0 0 8, encA 1 5 1 2 0,
     encB 0x20 6 5 2000, encB 12 7 6 2, encB 0x18 7 0 12, encB 0x11 9 4 0, encB 4 8 8 0xFFFF, encB 0x19 8 0 0xFFFC,
     encA 0 7 10 3 9, encB 0x22 0 3 0, encA 1 9 0 0 3, encD 0x30 0x3FFFFE9] =
    [0xA0200400, 0x20210010, 0x00216800, 0x10400100, 0x04000005, 0x84000008, 0x04A11000,
     0x80C507D0, 0x30E60002, 0x60E0000C, 0x45240000, 0x1108FFFF, 0x6500FFFC,
     0x00EA1809, 0x88030000, 0x05200003, 0xC3FFFFE9] := by decide

/-- Mailbox entries of the example in chapter 20. -/
theorem test_mailbox_entry : mailboxEntry ⟨1070, 40000, 1200⟩ 1 = 0xB0B92C0000009C40 ∧
    mailboxEntry ⟨1347, 40000, 1200⟩ 2 = 0xD50D2C0000009C40 := by decide

/-- The completion record of the example in chapter 10. -/
theorem test_completion : completionRecord 0x21 0x040002823100 7 2 256 6 = 0x0021040002823100000700104000000E := by decide

/-- The example balls and ordering code of chapters 21 and 0: GP53 lies at 52-34, and KX3-P2 is grade P in bin 2. -/
theorem test_ball_gp53 : gpioBall 53 = (52, 34) := by decide
theorem test_ordering_code : orderingCode .p 2 = [0x4B, 0x58, 0x33, 0x2D, 0x50, 0x32] := by decide

/-- The nominal column of Table 15-3 and the bit of Table 13-3: FAB 960 MHz, SVC 240 MHz from the root, MEMC 960 MHz; 160 quanta. -/
theorem test_rates : (let s := { State.reset with clk := { State.reset.clk with lantern := .locked } }
    s.domainKhz .fab = some (7680000, 8) ∧ s.domainKhz .svc = some (7680000, 32) ∧ s.domainKhz .memc = some (2880000, 3) ∧
    (nominalTiming 0).map BitTiming.quanta = some 160) := by decide

/-- The check value of CRC-32C over the nine digits (R254). -/
theorem test_crc32c : crc32c [0x31, 0x32, 0x33, 0x34, 0x35, 0x36, 0x37, 0x38, 0x39] = 0xE3069283 := by decide +kernel

/-! Single commands. -/

/-- What an outcome's next state shows; false of a stop. -/
def nextIs (p : State → Bool) : Host.Outcome State Fault Refusal → Bool
  | .next t => p t
  | _ => false

/-- Bank 3 of station 0 in the cycle c5 of Table 6-2: the station port writes 0x1234_5678 to word 0x205. -/
def writingPort : State :=
  { released with
    stg := { released.stg with ctx := List.replicate 16 0 }
    fab := { stations := [(0, { sinks := BitVec.ofNat 6389 ((0x12345678 + 0x205 * 2 ^ 32 + 2 ^ 46) * 2 ^ (5621 + 48 * 3)) })] } }

/-- Row of words 0x200 to 0x20F of bank 3. -/
def rowAddr : BitVec 48 := BitVec.ofNat 48 (unitBase 3 + 4 * 0x200)

/-- Table 6-2: W2 collides; the same write to another row waits for nothing but its turn. -/
theorem test_hold_collision : nextIs (fun t => t.noc.answers == [⟨dictReq, .collided, 0⟩] && t.mem.isEmpty &&
    bitOf (t.unit 3).causes 6) (exec (.holdNocWriteRow dictReq rowAddr (List.replicate 64 1) false) writingPort) = true := by
  decide +kernel

/-- A row written in RAM mode reads back (R145). -/
theorem test_hold_row : nextIs (fun t => t.noc.answers == [⟨dictReq, .ok, 0⟩] && t.readNat rowAddr.toNat 64 == repByte 64 1)
    (exec (.holdNocWriteRow dictReq rowAddr (List.replicate 64 1) false) inService) = true := by decide +kernel

/-- LUI sign-extends and shifts its immediate by 16 (Table 12-9, PC 0). -/
theorem test_lui : nextIs (fun t => (t.keeper 0).reg 1 == 0x04000000 && (t.keeper 0).pc == 1)
    (exec (.lui onCore0 1 0x400) (coreAt 0xA0200400)) = true := by decide +kernel

/-- SLTU of Table 12-9, PC 20, on k10 = 0 and k3 = 0 writes 0 (R314). -/
theorem test_sltu : nextIs (fun t => (t.keeper 0).reg 7 == 0 && (t.keeper 0).pc == 1)
    (exec (.sltu onCore0 7 10 3) (coreAt 0x00EA1809)) = true := by decide +kernel

/-- SUB wraps: 5 − 7 (Table 12-3). -/
theorem test_sub : nextIs (fun t => (t.keeper 0).reg 1 == 0xFFFFFFFFFFFFFFFE)
    (exec (.sub onCore0 1 1 2) (coreAt (encA 0 1 1 2 1))) = true := by decide +kernel

/-- A taken branch below word 0 faults with cause 2 (R329). -/
theorem test_branch_range : nextIs (fun t => decide ((t.keeper 0).state = .faulted) && (t.keeper 0).faultRecord % 256 == 2)
    (exec (.beq onCore0 0 0 0xFFFF) (coreAt (encB 0x18 0 0 0xFFFF))) = true := by decide +kernel

/-- A write of k0 is discarded (R308). -/
theorem test_k0 : nextIs (fun t => (t.keeper 0).reg 0 == 0 && (t.keeper 0).pc == 1)
    (exec (.addi onCore0 0 1 1) (coreAt (encB 4 0 1 1))) = true := by decide +kernel

/-- An instruction other than the one at the PC does not issue. -/
theorem test_not_fetched : nextIs (fun t => t == coreAt 0xA0200400) (exec (.addi onCore0 3 1 1) (coreAt 0xA0200400)) = true := by
  decide +kernel

/-- A word store writes its 4 bytes, little-endian (R309). -/
theorem test_stw : nextIs (fun t => t.readBytes (0x060000080000 + 12) 4 == [5, 0, 0, 0] && t.readByte 0x060000080010 == 0)
    (exec (.stw onCore0 1 2 5 .clean) (coreAt (encB 0x13 1 2 5))) = true := by decide +kernel

/-- The EMCY frame of the example in chapter 20. -/
theorem test_emcy_frame : nextIs (fun t => t.can.sent == [⟨0x80 + 127, false, [0x02, 0xFE, 0x81, 0x43, 0x05, 0x40, 0x9C, 0x00]⟩])
    (exec .emcySend { inService with can := { nmt := .operational, manufacturerBit := true
                                              emcyQueue := [⟨0xFE02, 0x543 + 40000 * 2 ^ 16, 0⟩] } }) = true := by decide +kernel

/-- Watch 2 of the example in chapter 18: MASK 3, PAT1 1, PAT2 3, WINDOW 100, sequence mode; armed `since` beats ago, PAT2 matches. -/
def watching (since : Nat) : State :=
  { beating.setObj 0x2400 0x12 (3 * 2 ^ 128 + 2 ^ 144 + 3 * 2 ^ 160 + 100 * 2 ^ 176 + 3 * 2 ^ 192) with
    pins := { watches := [{}, {}, { armed := true, fresh := false, since := since, prev := 1, vec := 3 }, {}, {}, {}, {}, {}] } }

/-- Beat 760, 50 beats after arming, fires event 1410; 120 beats after arming would not (R458). -/
theorem test_pin_watch : nextIs (fun t => t.ev.fabDue.map (·.event) == [1410] && (t.watch 2).fires == 1 && !(t.watch 2).armed)
    (exec (.pinWatchMatch 2) (watching 50)) = true ∧
    nextIs (fun t => t.ev.fabDue.isEmpty && (t.watch 2).fires == 0) (exec (.pinWatchMatch 2) (watching 120)) = true := by
  decide +kernel

/-- Entry of a station mailbox (R93): it waits for the next beat. -/
theorem test_mailbox : nextIs (fun t => Tbl.at 0 t.fab.mailAccepted 157 == 0xABCD && t.fab.mailShown.isEmpty)
    (exec (.keeperMailboxWrite .survey 157 0xABCD) inService) = true := by decide +kernel

/-- A heartbeat is COB-ID 0x700 + the node's number with the state's code (Table 13-5). -/
theorem test_heartbeat : nextIs (fun t => t.can.sent == [⟨0x700 + 127, false, [0x05]⟩])
    (exec .heartbeatSend { inService with can := { nmt := .operational } }) = true := by decide +kernel

/-- A staged write answers with its sequence number and waits (R44, R46). -/
theorem test_staged : nextIs (fun t => t.answerOf .can == ⟨0x3000, 1, 0, 1, []⟩ && t.stg.pend.length == 1 && t.obj 0x3000 1 == 0)
    (exec (.stagedWrite .can 0x3000 1 [1, 0, 0, 0]) beating) = true := by decide +kernel

/-- A staged write outside its range is refused with event 21 (R44). -/
theorem test_staged_range : nextIs (fun t => (t.answerOf .can).code == 0x06090030 && t.stg.pend.isEmpty && t.eventCount 21 == 1)
    (exec (.stagedWrite .can 0x2000 0x11 [0]) beating) = true := by decide +kernel

/-- A read-only object (Table 13-2). -/
theorem test_read_only : nextIs (fun t => (t.answerOf .survey).code == 0x06010002)
    (exec (.objectWrite .survey 0x2000 1 [0]) inService) = true := by decide +kernel

/-- IDCODE (Table 14-1): version, part and manufacturer. -/
theorem test_idcode : nextIs (fun t => t.cfg.tdr % 2 ^ 28 == 0x0B03096F) (exec .idcode inService) = true := by decide +kernel

/-- The release of power-on reset with RESET_N low counts one reset and holds the device (R426). -/
theorem test_power_on : nextIs (fun t => decide (t.rst.phase = .held) && t.backup.resets == 1)
    (exec (.powerOnRelease true false true false none) State.reset) = true := by decide +kernel

/-- RESET_N low logs cause 2 and holds the device in reset (Table 17-1). -/
theorem test_reset_pin : nextIs (fun t => decide (t.rst.phase = .held) && (t.backup.causes.map (·.cause)) == [2])
    (exec (.resetPin true false false) inService) = true := by decide +kernel

/-- An XO window that counts 51,200 passes, and one below 47,104 does not (R388). -/
theorem test_xo_window : nextIs (fun t => t.clk.xoPasses == 1) (exec (.xoWindowEnd 51200) { rst := { phase := .xoJudging } }) = true ∧
    nextIs (fun t => t.clk.xoPasses == 0) (exec (.xoWindowEnd 47103) { rst := { phase := .xoJudging } }) = true := by decide +kernel

/-- A sensor at 115 °C shuts the part down (R419). -/
theorem test_shutdown : nextIs (fun t => decide (t.rst.phase = .shutdown)) (exec (.sensorSample 0 1840 0) inService) = true ∧
    nextIs (fun t => decide (t.rst.phase = .service)) (exec (.sensorSample 0 1839 0) inService) = true := by decide +kernel

/-- The empty queue is idle, and a queued command leaves it (notes/assumptions/2.md). -/
theorem test_step_idle : nextIs (fun t => t == inService) (step inService) = true := by decide +kernel
theorem test_step_front : nextIs (fun t => t.pending == [.idcode] && t.cfg.tap == 0x3FF)
    (step { inService with pending := [.bypass, .idcode] }) = true := by decide +kernel

/-! States and operands that meet the hypotheses of the statements. -/

/-- Obligations.StepKeepsMemoryCanonical: a step of a canonical state goes on. -/
theorem witness_StepKeepsMemoryCanonical :
    Memory.wf { inService with pending := [.idcode] } = true ∧
    nextIs (fun _ => true) (step { inService with pending := [.idcode] }) = true := by decide +kernel

/-- Obligations.CommandsKeepFactoryAndQueue. -/
theorem witness_CommandsKeepFactoryAndQueue : nextIs (fun _ => true) (exec .idcode inService) = true := by decide +kernel

/-- Obligations.IdleAndNoWords. -/
theorem witness_IdleAndNoWords : inService.pending = [] := by decide

/-- Obligations.EventsCountedAndRouted: a warning of class 0, an error that is logged, and descriptors that disable an event or
select mailbox 1. -/
theorem witness_EventsCountedAndRouted :
    Quiet inService ∧ (bitOf (inService.desc 21) 15 = true ∧ inService.desc 21 % 128 = 0) ∧
    descSev (inService.desc 21) < 2 ∧
    let off := { inService with ev := { desc := [(5, 0), (6, 0x8022), (1535, 0xE000)] } }
    Quiet off ∧ bitOf (off.desc 5) 15 = false ∧
    (bitOf (off.desc 1535) 15 = true ∧ off.desc 1535 % 128 = 0 ∧ 2 ≤ descSev (off.desc 1535)) ∧
    (bitOf (off.desc 6) 15 = true ∧ bitOf (off.desc 6) 4 = false ∧ bitOf (off.desc 6) 6 = false ∧ bitOf (off.desc 6) 1 = true ∧
      bitOf (off.desc 6) 5 = true ∧ ∀ k, k < 4 → (off.keeper k).mailbox.length < 64) := by
  unfold Quiet
  decide +kernel

/-- Obligations.HoldNocAccesses: the first and the last row of the banks, a misaligned address, an aligned word. -/
theorem witness_HoldNocAccesses :
    let free := fun a => HoldPortFree { released with time := { relStep := 3, beat := 2 } } (unitAt a).1 (unitAt a).2 16 ∧
      HoldPortFree { released with time := { relStep := 3, beat := 2 } } (unitAt a).1 (unitAt a).2 1
    (∀ a ∈ [holdBase, holdBase + 0xFFFFFC0, holdBase + 4, holdBase + 1], holdBase ≤ a ∧ a < holdEnd ∧ free a) ∧
    CleanRequest released dictReq ∧ (0x040000000000#48).toNat % 64 = 0 ∧ (0x04000FFFFFC0#48).toNat % 64 = 0 ∧
    (0x040000000001#48).toNat % 4 ≠ 0 ∧ 2 ≤ released.time.relStep := by
  simp only [HoldPortFree, CleanRequest]
  decide +kernel

/-- A hold unit with a claim. -/
def claimed (u : Nat) (c : Claim) : State := inService.setUnit u { claim := c }

/-- Obligations.HoldMaintenanceRequests: units 0 and 4159, groups 0 and 259, and a claimed unit. -/
theorem witness_HoldMaintenanceRequests :
    inService.served = true ∧ (∀ w ∈ [0, 0x103F00000000], bitsAt (BitVec.ofNat 64 w).toNat 32 13 < 4160 ∧
      (inService.unit (bitsAt (BitVec.ofNat 64 w).toNat 32 13)).claim = .none) ∧
    (∀ u ∈ [0, 4159], (BitVec.ofNat 16 u).toNat < 4160 ∧ (inService.unit (BitVec.ofNat 16 u).toNat).claim = .none) ∧
    (∀ w ∈ [0, 259], (BitVec.ofNat 32 w).toNat % 512 < 260 ∧
      ∀ i, i < 16 → (inService.unit (16 * ((BitVec.ofNat 32 w).toNat % 512) + i)).claim = .none) ∧
    (claimed 4159 (.fill 1)).served = true ∧ ((claimed 4159 (.fill 1)).unit 4159).claim ≠ .none := by
  decide +kernel

/-- Obligations.HoldMaintenanceEnds: a fill and a preserving march. -/
theorem witness_HoldMaintenanceEnds :
    (((claimed 4159 (.fill 0x01020304)).unit 4159).claim = .fill 0x01020304 ∧
      ((claimed 4159 (.fill 0x01020304)).unit 4159).touched = []) ∧
    let s := { inService with hold := { units := (List.range 16).map (fun i => (4144 + i, { claim := .march true })) } }
    ∀ i, i < 16 → (s.unit (16 * 259 + i)).claim = .march true := by
  decide +kernel

/-- A request that waits at unit 0. -/
def waitingReq (waited kind : Nat) : HoldReq :=
  { req := dictReq, kind := kind, word := 0, data := 0, be := 15, sched := false, waited := waited, starved := false, ecc := [], blocked := waited }

/-- Obligations.HoldWaitingAndRings: a starved request, a push at a full FIFO, a fault cause, and rings claimed, taken and refused. -/
theorem witness_HoldWaitingAndRings :
    (let s := inService.setUnit 4159 { waiting := [waitingReq 1024 0] }
     (s.unit 4159).waiting = [waitingReq 1024 0] ∧ 1024 ≤ (waitingReq 1024 0).waited ∧ (waitingReq 1024 0).starved = false) ∧
    (let s := (inService.setObj 0x4200 1 (1 + 8 + 5 * 2 ^ 48)).setUnit 0 { waiting := [waitingReq 5 2], fill := 16384 }
     s.unitMode 0 = 1 ∧ s.nocProduces 0 = true ∧ (s.unit 0).fill = unitWords 0 ∧ cfgWait (s.unitCfg 0) ≤ 5) ∧
    (256 + 2 * (4095 / 16)) ∉ inService.ev.thisBeat ∧
    (let s := { inService with hold := { owners := 2 :: 1 :: List.replicate 30 0 } }
     let give := fun (a b c : Byte) => a :: b :: c :: List.replicate 29 0
     s.served = true ∧ (give 0 1 2).length = 32 ∧
     (∀ g, g < 32 → (((give 0 1 2).getD g 0).toNat = s.hold.owners.getD g 0 ∨
        (s.hold.owners.getD g 0 = 0 ∧ ((give 0 1 2).getD g 0).toNat = 2) ∨
        (s.hold.owners.getD g 0 = 2 ∧ ((give 0 1 2).getD g 0).toNat = 0))) ∧
     (s.hold.owners.getD 1 0 = 1 ∧ ((give 2 0 0).getD 1 0).toNat = 0 ∧ ∀ g, g < 32 →
        (((give 2 0 0).getD g 0).toNat = s.hold.owners.getD g 0 ∨ ((give 2 0 0).getD g 0).toNat = 0 ∨
          ((give 2 0 0).getD g 0).toNat = 2)) ∧
     (((give 1 1 0).getD 0 0).toNat ≠ s.hold.owners.getD 0 0 ∧ ((give 1 1 0).getD 0 0).toNat = 1) ∧
     ((give 2 1 3).getD 2 0).toNat = 3) := by
  decide +kernel

/-- `writingPort` with bank 3 of station 0 in mode `m`. -/
def portIn (m : Nat) (x : HoldUnit) : State := ((writingPort.setObj 0x4200 1 (m * 2 ^ 192)).setUnit 3 x)

/-- Obligations.HoldWaitingAndRings, the station port: a write in each of the four modes, at a FIFO with one free word and a full one, and a
read. -/
theorem witness_HoldWaitingAndRings_port :
    let ok := fun (s : State) => s.cycleRuns = true ∧ s.fabricRuns = true ∧ NetworkQuiet s ∧ s.ctxOf (sectorOf 0) < 8 ∧
      s.unitActive 3 = true ∧ claimOpen (s.unit 3).claim = false
    (∀ m ∈ [0, 1, 2, 3], ∀ fill ∈ [16383, 16384], ok (portIn m { fill := fill }) ∧
      PortAsks (portIn m { fill := fill }) 0 3 true false 0x205 0x12345678) ∧
    (let s := { writingPort with fab := { stations := [(0, { sinks := BitVec.ofNat 6389 (2 ^ (5621 + 48 * 3 + 47)) })] } }
     ok s ∧ PortAsks s 0 3 false true 0 0) := by
  simp only [NetworkQuiet, PortAsks]
  decide +kernel

/-- Obligations.PatternEntryLines: the first and the last line of the layer. -/
theorem witness_PatternEntryLines : PatternLoads inService patBase ∧ PatternLoads inService (patEnd - 64) ∧
    CleanRequest inService dictReq := by
  simp only [PatternLoads, CleanRequest]
  decide +kernel

/-- Station 255 strobes its pattern bank. -/
def strobing (b : PatBank) : State :=
  { (released.setBank 255 b).setStation 255 { sinks := BitVec.ofNat 6389 (2 ^ 5620) } with
    stg := { released.stg with ctx := List.replicate 16 0 } }

/-- Obligations.PatternEntryLines, strobes: accepted, over the cap and spaced too closely; and a station without a strobe. -/
theorem witness_PatternEntryLines_strobes :
    (∀ x ∈ [(({} : PatBank), 0), ({ accepted := 1 }, 1), ({ lastAccepted := true }, 2)], let s := strobing x.1
      s.cycleRuns = true ∧ s.fabricRuns = true ∧ s.ctxOf (sectorOf 255) < 8 ∧ s.stationReset 255 = false ∧
        (s.station 255).sinks.getLsbD 5620 = true ∧ StrobeCase s 255 = x.2 ∧ (s.station 0).sinks.getLsbD 5620 = false) := by
  decide +kernel

/-- Obligations.PatternMaintenance: banks 0 and 255, upsets that keep and break the parity, a clearing bank, a layer that returns, and one at
the cold start-up. -/
theorem witness_PatternMaintenance :
    (∀ st ∈ [0, 255], inService.bankPresent st = true ∧ inService.pat.layer = .on ∧ inService.bankInReset st = false ∧
      inService.l0Runs = true) ∧
    ((inService.setBank 255 { clearing := true }).bank 255).clearing = true ∧
    ((inService.patEntry 255 0).upset 0).parityHolds = true ∧ ((inService.patEntry 255 0).upset 1).parityHolds = false ∧
    (∀ l ∈ [Layer.ramping, .clearing], let s : State := { inService with pat := { layer := l } }
      (s.pat.layer = .ramping ∨ s.pat.layer = .clearing) ∧ s.pwr.state = 0 ∧ ¬(s.rst.phase = .starting ∧ s.rst.warmStart = false)) ∧
    (let s : State := { pat := { layer := .clearing }, rst := { phase := .starting } }
     s.pat.layer = .clearing ∧ s.rst.phase = .starting ∧ s.rst.warmStart = false) := by
  decide +kernel

/-- Obligations.ReleaseStepsAndLogDrops: each step in its first beat, a due log word, and none. -/
theorem witness_ReleaseStepsAndLogDrops :
    (let s := { beating with time := { relStep := 1, beat := 1 } }
     s.time.relStep = 1 ∧ 1 ≤ s.time.beat) ∧
    (let s := { beating with time := { relStep := 2, beat := 2 } }
     s.time.relStep = 2 ∧ 2 ≤ s.time.beat) ∧
    ({ released with fab := { logDue := some (4159, 64) } } : State).fab.logDue = some (4159, 64) ∧ released.fab.logDue = none := by
  decide +kernel

/-- Obligations.BeatAdvances: beats 0 and B − 2. -/
theorem witness_BeatAdvances : ∀ b ∈ [0, 2878],
    let s := { released with time := { relStep := 3, beat := b } }
    s.beatsRun = true ∧ s.time.freshLock = false ∧ s.mer.renumber = none ∧ s.mer.adoptDue = false ∧ s.time.beat + 1 < s.B := by
  decide +kernel

/-- Obligations.DatumBeatApplies: the last beat of a rotation on a manager, with a start due and without. -/
theorem witness_DatumBeatApplies :
    (let s := { managerIn with clk := { lantern := .locked }, time := { relStep := 3, beat := 2879 } }
     s.beatsRun = true ∧ s.time.freshLock = false ∧ s.mer.renumber = none ∧ s.mer.adoptDue = false ∧ s.rst.roleManager = true ∧
      s.clk.crossClear = false ∧ s.B ≤ s.time.beat + 1 ∧ PowerSteady s) ∧
    (let s : State := { managerIn.setObj 0x2000 0x16 7 with
      clk := { lantern := .locked }, time := { beat := 2879, startPending := true }, dev := .configured,
      cfg := { regions := [(7 * 16, .valid)], contracts := [(7 * 16, 2 ^ 8 + 96 * 2 ^ 16 + 64 * 2 ^ 24 + 64 * 2 ^ 32 + 4096 * 2 ^ 48 + 2 ^ 64)] } }
     s.beatsRun = true ∧ s.time.startFar = false ∧ s.time.relStep = 0 ∧ s.warmPass = false ∧ PowerSteady s ∧
      s.region 7 0 = .valid ∧ s.ctxOf 0 = 8 ∧ SwapResult s s.settings 0 = (1, 7)) := by
  simp only [PowerSteady]
  decide +kernel

/-- Obligations.FabCycleLoads: cycles 0 and 11 of a beat. -/
theorem witness_FabCycleLoads : ({ released with time := { relStep := 3, cyc := 0 } } : State).cycleRuns = true ∧
    ({ released with time := { relStep := 3, cyc := 11 } } : State).cycleRuns = true := by decide +kernel

/-- A manager that listens to its datum pin. -/
def hearing (t : Time) (l : Lantern) : State :=
  { (managerIn.setObj 0x2000 0x14 1).setObj 0x2400 1 3 with
    clk := { lantern := l }, time := t
    pins := { classes := List.replicate 6 1, markerNow := true, markerPrev := false, markerFresh := false } }

/-- Obligations.DatumMarkers: each row of the statement, and a worker whose link has trained. -/
theorem witness_DatumMarkers :
    let ok := fun (s : State) => s.beatsRun = true ∧ s.time.freshLock = false ∧ s.rst.roleManager = true ∧ s.hearsMarkers = true
    (ok (hearing {} .coast)) ∧ (ok (hearing {} .relock)) ∧ (∀ b ∈ [0, 2879], ok (hearing { beat := b } .align)) ∧
    (ok (hearing { relStep := 0, beat := 2879 } .locked)) ∧ (ok (hearing { relStep := 0, beat := 0 } .locked)) ∧
    (ok (hearing { relStep := 1, beat := 2879 } .locked)) ∧ ok (hearing { relStep := 3, beat := 0 } .locked) ∧
    ∀ x ∈ [0, 1], ∀ o ∈ [(1, 3), (4, 3), (2, 3), (2, 0)],
    let w := { (beating.setObj 0x351F 1 1).setGroup 31 { rx := .up, linked := true, trained := true, datumHeard := true, datumIndex := x }
      with mer := { own := o.1 }, time := { relStep := o.2 } }
    w.beatsRun = true ∧ w.time.freshLock = false ∧ w.rst.roleManager = false ∧ (w.trainedLinks 0).head? = some 31 ∧
      (w.group 31).datumHeard = true ∧ w.clk.lantern = .locked ∧ w.mer.own = o.1 ∧ w.mer.resumeAtDatum = false ∧
      (w.group 31).datumIndex = x ∧ w.released = decide (o.2 ≠ 0) := by
  decide +kernel

/-- A scheduled data flit for hold bank 0, attached to router 0. -/
def schedFlit (dr dp : Nat) : Flit := ⟨BitVec.ofNat 128 (5 * 2 ^ 124 + 2 ^ 123 + dr * 2 ^ 90 + dp * 2 ^ 86 + holdBase * 2 ^ 38), 0⟩

/-- Obligations.RouterFlits: a flit without a requester, one on its way, one in its slot for router 1 with its link free, and one outside it. -/
theorem witness_RouterFlits :
    let planned := inService.setObj 0x3700 1 ((0x80 + 8) * 256 ^ (8 + 64))
    let f := schedFlit 1 8
    planned.l0Runs = true ∧ portExists 0 8 = true ∧ f.req = none ∧ f.kind = 5 ∧ f.sched = true ∧
    planned.placeFenced (planned.place f.addr) = false ∧ routeOut 0 f.dstRouter f.dstPort = 1 ∧
    portExists 0 (routeOut 0 f.dstRouter f.dstPort) = true ∧ routeOut 0 f.dstRouter f.dstPort < 4 ∧
    planned.inFlight 0 8 f = none ∧ planned.inputFull 0 8 f = false ∧
    (let x : RouterFlit := { router := 1, input := 3, output := 0, flit := f, waited := 0, stale := false }
     ({ planned with noc := { flying := [x] } } : State).inFlight 1 3 f = some x ∧ x.owner = none) ∧
    (let run := { planned with clk := { lantern := .locked } }
     run.beatsRun = true ∧ run.l0Runs = true ∧ run.nocCycle 0 ∉ Tbl.at [] run.noc.granted (16 * 0 + 1)) ∧
    ((0 : Fin 64).val < planned.M / 4 ∧ bitOf (planned.slotEntry 0 1 0) 7 = true ∧ planned.slotEntry 0 1 0 % 16 = 8) ∧
    bitOf (planned.slotEntry 0 1 63) 7 = false ∧ planned.holdLate 8 1 f = false ∧
    (planned.setObj 0x2100 4 4).holdLate 8 1 f = true ∧ (planned.setObj 0x2100 4 4).l0Runs = true := by
  decide +kernel

/-- Obligations.TransactionsEnd: an answered one, one that has ended before its answer comes, one whose tag is free, and an open one. -/
theorem witness_TransactionsEnd :
    let opened := { inService with noc := { txns := [{ req := dictReq, addr := holdBase, write := false }] } }
    let answered := { opened with noc := { opened.noc with answers := [⟨dictReq, .ok, 1⟩] } }
    let late := { opened with noc := { opened.noc with answers := [⟨dictReq.stale, .ok, 1⟩, ⟨dictReq, .ok, 2⟩] } }
    dictReq.src = .dict ∧ dictReq.isStale = false ∧
    (answered.firstAnswer dictReq = some ⟨dictReq, .ok, 1⟩ ∧ answered.isOpen dictReq = true ∧ answered.answerCrosses dictReq = false) ∧
    late.firstAnswer dictReq = some ⟨dictReq.stale, .ok, 1⟩ ∧
    (inService.firstAnswer dictReq = none ∧ inService.isOpen dictReq = false) ∧ opened.isOpen dictReq = true := by
  decide +kernel

/-- Obligations.FenceLife: domains 0 and 68, a fenced one, one that the device holds, a draining one with and without a
transaction, and a lifting one. -/
theorem witness_FenceLife :
    (∀ w ∈ [1, 68 * 256 + 1], hostMayFence (bitsAt (BitVec.ofNat 16 w).toNat 8 7) = true ∧ bitOf (BitVec.ofNat 16 w).toNat 0 = true ∧
      inService.served = true ∧ inService.fenceState (bitsAt (BitVec.ofNat 16 w).toNat 8 7) = 0) ∧
    (let s := { inService with noc := { fenceState := [(17, 2), (33, 2)], deviceFence := BitVec.ofNat 101 (2 ^ 33) } }
     s.served = true ∧ hostMayFence 17 = true ∧ s.noc.deviceFence.getLsbD 17 = false ∧ s.fenceState 17 = 2 ∧
     hostMayFence 33 = true ∧ s.noc.deviceFence.getLsbD 33 = true) ∧
    (let s := { inService with noc := { fenceState := [(17, 1)] } }
     let busy := { s with noc := { s.noc with txns := [{ req := dictReq, addr := 0, write := false }] } }
     s.pwr.transition ≠ 4 ∧ s.fenceState 17 = 1 ∧ s.drained 17 = true ∧ busy.drained 17 = false ∧
       ∀ x ∈ busy.noc.txns, outbound 17 x = false) ∧
    ({ inService with noc := { fenceState := [(100, 4)] } } : State).fenceState 100 = 4 := by
  decide +kernel

/-- A move of one line within the Keepers' pool. -/
def poolMove : Line := BitVec.ofNat 512 (poolBase + (poolBase + 64) * 2 ^ 64 + 64 * 2 ^ 128 + 0x21 * 2 ^ 160)

/-- Obligations.BulkMoves: the longest and the shortest legal move, an illegal one, and a move in progress. -/
theorem witness_BulkMoves :
    (inService.served = true ∧ moveLegal poolMove.toNat = true ∧ moveLegal (poolBase + (poolBase + 64) * 2 ^ 64 + 1048576 * 2 ^ 128) = true ∧
      (inService.mover 3).queue.length < 16 ∧ moveLegal (0#512).toNat = false) ∧
    let s := { inService with noc := { movers := [{}, {}, {}, { queue := [poolMove] }] } }
    let d := poolMove.toNat
    (s.mover 3).queue = [poolMove] ∧ s.l0Runs = true ∧ moveLength d = 64 ∧ s.place (moveSrc d) = .pool 0 ∧
      s.place (moveDst d) = .pool 64 ∧ s.placeFenced (s.place (moveSrc d)) = false ∧ s.placeFenced (s.place (moveDst d)) = false ∧
      moveSrc d + 64 ≤ moveDst d ∧ CleanRequest s ⟨.move 3, 0⟩ ∧ (∀ a ∈ s.noc.answers, a.req ≠ ⟨.move 3, 0⟩) ∧
      s.waitsAtTarget ⟨.move 3, 0⟩ = false := by
  simp only [CleanRequest]
  decide +kernel

/-- Lane group 31 in a receive state, with a claim. -/
def laneIn (r : Rx) (c : LaneClaim) : State := released.setGroup 31 { rx := r, claim := c, adaptAsked := decide (c = .adaptation) }

/-- Arrivals of eight lanes, `d` UI apart. -/
def arriving (d : Int) : Deskew :=
  { arrival := [0, d, 0, 0, 0, 0, 0, 0], margin := 4, np := 0, flashExtra := 0, farManager := false, farWnum := 0, farSerial := 0
    stampBeat := 0, stampRot := 0, lag := 0, farAligned := false }

/-- Obligations.LaneTraining: group 31 in each receive state, skews of 128 and 129 UI, and each claim. -/
theorem witness_LaneTraining :
    (∀ s ∈ [laneIn .clock .none, laneIn .clock .adaptation, laneIn .adapt .none, laneIn .lock .none, laneIn .deskew .none,
        laneIn .lost .none, laneIn .shallow .none, laneIn .up .none, laneIn .up .deepSleep],
      s.laneServes 31 = true ∧ (s.group 31).scanning = false ∧ s.served = true ∧ s.lanePower 31 = 0 ∧ s.isMerig 31 = false ∧
        s.laneObj 31 0xB = 1 ∧ 0 < s.fabPerBeat ∧ (s.group 31).rx ≠ .deep) ∧
    ((laneIn .clock .adaptation).group 31).adaptAsked = true ∧
    (let arrive := fun d => arrivalsOf ((laneIn .deskew .none).laneObj 31 6) (arriving d).arrival
     highInt (arrive 128) - lowInt (arrive 128) = 128 ∧ highInt (arrive 129) - lowInt (arrive 129) = 129) ∧
    (let s := { (laneIn .deskew .none).setObj 0x351F 1 1 with rst := { phase := .service, roleManager := true } }
     s.isMerig 31 = true ∧ s.manager = true ∧ s.laneServes 31 = true ∧ (s.group 31).rx = .deskew) := by
  decide +kernel

/-- A data frame of 400 UI with sequence number `seq`, as lane 0 receives it. -/
def dataFrame (seq payload : Nat) : BitVec 400 :=
  BitVec.ofNat 400 (lineCode 400 0 true false (buildFrame 400 syncData (frameControl false false false false seq) payload payload))

/-- Obligations.LaneFrames: a good frame, none, one with a flipped bit, and one out of sequence, on a detector and a Merig link. -/
theorem witness_LaneFrames :
    let s := released.setGroup 0 { rx := .up }
    let m := (s.setObj 0x3500 1 1)
    let known := s.setLane 0 { seqKnown := true, lastSeq := 4 }
    let f := fun (b : BitVec 400) => some (readFrame 400 (lineCode 400 0 true false b.toNat)
      (framePayload 400 (lineCode 400 0 true false b.toNat)))
    (∀ t ∈ [s, m, known], t.laneServes 0 = true ∧ t.beatsRun = true ∧ t.laneEnabled 0 0 = true ∧ (t.lane 0).seen = false ∧
      (t.lane 0).waits = none ∧ (t.group 0).rx = .up ∧ t.rxMixed 0 = false ∧ t.nui 0 = 400 ∧
      t.laneObj 0 7 = 1 ∧ bitOf (t.laneObj 0 8) 0 = false) ∧
    (m.isMerig 0 = true ∧ m.laneEnabled 0 1 = true ∧ (m.lane 1).good = false) ∧
    rxCase (s.lane 0) (f (dataFrame 5 77)) = .plain ∧ (∀ r, f (dataFrame 5 77) = some r → ctlDatum r.ctl = false) ∧
    rxCase (s.lane 0) none = .sync ∧ rxCase (s.lane 0) (f (dataFrame 5 77 ^^^ 2 ^ 100)) = .crc ∧
    rxCase (known.lane 0) (f (dataFrame 5 77)) = .seq ∧ rxCase (known.lane 0) (f (dataFrame 4 77)) = .plain := by
  refine ⟨by decide +kernel, by decide +kernel, by decide +kernel, fun r h => ?_, by decide +kernel, by decide +kernel,
    by decide +kernel, by decide +kernel⟩
  obtain rfl := Option.some.inj h
  decide +kernel

/-- Obligations.LaneLoopsAndScan: loops of a group in DEEP and in UP, a scan request free and refused, a point, and a record. -/
theorem witness_LaneLoopsAndScan :
    (released.beatsRun = true ∧ released.l0Runs = true ∧ released.lanePower 31 ≠ 2 ∧ ((laneIn .up .none).group 31).rx ≠ .deep) ∧
    (let s := { released with clk := { lantern := .locked, loops := BitVec.ofNat 64 (2 ^ 62) } }
     s.beatsRun = true ∧ s.laneServes 31 = true ∧ s.lanePower 31 = 0 ∧ (s.group 31).rx = .deep ∧ (s.group 31).scanning = false ∧
     s.loopLocked 31 (1 - 63 % 2) = true ∧ (s.group 31).claim = .none ∧ s.clk.loops.getLsbD 62 = true) ∧
    (let data : List Byte := [0xFF, 0xE0, 0x20, 64, 0xC1, 0x3F, 126, 40, 0, 0, 0, 0, 0, 0, 0, 0]
     inService.served = true ∧ data.length = 16 ∧ scanOk (ofBytes data) = true ∧ (inService.group 31).claim = .none ∧
     ((laneIn .up .adaptation).group 31).claim = .adaptation ∧ ((laneIn .up .adaptation).group 31).scanning = false) ∧
    (let c : Scan := { lanes := 1, state := 1, ph := 0, phMax := 0, v := 0, vMax := 1, vStep := 1 }
     let s := released.setGroup 31 { scan := c, claim := .eyeScan }
     (s.group 31).scan.state = 1 ∧ c.ph ≤ c.phMax ∧ c.toHold = false ∧ c.v + c.vStep ≤ c.vMax ∧
     c.vMax < { c with v := 1 }.v + c.vStep ∧ c.phMax < c.ph + c.phStep) ∧
    let c : Scan := { lanes := 1, state := 1, toHold := true, vMax := 10, outRow := 1 }
    let q : ReqId := ⟨.eyeScan 31, 0⟩
    let tx : Txn := { req := q, addr := holdBase, write := true, entered := false, size := 64, data := 5 }
    let s := { released.setGroup 31 { scan := c, claim := .eyeScan } with noc := { txns := [tx] }, time := { relStep := 3, beat := 2 } }
    (s.group 31).scan = c ∧ c.state = 1 ∧ c.written < min c.total (8 * c.outRow) ∧ c.answers = [] ∧ c.measured = false ∧
      s.noc.txns.find? (fun y => decide (y.req.src = .eyeScan 31) && !y.entered) = some tx ∧
      holdBase ≤ tx.addr ∧ tx.addr < holdEnd ∧ tx.addr % 64 = 0 ∧ HoldPortFree s (unitAt tx.addr).1 (unitAt tx.addr).2 16 ∧
      CleanRequest s q ∧ s.noc.answers = [] ∧
      (let m := { c with ph := 1, written := 4, answers := [Status.dataerr, .ok] }
       m.measured = true ∧ m.written < min m.total (8 * m.outRow) ∧ m.total ≤ m.written + 8 ∧ m.answers ≠ []) := by
  simp only [HoldPortFree, CleanRequest]
  decide +kernel


/-- A manager with worker 5 LIVE behind the Merig link of group 31. -/
def linked (g : Group) : State :=
  let s := { managerIn with clk := { lantern := .locked }, time := { relStep := 3 }, mer := { workers := [(5, { state := 2 })] } }
  ((s.setObj 0x351F 1 1).setObj 0x3600 3 (withBits (repByte 32 0xFF) 248 8 5)).setGroup 31 g

/-- A response flit for tag 3 of the dictionary engine. -/
def replyFlit : Flit := ⟨BitVec.ofNat 128 (3 * 2 ^ 124 + 3 * 2 ^ 106 + 3 * 2 ^ 90 + 12 * 2 ^ 86), 0⟩

/-- Obligations.MerigLink: each clause. -/
theorem witness_MerigLink :
    (let s := linked { rx := .up, trained := true, carBeatFlit := some (1, replyFlit), carKnown := true }
     let x := s.group 31
     x.carBeatFlit = some (1, replyFlit) ∧ x.carKnown = true ∧ 1 = (x.carSeqRx + 1) % 16 ∧ 2 ≠ (x.carSeqRx + 1) % 16 ∧
     replyFlit.isRequest = false ∧ replyFlit.isResponse = true ∧ replyFlit.req = some dictReq ∧
     dictReq ∉ s.noc.pathCorrected ∧ dictReq.stale ∉ s.noc.pathCorrected ∧ (dictReq, replyFlit.addr) ∉ s.noc.absorb ∧
     (dictReq, replyFlit.addr) ∉ s.noc.orphans ∧
     ({ s with noc := { txns := [{ req := dictReq, addr := replyFlit.addr, write := false }] } } : State).awaits dictReq replyFlit.addr = true ∧
     (dictReq, replyFlit.addr) ∈ ({ s with noc := { orphans := [(dictReq, replyFlit.addr)] } } : State).noc.orphans) ∧
    (∀ n ∈ [3, 4], let s := linked { carOut := [(15, n, replyFlit)], carIdle := 16 }
     (s.group 31).carOut = [(15, n, replyFlit)] ∧ 16 ≤ (s.group 31).carIdle ∧ replyFlit.isRequest = false) := by
  decide +kernel

/-- Obligations.MerigLink, resets of a worker and the loss of its link. -/
theorem witness_MerigLink_worker :
    (let s := linked {}
     s.served = true ∧ s.manager = true ∧ s.workerServes 5 = true ∧ s.workerServes 0 = false) ∧
    (∀ d ∈ [true, false], let s := { inService with mer := { own := 2, cmdDue := d } }
     s.manager = false ∧ s.mer.cmdDue = d ∧ s.obj 0x3600 6 = 1 ∧ s.rst.phase = .service ∧ (s.setObj 0x3600 6 0).obj 0x3600 6 ≠ 1) ∧
    let s := linked { rx := .shallow, trained := true, linked := true }
    s.manager = true ∧ s.isMerig 31 = true ∧ (s.group 31).linked = true ∧ (s.group 31).rx = .shallow ∧ s.lanePower 31 = 0 ∧
      s.linkByte 31 = 5 ∧ s.linkedLinks 5 = [31] ∧ (s.worker 5).state = 2 ∧ (s.worker 5).relayOpen = none := by
  decide +kernel

/-- Obligations.MerigRelay: a transfer, an open one, a request received, a chain load and its end. -/
theorem witness_MerigRelay :
    (let s := linked {}
     let open_ := s.setWorker 5 { state := 2, relayOpen := some (.survey, false) }
     s.served = true ∧ s.manager = true ∧ s.workerServes 5 = true ∧ (s.worker 5).relayOpen = none ∧
     open_.workerServes 5 = true ∧ (open_.worker 5).relayOpen = some (.survey, false) ∧ open_.eng.jobs = [] ∧ open_.can.rx = []) ∧
    (inService.manager = false ∧ inService.served = true ∧ inService.eng.jobs = [] ∧ inService.eng.current = none) ∧
    (let s := linked {}
     let v := ofBytes ([32, 0, 0, 0, 0, 0, 0, 0, 64] ++ List.replicate 7 0)
     s.mer.chainRunning = false ∧ v % 2 ^ 32 = 32 ∧ bitsAt v 64 64 % 64 = 0 ∧ (32 &&& (32#32).toNat) = 32 ∧
     (32 &&& (1#32).toNat) ≠ 32) ∧
    let s := { managerIn with mer := { chainRunning := true, chainWorkers := 32 } }
    s.mer.chainRunning = true ∧ s.mer.chain.length = 32 := by
  decide +kernel

/-- A key, and channel 0 in a state with it as key of epoch 3. -/
def chan (st : ChState) (cl : ChClaim) : Channel :=
  { state := st, claim := cl, epoch := 3, tagMap := 8, keys := [(3, some 0x0123456789ABCDEF)], base := .zeroed 3 0x0123456789ABCDEF 0 0x800000000 }

/-- A device whose channel `c` is `x`. -/
def withChannel (c : Nat) (x : Channel) : State := { released with dram := { channels := [(c, x)] } }

/-- Obligations.DramAccesses: the first line of the address space, a clean line and a word of it. -/
theorem witness_DramAccesses :
    let s := { withChannel 0 (chan .ready .none) with dram := { channels := [(0, chan .ready .none)]
                                                                cells := [(0, some ⟨1, 3, false⟩), (1, some ⟨2, 3, false⟩)] } }
    s.place (0#48).toNat = .dram 0 0 ∧ s.place (0x60#48).toNat = .dram 0 0x60 ∧ ChannelOpen s 0 0 ∧ ChannelOpen s 0 0x60 ∧ CleanRequest s dictReq ∧
    (s.subOutcome 0 0 0 .clean).status = .ok ∧ (s.subOutcome 0 32 32 .clean).status = .ok ∧
    (s.channel 0).current = some 0x0123456789ABCDEF := by
  simp only [ChannelOpen, CleanRequest]
  decide +kernel

/-- Obligations.DramChannelStates: channel 15 in each state, with a claim and without, and data rates. -/
theorem witness_DramChannelStates :
    (∀ c ∈ [ChClaim.none, .rescramble, .rfm], let s := withChannel 15 (chan .ready c)
      s.obj 0x3800 2 ≠ 0 ∧ s.served = true ∧ (s.channel 15).state = .ready ∧ (s.channel 15).claim = c ∧ s.obj 0x3800 8 ≠ 0 ∧
        s.chargeNow 15 = 0 ∧ (s.channel 15).buffer = [] ∧ (s.channel 15).held = [] ∧ (s.channel 15).queued = [] ∧
        s.dramInReset 15 = false) ∧
    (∀ st ∈ [ChState.selfRefresh, .faulty], let s := withChannel 15 (chan st .none)
      s.obj 0x3800 2 ≠ 0 ∧ s.served = true ∧ (s.channel 15).state = st ∧ (s.channel 15).claim = .none ∧ s.obj 0x3800 8 ≠ 0) ∧
    (let s := withChannel 15 (chan .training .retraining)
     (s.channel 15).state = .training ∧ (s.channel 15).held = [] ∧ (s.channel 15).queued = [] ∧ (s.channel 15).current ≠ none ∧
       Quiet s ∧ bitOf (s.desc (1029 + 8 * 15)) 15 = true) ∧
    (let s := withChannel 15 { chan .training .retraining with keys := [] }
     (s.channel 15).current = none ∧ (s.channel 15).noKey = false ∧ (s.channel 15).waitsEntropy = false) ∧
    (let s := withChannel 15 { chan .selfRefresh .none with held := [⟨dictReq, 0, 0, 0, 15, false, .clean, .clean, 0⟩] }
     (s.channel 15).state = .selfRefresh ∧ (s.channel 15).held ≠ [] ∧ (s.channel 15).buffer = []) ∧
    (let s := withChannel 15 { chan .selfRefresh .none with buffer := [⟨0x40, 5, false, 64, 0⟩] }
     (s.channel 15).state = .selfRefresh ∧ (s.channel 15).buffer ≠ []) ∧
    (let s := withChannel 15 (chan .ready .rescramble)
     s.served = true ∧ s.dev = .service ∧ 15 ∈ s.rateChannels ∧ (s.channel 15).claim ≠ .none ∧ s.rateTooLow 0 = false ∧
     ∀ d ∈ (withChannel 15 (chan .ready .none)).rateChannels, ((withChannel 15 (chan .ready .none)).channel d).claim = .none) ∧
    (released.dev = .service ∧ (0#8).toNat < 8 ∧ (7#8).toNat < 8 ∧ released.rateTooLow 0 = false) ∧
    let s := released.setObj 0x3800 0x10 (2 ^ 224 + (2 ^ 32 - 1) * 2 ^ 192 + (2 ^ 32 - 1) * 2 ^ 64)
    s.served = true ∧ s.rateTooLow 0 = true := by
  unfold Quiet
  decide +kernel

/-- Obligations.DramKeys: each clause on channel 15. -/
theorem witness_DramKeys :
    (let s := withChannel 15 (chan .ready .none)
     s.served = true ∧ s.chServes 15 = true ∧ (s.channel 15).claim = .none ∧ (s.channel 15).waitsEntropy = false ∧
     s.chState 15 = .ready ∧
     (s.channel 15).current.isSome = true ∧ (s.channel 15).noKey = false ∧ s.chState 15 ≠ .none ∧
     bitOf (s.channel 15).tagMap 4 = false) ∧
    (∀ i ∈ [true, false], let s := withChannel 15 { chan .ready .rescramble with initialising := i }
     (s.channel 15).claim = .rescramble ∧ (s.channel 15).current = some 0x0123456789ABCDEF ∧ (s.channel 15).initialising = i ∧
     (s.channel 15).sweepPos = 0 ∧ (s.channel 15).resweep = 0 ∧ s.lineGood 15 (s.linesOfChannel - 1) = true ∧ 0 < s.linesOfChannel) ∧
    (∀ e ∈ [3, 4], let s := { released with dram := { channels := [(15, chan .ready .rescramble)],
                                                       cells := [(cellKey 15 0, some ⟨1, e, false⟩)] } }
     s.cellKeys 15 0 (64 * s.linesOfChannel) = [cellKey 15 0] ∧ cellKey 15 0 % 2 ^ 33 / 2 = 0 ∧ s.lineGood 15 0 = decide (e = 3)) ∧
    (let s := withChannel 15 { chan .ready .none with tagMap := 0xFFFF }
     bitOf (s.channel 15).tagMap (((s.channel 15).epoch + 1) % 16) = true) ∧
    ((withChannel 15 { chan .ready .none with waitsEntropy := true }).channel 15).waitsEntropy = true := by
  decide +kernel

/-- Stream 0 of 64 KiB at address 0 with a share of 4 flits, at the end of its region, an active ring with 16 words, and its slot planned for channel 15. -/
def streaming : State :=
  let s := { withChannel 15 (chan .ready .none) with
    time := { relStep := 2 }
    hold := { units := [(4128, { fill := 16 })] }
    dram := { channels := [(15, chan .ready .none)], streams := [(0, { active := true, wp := 0xFFC0 })] } }
  ((s.setObj 0x3800 0x10 (16 * 2 ^ 64 + 4 * 2 ^ 192)).setObj 0x3700 1 (0x8F * 256 ^ (65544 + 23))).setObj 0x3200 0x13 (1 + 2 * 8)

/-- Obligations.ArchiveStreams: a buffered flit, a release, and a stream's slot. -/
theorem witness_ArchiveStreams :
    (let s := withChannel 0 { chan .ready .none with buffer := [⟨0x40, 5, false, 64, 0⟩] }
     s.chState 0 = .ready ∧ (s.channel 0).current = some 0x0123456789ABCDEF ∧ s.dramInReset 0 = false ∧
     (s.channel 0).buffer = [⟨0x40, 5, false, 64, 0⟩] ∧ s.place 0x40 = .dram 0 0x40) ∧
    (inService.served = true ∧ (31 :: List.replicate 8 (0xFF : Byte)).length = 9 ∧
     ofBytes (31 :: List.replicate 8 (0xFF : Byte)) % 256 = 31 ∧ (inService.stream 31).frozen = false) ∧
    (({ inService with dram := { streams := [(31, { frozen := true })] } } : State).stream 31).frozen = true ∧
    streaming.offers 0 23 = true ∧ claimOpen (streaming.unit 4128).claim = false := by
  decide +kernel

/-- Core `k` with registers k1 and k2, other fields as in `c`, and `w` as its word at PC `c.pc`. -/
def coreWith (k : Nat) (a b : BitVec 64) (c : Keeper) (w : Nat) : State :=
  { released with keep := [(k, { c with state := .running, regs := [(1, a), (2, b)] })] }.writeNat (codeBase k + 4 * c.pc) 4 w

/-- Core 3 without a parity error. -/
def onCore3 : Issue := ⟨3, false⟩

/-- Obligations.KeeperArithmetic: every FUNC, at PC 0 and at the last PC but one. -/
theorem witness_KeeperArithmetic : ∀ f < 12, ∀ pc ∈ [0, 65534],
    let w := 31 * 2 ^ 21 + 1 * 2 ^ 16 + 2 * 2 ^ 11 + f
    KeeperIssues onCore3 w (coreWith 3 5 7 { pc := pc } w) := by
  simp only [KeeperIssues]
  decide +kernel

/-- Obligations.KeeperImmediates: every opcode of the statement with its largest operand. -/
theorem witness_KeeperImmediates :
    (∀ op ∈ [4, 5, 6, 7, 11, 12], let w := op * 2 ^ 26 + 31 * 2 ^ 21 + 1 * 2 ^ 16 + 0xFFFF
      KeeperIssues onCore3 w (coreWith 3 5 7 {} w)) ∧
    (∀ op ∈ [8, 9, 10], let w := op * 2 ^ 26 + 31 * 2 ^ 21 + 1 * 2 ^ 16 + 63
      KeeperIssues onCore3 w (coreWith 3 5 7 {} w)) ∧
    let w := 0x28 * 2 ^ 26 + 31 * 2 ^ 21 + 0x1FFFFF
    KeeperIssues onCore3 w (coreWith 3 5 7 {} w) := by
  simp only [KeeperIssues]
  decide +kernel

/-- A core with one posted NLD that lands at line 0. -/
def loading (e : Option Status) : Keeper := { tags := [{ number := 0, read := true, landing := 0, ended := e, abandoned := false }] }

/-- Core 3 issues `op` on an address that k1 holds. -/
def Meets (op a : Nat) : Prop :=
  KeeperIssues onCore3 (op * 2 ^ 26 + 2 * 2 ^ 21 + 1 * 2 ^ 16) (coreWith 3 (BitVec.ofNat 64 a) 7 {} (op * 2 ^ 26 + 2 * 2 ^ 21 + 1 * 2 ^ 16))

/-- Obligations.KeeperMemory: every access at its first and last aligned address, misaligned before the end, and past the end. -/
theorem witness_KeeperMemory :
    (∀ x ∈ [(0x10, 0), (0x10, 0x3FFF8), (0x10, 0x3FFFC), (0x10, 0x40000), (0x12, 0), (0x12, 0x3FFF8), (0x12, 0x3FFFC), (0x12, 0x40000),
        (0x11, 0), (0x11, 0x3FFFC), (0x11, 0x3FFFE), (0x11, 0x40000), (0x13, 0), (0x13, 0x3FFFC), (0x13, 0x3FFFE), (0x13, 0x40000),
        (0x14, 0), (0x14, 0x3FFFF8), (0x14, 0x3FFFFC), (0x14, 0x400000), (0x15, 0), (0x15, 0x3FFFF8), (0x15, 0x3FFFFC),
        (0x15, 0x400000), (0x16, 0), (0x16, 0x3FFFF8), (0x16, 0x3FFFFC), (0x16, 0x400000)], Meets x.1 x.2) ∧
    (BitVec.ofNat 64 0x40000 + (0#16).signExtend 64).toNat = 0x40000 := by
  simp only [Meets, KeeperIssues]
  decide +kernel

/-- Obligations.KeeperMemory: a line in which an NLD may land, and one after an NLD that failed. -/
theorem witness_KeeperMemory_landing :
    (∀ e ∈ [none, some Status.ok], (loading e).landsAt 0 = true ∧ (loading e).landsAt 63 = true ∧ (loading e).landsAt 64 = false ∧
      ∀ op ∈ [0x10, 0x11, 0x12, 0x13], KeeperIssues onCore3 (op * 2 ^ 26 + 2 * 2 ^ 21 + 1 * 2 ^ 16)
        (coreWith 3 0 7 (loading e) (op * 2 ^ 26 + 2 * 2 ^ 21 + 1 * 2 ^ 16))) ∧
    (loading (some .dataerr)).landsAt 0 = false := by
  simp only [KeeperIssues]
  decide +kernel

/-- Obligations.KeeperControlFlow: conditions that hold and that do not, targets 0, 65,535 and outside, an illegal word, a parity
error. -/
theorem witness_KeeperControlFlow :
    (∀ op ∈ [0x18, 0x19, 0x1A, 0x1B, 0x1C, 0x1D, 0x24], ∀ imm ∈ [0xFFFE, 0xFFFF, 0x7FFF], ∀ a ∈ [7, 5],
      let w := op * 2 ^ 26 + 2 * 2 ^ 21 + 1 * 2 ^ 16 + imm
      KeeperIssues onCore3 w (coreWith 3 (BitVec.ofNat 64 a) 7 { pc := 1 } w)) ∧
    (1 + (0xFFFF#16).toInt = 0 ∧ 1 + (0xFFFE#16).toInt < 0 ∧ 32768 + (0x7FFF#16).toInt = 65535 ∧
      65535 < 32769 + (0x7FFF#16).toInt) ∧
    (∀ op ∈ [0x30, 0x31], ∀ off ∈ [0x3FFFFFF, 0x3FFFFFE],
      KeeperIssues onCore3 (op * 2 ^ 26 + off) (coreWith 3 5 7 { pc := 1 } (op * 2 ^ 26 + off))) ∧
    ((coreWith 3 5 7 {} 0xFFFFFFFF).mayIssue 3 = true ∧ legalWord ((coreWith 3 5 7 {} 0xFFFFFFFF).fetched 3) = false) ∧
    let w := 0x18 * 2 ^ 26 + 2 * 2 ^ 21 + 1 * 2 ^ 16
    (coreWith 3 5 7 {} w).mayIssue 3 = true ∧ (coreWith 3 5 7 {} w).fetched 3 = w := by
  simp only [KeeperIssues]
  decide +kernel

/-- A tag of a core. -/
def tagNo (n : Nat) (e : Option Status) : Tag := { number := n, read := true, landing := 0, ended := e, abandoned := false }

/-- A core whose lowest `n` tags are taken. -/
def tagged (n : Nat) : Keeper := { tags := (List.range n).map (fun m => tagNo m none) }

/-- Each of them is taken. -/
theorem tagged_full (n : Nat) : ∀ m, m < n → ∃ g ∈ (tagged n).tags, g.number = m :=
  fun m hm => ⟨tagNo m none, List.mem_map.2 ⟨m, List.mem_range.2 hm, rfl⟩, rfl⟩

/-- Its lowest free tag is `n`. -/
theorem tagged_lowest (n : Nat) (h : n < 512) : LowestFreeTag (tagged n) n := by
  refine ⟨h, fun g hg => ?_, tagged_full n⟩
  obtain ⟨m, hm, rfl⟩ := List.mem_map.1 hg
  exact Nat.ne_of_lt (List.mem_range.1 hm)

/-- Obligations.KeeperTransactions: aligned addresses with every tag free, a line in which an NLD lands and one in which none does; with all
but the last taken, that one is the lowest. -/
theorem witness_KeeperTransactions : (∀ f ∈ [0, 1, 2],
    let w := 2 ^ 26 + 3 * 2 ^ 21 + 1 * 2 ^ 16 + 2 * 2 ^ 11 + f
    let s := coreWith 3 0xE00000000040 0x3FFC0 {} w
    KeeperIssues onCore3 w s ∧ s.fenced 68 = false ∧ (s.keeper 3).tags = (tagged 0).tags ∧
      ((s.keeper 3).reg 1).toNat % 64 = 0 ∧ ((s.keeper 3).reg 2).toNat % 64 = 0 ∧ ((s.keeper 3).reg 2).toNat ≤ 0x3FFFF ∧
      (s.keeper 3).freeTag = some 0 ∧ (s.keeper 3).landsAt 0x3FFC0 = false) ∧ (loading none).landsAt 0 = true ∧
    LowestFreeTag (tagged 0) 0 ∧ LowestFreeTag (tagged 511) 511 := by
  refine ⟨?_, by decide, tagged_lowest 0 (by decide), tagged_lowest 511 (by decide)⟩
  unfold KeeperIssues
  decide +kernel

/-- Obligations.KeeperTransactions: a misaligned address, and no tag free. -/
theorem witness_KeeperTransactions_refused :
    (let w := 2 ^ 26 + 3 * 2 ^ 21 + 1 * 2 ^ 16 + 2 * 2 ^ 11
     KeeperIssues onCore3 w (coreWith 3 4 0 {} w) ∧ (4#64).toNat % 64 ≠ 0) ∧
    (let w := 2 ^ 26 + 3 * 2 ^ 21 + 1 * 2 ^ 16 + 2 * 2 ^ 11 + 2
     KeeperIssues onCore3 w (coreWith 3 4 0 (tagged 512) w) ∧ (coreWith 3 4 0 (tagged 512) w).fenced 68 = false) ∧
    ∀ m, m < 512 → ∃ g ∈ (tagged 512).tags, g.number = m := by
  refine ⟨?_, ?_, tagged_full 512⟩
  · unfold KeeperIssues
    decide +kernel
  · unfold KeeperIssues
    decide +kernel

/-- Obligations.KeeperTransactions, waits: a tag not held, an ended and an open one, and beats before and after. -/
theorem witness_KeeperTransactions_waits :
    (∀ tags ∈ [[], [tagNo 5 (some .ok)], [tagNo 5 none]], ∀ imm ∈ [0, 9], let w := 0x20 * 2 ^ 26 + 3 * 2 ^ 21 + 1 * 2 ^ 16 + imm
      KeeperIssues onCore3 w (coreWith 3 5 0 { tags := tags } w)) ∧
    ([tagNo 5 none].find? (fun g => g.number == (5#64).toNat && !g.abandoned) = some (tagNo 5 none) ∧ (9#16) ≠ 0) ∧
    (let c : Keeper := { state := .running, wait := .nwait 3 5 }
     c.wait = .nwait (3 : KReg).val 5 ∧ c.state = .running ∧ c.pcOver = false) ∧
    (∀ b ∈ [0, 2879], let w := 0x21 * 2 ^ 26 + 3 * 2 ^ 21 + 1 * 2 ^ 16 + 1
      let s := { coreWith 3 0 0 {} w with time := { relStep := 3, beat := b } }
      KeeperIssues onCore3 w s ∧ 0 < s.B ∧ min (((s.keeper 3).reg 1).toInt + (1#16).toInt) (s.B - 1) = 1 ∧
        (s.time.beat = 2879 → (1 : Int) ≤ s.time.beat) ∧ (s.time.beat = 0 → (s.time.beat : Int) < 1)) ∧
    let c : Keeper := { state := .running, wait := .wbeat 3 2879 }
    c.wait = .wbeat (3 : KReg).val 2879 ∧ c.state = .running ∧ c.pcOver = false := by
  simp only [KeeperIssues]
  decide +kernel

/-- Obligations.KeeperSystem: each instruction of the statement, each state of a core that is run, and a code store. -/
theorem witness_KeeperSystem :
    (∀ f ∈ [3, 5, 6], KeeperIssues onCore3 (2 ^ 26 + f) (coreWith 3 5 7 { datumPending := decide (f = 5) } (2 ^ 26 + f))) ∧
    (∀ a < 8, KeeperIssues onCore3 (2 ^ 26 + a * 2 ^ 16 + 4) (coreWith 3 5 7 { mailbox := [1] } (2 ^ 26 + a * 2 ^ 16 + 4))) ∧
    (∀ m ∈ [0, 15], let w := 0x22 * 2 ^ 26 + 1 * 2 ^ 16 + m
      KeeperIssues onCore3 w (coreWith 3 5 7 {} w)) ∧
    (∀ n ∈ [7, 8], let w := 0x23 * 2 ^ 26 + 3 * 2 ^ 21 + 1 * 2 ^ 16 + 63
      let s := coreWith 3 5 7 { emcy := List.replicate n ⟨0xFF00, 0, 0⟩ } w
      KeeperIssues onCore3 w s ∧ (s.keeper 3).emcy.length = n) ∧
    (∀ st ∈ [Core.stopped, .halted, .faulted, .running], let s := { inService with keep := [(3, { state := st })] }
      s.served = true ∧ s.keeperInReset 3 = false ∧ (s.keeper 3).state = st ∧ s.place 0x060000300000 = .code 3 0 ∧
        s.place 0x06000033FFC0 = .code 3 0x3FFC0 ∧ s.l0Runs = true ∧ s.fenced 68 = false ∧ CleanRequest s dictReq ∧
        (s.carriedBytes dictReq (List.replicate 64 7)).length = 64) := by
  simp only [KeeperIssues, CleanRequest]
  decide +kernel

/-- Obligations.StagedWrites: a mask of 4 bytes near and far, a beat count out of range, and a length of 1 too many. -/
theorem witness_StagedWrites :
    (∀ b ∈ [0, 2863, 2864, 2879], let s := { beating with time := { beat := b } }
      s.served = true ∧ objRow 0x3000 1 = some ⟨0x3000, 1, 0x1, 1, 4, .rws, .boundary⟩ ∧ asksDeepSleep 0x3000 1 1 = false ∧
      s.stagedOk (s.atBoundary [wholePart (okey 0x3000 1) 4 (dropReserved 0x3000 1 (ofBytes [1, 0, 0, 0]))]) 0x3000 1 = true) ∧
    (let r := objRow 0x2000 0x11
     r = some ⟨0x2000, 1, 0x11, 1, 1, .rws, .boundary⟩ ∧ beating.served = true ∧
     (∀ w ∈ [3, 65], beating.stagedOk (beating.atBoundary [wholePart (okey 0x2000 0x11) 1 w]) 0x2000 0x11 = false) ∧
     (∀ w ∈ [4, 64], beating.stagedOk (beating.atBoundary [wholePart (okey 0x2000 0x11) 1 w]) 0x2000 0x11 = true)) := by
  decide +kernel

/-- Obligations.ObjectWrites: each access, a value in range and one out of it, and a PROBE_SEL word. -/
theorem witness_ObjectWrites :
    State.reset.served = false ∧ inService.served = true ∧
    objRow 0x2300 2 = some ⟨0x2300, 1, 0x2, 1, 1, .ro, .fixed⟩ ∧
    (objRow 0x2300 0x19 = some ⟨0x2300, 1, 0x19, 1, 2, .rw, .service⟩ ∧ ({ inService with dev := .run } : State).dev ≠ .service ∧
      inService.dev = .service ∧ valueOk 0x2300 0x19 (ofBytes [0xE8, 3]) = true ∧ valueOk 0x2300 0x19 (ofBytes [0xE9, 3]) = false) ∧
    (objRow 0x2300 0x30 = some ⟨0x2300, 1, 0x30, 1, 2, .rw, .now⟩ ∧ valueOk 0x2300 0x30 (ofBytes [0, 1]) = true ∧
      valueOk 0x2300 0x30 (ofBytes [0, 0]) = false) ∧
    (inService.tapRuns = true ∧ inService.cfg.splice = none ∧ inService.loadRuns = false ∧
      ∀ w ∈ [0, 31 * 2 ^ 32 + 2 ^ 37], inService.stagedOk (inService.atBoundary (probeParts w)) 0x3000 2 = true) := by
  decide +kernel

/-- Obligations.DictionaryRequests: the Survey port, a window slot, and an operation in progress. -/
theorem witness_DictionaryRequests :
    (inService.surveyOpen = true ∧ inService.loadRuns = false ∧ inService.served = true ∧ EngineIdle inService ∧
      (inService.session 0).copyValid = false ∧ (inService.session 0).collecting = false ∧
      ∀ op ∈ [0, 1, 2, 3], bitsAt (BitVec.ofNat 128 (op * 2 ^ 102 + 2 ^ 64)).toNat 102 2 = op ∧
        bitsAt (BitVec.ofNat 128 (op * 2 ^ 102 + 2 ^ 64)).toNat 64 32 = 1 ∧ bitsAt (BitVec.ofNat 128 (op * 2 ^ 102)).toNat 64 32 = 0) ∧
    (let s := { inService with eng := { sessions := [(0, { collecting := true, buf := [1], index := 7, sub := 8 })] } }
     EngineIdle s ∧ (s.session 0).collecting = true ∧ (s.session 0).index = 7 ∧ (s.session 0).sub = 8 ∧
     (s.session 0).buf.length = 1) ∧
    (inService.svcBroken = false ∧ ({ inService.setObj 0x2100 3 5 with clk := { lantern := .locked } }).svcBroken = true) ∧
    (inService.crossDelay 4 0 = 0 ∧ inService.l0Runs = true ∧ CleanRequest inService dictReq ∧ 1 ≤ (1#8).toNat ∧ (48#8).toNat ≤ 48 ∧
      (inService.session 6).copyValid = false ∧ (inService.session 6).collecting = false) ∧
    (let j : Job := ⟨0, .read 0 8, 0x2000, 1, 1, true, 0⟩
     let s := { inService with eng := { current := some j } }
     s.served = true ∧ s.eng.current = some j ∧ s.eng.jobs = [] ∧ s.can.rx = [] ∧ objRow j.index j.sub ≠ none ∧ j.index < 0x2300 ∧
     indexExists 0x2001 = false) ∧
    1 < ({ client := 0, kind := .write [], index := 0, sub := 0, opsLeft := 2, started := true, arrival := 0 } : Job).opsLeft := by
  simp only [EngineIdle, CleanRequest]
  decide +kernel

/-- A node in an NMT state. -/
def nodeIn (n : Nmt) (d : Dev) : State := { inService with can := { nmt := n }, dev := d }

/-- Obligations.NmtCommands: every device state. -/
theorem witness_NmtCommands : ∀ d ∈ [Dev.service, .configured, .hold, .run],
    let s := nodeIn .preOperational d
    CanReady s ∧ s.can.nmt ≠ .initialisation ∧ s.dev = d ∧ s.time.startPending = false ∧ s.rst.phase = .service := by
  unfold CanReady
  decide +kernel

/-- A node with a session of its USDO server. -/
def sessionIn (x : Session) : State := { nodeIn .operational .run with eng := { sessions := [(1, x)] } }

/-- Obligations.UsdoTransfers: no session, a download and an upload in progress. -/
theorem witness_UsdoTransfers :
    (CanReady (nodeIn .stopped .hold) ∧ EngineIdle (nodeIn .stopped .hold) ∧ (nodeIn .stopped .hold).can.nmt = .stopped) ∧
    (∀ o ∈ [0, 1, 2], let s := sessionIn { opened := o, buf := [1, 2], size := 4 }
      CanReady s ∧ EngineIdle s ∧ s.can.nmt = .operational ∧ (s.session 1).opened = o ∧
        (s.session 1).buf.length + [3, 4].length = (s.session 1).size) := by
  unfold CanReady EngineIdle
  decide +kernel

/-- Obligations.CanServices: each service. -/
theorem witness_CanServices :
    (let s := nodeIn .operational .run
     s.served = true ∧ s.canTalks = true ∧ s.can.nmt ≠ .initialisation ∧ s.obj 0x1017 0 ≠ 0 ∧ s.can.emcyQueue.length < 32) ∧
    (let s := (nodeIn .operational .run).setObj 0x1016 8 (126 * 2 ^ 16 + 50)
     CanReady s ∧ s.can.consumers.length = 8 ∧ s.obj 0x1016 (7 + 1) ≠ 0 ∧ bitsAt (s.obj 0x1016 (7 + 1)) 16 8 = (126#7).toNat ∧
     s.consumerOk 7 (125 * 2 ^ 16 + 50) = true ∧ bitsAt (127 * 2 ^ 16) 16 8 = s.can.nodeId ∧ 127 * 2 ^ 16 % 2 ^ 24 ≠ 0) ∧
    (let s := { inService with can := { consumers := [{}, {}, {}, {}, {}, {}, {}, { monitoring := true }] } }
     s.can.consumers.getD 7 {} = { monitoring := true, timedOut := false }) ∧
    (let s := { nodeIn .operational .run with can := { nmt := .operational, emcyQueue := [⟨0x8130, 5, 0⟩] } }
     s.can.emcyQueue = [⟨0x8130, 5, 0⟩] ∧ s.canTalks = true ∧ Quiet s) ∧
    (({ inService with can := { bus := 2 } } : State).can.bus = 2) ∧
    let s := { inService with can := { bus := 3 }, clk := { daymark := true } }
    s.can.bus = 3 ∧ s.clk.daymark = true := by
  unfold CanReady Quiet
  decide +kernel

/-- A contract block for M 96, B from 64 to 4,096 and sector 15. -/
def block15 : Nat := 1 * 2 ^ 8 + 96 * 2 ^ 16 + 64 * 2 ^ 24 + 64 * 2 ^ 32 + 4096 * 2 ^ 48 + 2 ^ 15 * 2 ^ 64

/-- A header of one frame for slot 7 and sector 15, unsigned or signed. -/
def headerOf (signed : Nat) : Nat :=
  0x4333584B + 1 * 2 ^ 32 + 3 * 2 ^ 48 + 7 * 2 ^ 56 + 7 * 2 ^ 64 + signed * 2 ^ 72 + 2 ^ 15 * 2 ^ 80 + 1 * 2 ^ 96 + 392 * 2 ^ 128 +
    block15 * 2 ^ 256

/-- A load into slot 7, sector 15, in a state. -/
def loadingIn (l : Load) (signed seen : Nat) (cleared : Bool) : State :=
  { inService with cfg := { tap := 0x10, load := l, slot := 7, mask := 2 ^ 15, framesSeen := seen, cleared := cleared
                            header := toBytes 64 (headerOf signed) } }

/-- Obligations.SurveyInstructions: no load, a manager's port, and a load in progress. -/
theorem witness_SurveyInstructions :
    (inService.tapRuns = true ∧ inService.cfg.splice = none ∧ inService.loadRuns = false ∧ inService.l0Runs = true ∧
      inService.manager = false ∧ managerIn.manager = true ∧ managerIn.loadRuns = false) ∧
    let s := loadingIn .frames 0 0 false
    s.tapRuns = true ∧ s.cfg.splice = none ∧ s.cfg.load = .frames ∧ bitOf s.cfg.mask 15 = true := by
  decide +kernel

/-- `s` with the first byte of `part` taken, CFG_LOAD or CFG_WIDE selected, and `stream` taken before. -/
def partTaken (wide : Bool) (part stream : List Byte) (s : State) : State :=
  { s with cfg := { s.cfg with tap := if wide then 0x11 else 0x10, partBytes := part.take 1, stream := stream } }

/-- Obligations.ImageLoads, headers and frames: a good header, one without magic and one of a wrong length; a frame before and after the
clear, at a bad address, at one outside the mask, and of a fenced sector. -/
theorem witness_ImageLoads : ∀ wide ∈ [true, false],
    (∀ x ∈ [(headerOf 0, 0), (headerOf 0 + 1, 1), (headerOf 0 + 2 ^ 128, 7)],
     let part := toBytes 64 (BitVec.ofNat 512 x.1).toNat
     let s := partTaken wide part [] (loadingIn .header 0 0 false)
     PartDue wide part s ∧ s.cfg.load = .header ∧ s.headerError (BitVec.ofNat 512 x.1).toNat = x.2) ∧
    (∀ c ∈ [true, false], ∀ x ∈ [(15 * 2 ^ 28, false, 1), (15 * 2 ^ 28 + 1, true, 1), (14 * 2 ^ 28, false, 0)],
     let part := toBytes 4 (BitVec.ofNat 32 x.1).toNat ++ toBytes 320 (5#2560).toNat
     let s := partTaken wide part [] (loadingIn .frames 0 0 c)
     PartDue wide part s ∧ s.cfg.load = .frames ∧ s.cfg.framesSeen < headFrames s.header ∧ s.cfg.cleared = c ∧ s.cfgBroken = false ∧
     badAddress (BitVec.ofNat 32 x.1).toNat = x.2.1 ∧ bitOf s.cfg.mask (bitsAt (BitVec.ofNat 32 x.1).toNat 28 4) = decide (x.2.2 = 1) ∧
     s.fenced 15 = false ∧ ({ s with noc := { fenceState := [(15, 2)] } } : State).fenced 15 = true) := by
  simp only [PartDue]
  decide +kernel

/-- Obligations.ImageLoads, the end of a load: trailers that match and that do not, with and without a signature, the signature, and both
verdicts. -/
theorem witness_ImageLoads_end : ∀ wide ∈ [true, false],
    (∀ x ∈ [(0, 0, 0), (0, 1, 0), (1, 0, 3081), (1, 1, 3081)],
     let block := List.replicate x.2.2 (7 : Byte)
     let part := toBytes 4 (BitVec.ofNat 32 x.2.1).toNat ++ block
     let s := partTaken wide part [] (loadingIn .frames x.1 1 true)
     PartDue wide part s ∧ s.cfg.load = .frames ∧ s.cfg.framesSeen = headFrames s.header ∧ headSigned s.header = decide (x.1 = 1) ∧
     block.length = x.2.2 ∧ ((BitVec.ofNat 32 x.2.1).toNat = crc32c s.cfg.stream ↔ x.2.1 = 0)) ∧
    (let block := List.replicate 3081 (7 : Byte)
     let s := partTaken wide block [] (loadingIn .signature 1 1 true)
     PartDue wide block s ∧ s.cfg.load = .signature) ∧
    (let s := loadingIn .checking 0 1 true
     s.cfg.load = .checking ∧ s.cfg.cleared = true ∧ s.imageVerdict = 0) ∧
    ({ loadingIn .checking 1 1 true with sec := { life := 2 } } : State).imageVerdict = 12 := by
  simp only [PartDue]
  decide +kernel

/-- Sector 0 of slot 0 and sector 8 of slot 7 are VALID. -/
def loaded : State := { inService with cfg := { regions := [(0, .valid), (7 * 16 + 8, .valid)] } }

/-- Obligations.Scrubbing: frames 1 and 17,407 of a region, a request, one that stands, and invalidations. -/
theorem witness_Scrubbing :
    (∀ n ∈ [1, 17407], let s := { loaded with cfg := { loaded.cfg with posA := ⟨0, n⟩ } }
      s.l0Runs = true ∧ s.pwr.state < 2 ∧ s.cfgBroken = false ∧ s.reqPos 0 = none ∧ s.scrubAt 0 64 (s.scrubPos 0) = some ⟨0, n⟩ ∧ n ≠ 0 ∧ n + 1 < 17409 ∧
        Tbl.at 0 s.cfg.upsets (0 * 2 ^ 32 + regionFrameAddr 0 n) = 0 ∧ s.region 0 0 = .valid ∧ s.ctxOf 0 ≠ 0) ∧
    (loaded.l0Runs = true ∧ loaded.pwr.state < 2 ∧ loaded.rst.phase = .service ∧ loaded.checksPeer 0 = true ∧ loaded.checksPeer 1 = true) ∧
    (loaded.served = true ∧ loaded.loadClaims 0 = false ∧ loaded.cfg.request = none ∧
      loaded.scrubAt 0 (8 * 0 + 8) ⟨8 * 0, 0⟩ = some ⟨0, 0⟩) ∧
    (({ loaded with cfg := { loaded.cfg with request := some 7 } } : State).cfg.request.isSome = true) ∧
    (bitsAt (7 * 2 ^ 16 + 2 ^ 8) 16 3 = 7 ∧ loaded.slotActive 7 8 = false ∧ loaded.loadClaims 7 = false ∧ loaded.cfg.request ≠ some 7) ∧
    ({ loaded with stg := { ctx := 0 :: List.replicate 15 8 } } : State).slotActive 0 0 = true := by
  decide +kernel

/-- A device whose clocks are `c`. -/
def clocked (p : Phase) (c : Clocks) : State := { rst := { phase := p }, clk := c }

/-- Obligations.ClockLoops: the judges of both oscillators at their limits, the loops, and the settings. -/
theorem witness_ClockLoops :
    ((clocked .xoJudging {}).aonRuns = true ∧ (clocked .xoJudging {}).clk.xoGood = false ∧
      (clocked .xoJudging { xoPasses := 2, xoWindows := 14 }).clk.xoWindows + 1 < 16 ∧
      (clocked .xoJudging { xoWindows := 15 }).clk.xoWindows = 15 ∧ (clocked .service { xoGood := true }).aonRuns = true) ∧
    (let s := clocked .service { xoGood := true, refPasses := 2, daymark := true, enteredService := true }
     s.aonRuns = true ∧ s.clk.xoGood = true ∧ s.clk.refTainted = false ∧ s.referenceComes = true ∧
     ((80016 : Int) - (s.obj 0x2100 1 : Int)).natAbs * 1000000 ≤ s.obj 0x2100 5 * s.obj 0x2100 1 ∧
     s.obj 0x2100 5 * s.obj 0x2100 1 < ((80017 : Int) - (s.obj 0x2100 1 : Int)).natAbs * 1000000 ∧ s.clk.refGood = false ∧
     s.clk.refPasses = 2 ∧ s.clk.lantern = .off ∧ s.clk.daymark = true ∧ s.clk.enteredService = true) ∧
    (∀ l ∈ [Lantern.coast, .locked, .locking, .relock], let s := clocked .service { xoGood := true, refGood := true, lantern := l }
     s.aonRuns = true ∧ s.clk.refTainted = false ∧ s.referenceComes = true ∧ s.clk.memHoldover = false ∧ s.clk.lantern = l) ∧
    (clocked .service { xoGood := true, daymark := true, memHoldover := true }).clk.daymark = true ∧
    (let s := clocked .daymark { xoGood := true }
     s.aonRuns = true ∧ s.clk.daymark = false ∧ s.rst.phase = .daymark ∧ s.marchOption = false) ∧
    (let s := clocked .service { xoGood := true }
     s.clk.daymark = false ∧ s.clk.refGood = false ∧ s.rst.phase = .service) ∧
    (let s := clocked .service { lantern := .locked }
     s.served = true ∧ s.dev = .service ∧ s.clockOk 96 s.fRef = true ∧ s.clockOk 100 s.fRef = false ∧ s.clk.lantern = .locked ∧
     s.clockOk s.M 80000 = true ∧ 40000 ≤ (80000#32).toNat ∧ (39999#32).toNat < 40000 ∧ 100000 < (100001#32).toNat) := by
  decide +kernel

/-- Obligations.PowerAndThermal: regulators 0 and 3, a ramp, the exit from UPPER-OFF, samples at every threshold, the exit from
shutdown. -/
theorem witness_PowerAndThermal :
    (inService.aonRuns = true ∧ inService.part.grade ≠ .n ∧ inService.pat.layer = .on ∧ inService.pat.offAtAck = false ∧
      (3 : Fin 4).val = 3) ∧
    (let s := { inService with pwr := { ramping := [15], vl3Off := [15] } }
     s.pwr.ramping.contains 15 = true ∧ s.sectorFenceWanted 15 = false) ∧
    (let s := { inService with pwr := { state := 3, transition := 5 } }
     s.pwr.state = 3 ∧ s.pwr.transition = 5) ∧
    (∀ th ∈ [0, 1, 2], ∀ n ∈ [0, 31, 48, 127], let s := { inService with pwr := { thermal := th } }
     s.rst.phase = .service ∧ (n < 32 ∨ 48 ≤ n) ∧ s.pwr.broken.getLsbD n = false ∧ (storeReading n 1839 s).stuckSensor n = false ∧
     s.pwr.nvmPending = 0 ∧ s.pwr.thermal = th) ∧
    (∀ r ∈ [-640, 1439, 1440, 1520, 1519, 1600, 1839, 1840, 2400], (storeReading 0 r inService).temperature = max 0 r) ∧
    (16 * (inService.obj 0x2300 0x10 : Int) = 1520 ∧ 16 * (inService.obj 0x2300 0x11 : Int) = 1600) ∧
    let s := { rst := { phase := .shutdown }, pwr := { readings := [(0, 1360)] } : State }
    inService.aonRuns = true ∧ s.rst.phase = .shutdown ∧ ∀ n, n < 16 → s.rawReading n ≤ 1360 := by
  decide +kernel

/-- Entry 31 of the supply supervisor: enabled, address 0x40, with its power-good pin and its action. -/
def supervising (busFails pgLow : Nat) : State :=
  { managerIn.setObj 0x2300 0x31 ((1 + 0x40 * 2 + 2 ^ 16 + 95 * 2 ^ 24) * 2 ^ (64 * 31)) with
    pwr := { busFails := if busFails = 0 then [] else [(4 * 31, busFails)], pgLow := if pgLow = 0 then [] else [(31, pgLow)] } }

/-- Obligations.SupplySupervision: a poll, a second failure in a row, an alert, and the third low sample. -/
theorem witness_SupplySupervision :
    (let s := supervising 0 0
     s.inputMapped 5 = false ∧ s.inputMapped 6 = false ∧ s.alertLow false = true ∧ s.busAnswer 0x40 (some 4) (some 5) = some 4 ∧
     s.busAnswer 0x40 none none = none) ∧
    (let m := { supervising 0 0 with dict := (inService.setObj 0x2400 1 (7 + (7 + 1 * 2 ^ 5) * 2 ^ 16)).dict
                                     pins := { classes := List.replicate 6 1, ext := 3 } }
     m.inputMapped 5 = true ∧ m.inputMapped 6 = true ∧ m.mirrorHigh 5 = true ∧
       ({ m with pins := { m.pins with ext := 0 } } : State).mirrorHigh 5 = false) ∧
    (∀ n ∈ [0, 1], let s := supervising n 2
      s.pmbusRuns = true ∧ bitOf (s.supervisor 31) 0 = true ∧ s.pollNext = some 31 ∧ Tbl.at 0 s.pwr.busFails (4 * 31) = n ∧
        bitsAt (s.supervisor 31) 1 7 = (0x40#7).toNat ∧ bitOf (s.supervisor 31) 16 = true ∧
        (∀ j, j < 31 → bitOf (s.supervisor j) 0 = false) ∧ bitsAt (s.supervisor 31) 24 8 < 96 ∧ Tbl.at 0 s.pwr.pgLow 31 = 2 ∧
        s.powerGood (bitsAt (s.supervisor 31) 24 8) false = false) ∧
    ((0x0001#16).toNat &&& 0xF87C = 0 ∧ (0x0004#16).toNat &&& 0xF87C ≠ 0) ∧
    let s := { supervising 0 0 with pins := { classes := List.replicate 6 1 } }
    s.powerGood 95 true = true := by
  decide +kernel

/-- Obligations.ResetSources: every phase a source meets, the requests at the dictionary, and the reset that waits. -/
theorem witness_ResetSources :
    (inService.rst.phase = .service ∧ inService.rst.phase ≠ .powerOn ∧ inService.rst.phase ≠ .held ∧
      (clocked .starting {}).rst.phase ≠ .powerOn ∧ (clocked .starting {}).rst.phase ≠ .held ∧ (clocked .held {}).rst.phase = .held ∧
      (clocked .starting {}).rst.phase ≠ .service ∧ ({ inService with sec := { lcPending := true } } : State).sec.lcPending = true) ∧
    (inService.served = true ∧ inService.rst.pendingReset = none ∧ (0#8) ≠ 1 ∧ (3#8) ≠ 2) ∧
    (∀ w ∈ [true, false], let s : State := { rst := { phase := .service, pendingReset := some (w, 1) } }
      s.rst.phase = .service ∧ s.rst.pendingReset = some (w, 1)) := by
  decide +kernel

/-- Obligations.StartUp: power-on, the entry to SERVICE with and without trained channels, and option writes. -/
theorem witness_StartUp :
    State.reset.rst.phase = .powerOn ∧
    (let s : State := { rst := { phase := .starting }, dram := { channels := (List.range 16).map (fun c => (c, { state := .ready })) } }
     s.rst.phase = .starting ∧ s.pwr.state = 0 ∧ s.marching = false ∧ s.backup.shutdownLatched = false ∧
     s.backup.tamperUnpowered = false ∧ s.channelsTrained = true ∧ s.layerSettled = true ∧ s.canTalks = true ∧
     ({ s with pat := { layer := .clearing } } : State).layerSettled = false ∧
     ({ s with dram := {} } : State).channelsTrained = false) ∧
    (inService.served = true ∧ inService.dev = .service ∧ inService.burnWindow = true ∧ inService.nvmWrites 0 < 100000 ∧
      inService.nvmWrites 1 < 100000 ∧ (List.replicate 508 (0 : Byte)).length = 508) ∧
    ({ inService with pwr := { readings := [(15, 1361)] } } : State).burnWindow = false := by
  decide +kernel

/-- Obligations.BlockResets: masks of each length, values of the engine's reset, and blocks that leave and stay. -/
theorem witness_BlockResets :
    (inService.served = true ∧ (List.replicate 32 (0xFF : Byte)).length = 32 ∧ (List.replicate 33 (0xFF : Byte)).length = 33 ∧
      2 ≤ (2#8).toNat) ∧
    (∀ b ∈ [0, 255, 256, 287, 288, 303, 304, 307, 308, 563, 564, 823, 824],
      let s : State := { rst := { phase := .service, leaving := [b] } }
      b ∈ s.rst.leaving ∧ s.blockBit b = false ∧ s.blockClears b = false) ∧
    825 ∉ inService.rst.leaving := by
  decide +kernel

/-- No unit of hold memory has a claim at reset, as Obligations.BlockResets asks. -/
theorem witness_BlockResets_units : ∀ k, (inService.unit k).claim = .none := fun _ => rfl

/-- Obligations.PinsAndConsoles: both lengths, full and empty consoles, a mapped receive input, and a rail of each class. -/
theorem witness_PinsAndConsoles :
    (let s := { released with cfg := { tap := 1 }, pins := { classes := List.replicate 6 1 } }
     s.served = true ∧ s.cfg.tap ≠ 0 ∧ s.cfg.tap ≠ 3 ∧ s.cfg.tap ≠ 4 ∧ s.pins.sleeping = false ∧ s.time.relStep ≠ 0 ∧
     (∀ n ∈ [0, 95], s.bankPresentPin n = true ∧ s.pins.frozen.getLsbD n = false) ∧
     ∀ f ∈ [1, 2], muxFunc ((s.setObj 0x2400 1 (f * 2 ^ (16 * 95))).mux 95) = f) ∧
    ((inService.pins.conTx.getD 3 []).length + (List.replicate 48 (0 : Byte)).length ≤ 256 ∧
      256 < (List.replicate 209 (0 : Byte)).length + (List.replicate 48 (0 : Byte)).length) ∧
    (let s := { inService.setObj 0x2400 1 (8 + 7 * 2 ^ 5) with pins := { classes := List.replicate 6 1 } }
     s.rst.phase = .service ∧ s.inputMapped (1 + 3) = true ∧ (s.pins.conRx.getD 3 []).length < 256) ∧
    inService.rst.phase ≠ .powerOn ∧ inService.rst.phase ≠ .held ∧ inService.pins.classes.length = 6 ∧ inService.pins.classes.getD 5 0 = 0 := by
  decide +kernel

/-- Obligations.PinWatches: a watch not yet judged, and windows that pass. -/
theorem witness_PinWatches : ∀ n ∈ [100, 101], let s := watching n
    s.pins.watches.length = 8 ∧ s.beatsRun = true ∧ (s.watch 2).judged = false ∧ (s.watch 2).fresh = false ∧ (s.watch 1).fresh = true ∧ (s.watch 2).armed = true ∧
      (n = 101 → watchWindow (s.watchCfg 2) < (s.watch 2).since) ∧ watchWindow (s.watchCfg 2) = 100 := by
  decide +kernel

/-- Obligations.TimersAndCounters: bounds of a clear, a due timer and one that is not, and owners of timers. -/
theorem witness_TimersAndCounters :
    (∀ w ∈ [0, 1535 * 2 ^ 16, 1535 * 2 ^ 16 + 1535], w % 2 ^ 11 ≤ w / 2 ^ 16 % 2 ^ 11 ∧ w / 2 ^ 16 % 2 ^ 11 ≤ 1535) ∧
    (inService.served = true ∧ (1 : Nat) % 2 ^ 11 > 1 / 2 ^ 16 % 2 ^ 11 ∧ 1535 < 1536 * 2 ^ 16 / 2 ^ 16 % 2 ^ 11) ∧
    (let s := { released.setObj 0x2500 0x17 (4095 + 7 * 2 ^ 16 + 9 * 2 ^ 32) with time := { relStep := 3, beat := 2879, rot := 9 } }
     s.obj 0x2500 (0x10 + 7) = 4095 + 7 * 2 ^ 16 + 9 * 2 ^ 32 ∧ s.released = true ∧ s.beatsRun = true ∧ s.time.cyc = 0 ∧
     s.time.beat = (if 4095 < s.B then 4095 else s.B - 1) ∧ s.time.rot % 7 = 9 % 7 ∧ ({ s with time := {} } : State).released = false) ∧
    (let s := { inService with ev := { timerOwner := [2, 1, 0, 0, 0, 0, 0, 0] } }
     s.served = true ∧ s.ev.timerOwner.getD 1 0 = Path.survey.code + 1 ∧ s.ev.timerOwner.getD 0 0 ≠ Path.survey.code + 1 ∧
     s.ev.timerOwner.getD 2 0 = 0) := by
  decide +kernel

/-- Obligations.SecurityResponse: latches enabled, disabled and set, in and out of power-on reset, glitches, and key loads. -/
theorem witness_SecurityResponse :
    (let s := { inService with backup := { tamperConfig := 0x15 } }
     ∀ pin ∈ [0, 1], bitOf s.backup.tamperConfig (2 * pin) = true ∧ bitOf s.backup.tamperLatches pin = false ∧
       s.rst.phase ≠ .powerOn ∧ s.rst.phase ≠ .held) ∧
    (∀ ph ∈ [Phase.powerOn, .held], let s : State := { backup := { tamperConfig := 0x15 }, rst := { phase := ph } }
     (s.rst.phase = .powerOn ∨ s.rst.phase = .held) ∧ bitOf s.backup.tamperConfig 2 = true ∧ bitOf s.backup.tamperLatches 1 = false) ∧
    (bitOf inService.backup.tamperConfig 0 = false ∧ bitOf inService.backup.tamperConfig 4 = true ∧
      bitOf ({ inService with backup := { tamperConfig := 0 } } : State).backup.tamperConfig 4 = false ∧
      ({ inService with sec := { sramWiping := true } } : State).sec.sramWiping = true) ∧
    (inService.served = true ∧ inService.sec.life = 1 ∧ inService.time.rot + 2 ≤ (2#64).toNat ∧
      (1#64).toNat < inService.time.rot + 2 ∧ ({ inService with sec := { life := 4 } } : State).sec.life ≠ 1) := by
  decide +kernel

/-- A request of 3,081 bytes for a life-cycle state. -/
def lcData (target : Byte) : List Byte := target :: List.replicate 3080 0

/-- Obligations.LifeCycle: scrapping from state 1, which needs no signature; no legal target; an owner key that differs; attestation. -/
theorem witness_LifeCycle :
    ((lcData 4).length = 3081 ∧ inService.served = true ∧ inService.dev = .service ∧ inService.sec.life = 1 ∧
      ((lcData 4).getD 0 0).toNat = 4 ∧ inService.burnWindow = true ∧ inService.sec.attState ≠ 1 ∧
      ((lcData 3).getD 0 0).toNat = 3) ∧
    (let s := { inService with sec := { life := 2 } }
     s.sec.life = 2 ∧ s.burnWindow = true) ∧
    ({ inService with pwr := { readings := [(15, 1361)] } } : State).burnWindow = false ∧
    (State.reset.rst.phase = .powerOn ∧ State.reset.backup.lifeCopy ≤ State.reset.nvm.otpState) ∧
    ((List.replicate 32 (0 : Byte)).length = 32 ∧ ({ inService with sec := { attState := 1 } } : State).sec.attState = 1) := by
  decide +kernel

/-- An owner's key whose digest is not the stored one exists for every value of the hash, as Obligations.LifeCycle asks. -/
theorem witness_LifeCycle_key (key : List Byte) :
    ∃ s : State, s.sec.life = 2 ∧ s.burnWindow = true ∧ Config.shake256 key ≠ s.nvm.ownerDigest :=
  ⟨{ inService with sec := { life := 2 }, nvm := { ownerDigest := 0 :: Config.shake256 key } }, rfl,
    (by decide +kernel : inService.burnWindow = true), fun h => List.cons_ne_self _ _ h.symm⟩

end Sys2Proof.Tests
end

/-! The factory's settings (R1): every command keeps them, and the identity objects of Table 1-4 report them. -/

namespace Sys2Proof.Machine

/-! Each arm of `exec` is a meaning with a `_kept` law of its own; together they speak of every command. -/

/-- What every meaning keeps: the factory part, and the queue that the command was taken from. -/
@[simp] theorem exec_kept (c : Instr) (s : State) :
    (after (exec c s) s).part = s.part ∧ (after (exec c s) s).pending = s.pending := by
  cases c <;> simp [exec]

theorem exec_next_kept {c : Instr} {s t : State} (h : exec c s = .next t) : t.part = s.part ∧ t.pending = s.pending := by
  have hkept := exec_kept c s
  rwa [h, after_next] at hkept

/-! Numbers written little-endian: byte i div 8 holds bit i of the number as its bit i mod 8. -/

theorem toBytes_getD (n x i : Nat) (hi : i < n) : (toBytes n x).getD i 0 = BitVec.ofNat 8 (x / 256 ^ i) := by
  induction n generalizing x i with
  | zero => omega
  | succ n ih =>
    cases i with
    | zero => simp [toBytes]
    | succ i => rw [toBytes, List.getD_cons_succ, ih _ _ (by omega), Nat.div_div_eq_div_mul, Nat.pow_succ']

theorem toBytes_getLsbD (n x i : Nat) (hi : i < 8 * n) :
    ((toBytes n x).getD (i / 8) 0).getLsbD (i % 8) = x.testBit i := by
  have hbit : i % 8 < 8 := Nat.mod_lt i (by decide)
  have hpow : 256 ^ (i / 8) = 2 ^ (8 * (i / 8)) := (Nat.pow_mul 2 8 _).symm
  rw [toBytes_getD n x _ (by omega), hpow, BitVec.getLsbD_ofNat, Nat.testBit_div_two_pow, Nat.mod_add_div,
    decide_eq_true hbit, Bool.true_and]

/-! Reads of index 0x2000. -/

/-- A read of a readable identity object of fixed length succeeds, answers its value, and has no effect of its own. -/
theorem readOp_identity (s : State) {sub : Nat} {r : ObjRow} (hr : objRow 0x2000 sub = some r) (hlen : r.len ≠ 0)
    (hacc : r.acc ≠ .wo) : readOp 0x2000 sub s = (0, toBytes r.len (s.readIdentity sub), s) := by
  have hidx : indexExists 0x2000 = true := by decide
  have hcode : s.objectCode 0x2000 sub = 0 := by simp [State.objectCode, hidx, hr]
  have hbytes : s.objectBytes 0x2000 sub = toBytes r.len (s.readIdentity sub) := by
    simp [State.objectBytes, State.readObject, State.readSystem, hr, hlen, hacc]
  simp [readOp, hcode, hbytes]

theorem readOp_grade (s : State) : readOp 0x2000 3 s = (0, [BitVec.ofNat 8 (gradeCode s.part.grade)], s) :=
  readOp_identity s (r := ⟨0x2000, 1, 3, 2, 1, .ro, .fixed⟩) (by decide) (by decide) (by decide)

theorem readOp_speedBin (s : State) : readOp 0x2000 4 s = (0, [BitVec.ofNat 8 s.part.binCode], s) :=
  readOp_identity s (r := ⟨0x2000, 1, 3, 2, 1, .ro, .fixed⟩) (by decide) (by decide) (by decide)

theorem readOp_absentBanks (s : State) : readOp 0x2000 5 s = (0, toBytes 32 s.part.absent.toNat, s) :=
  readOp_identity s (r := ⟨0x2000, 1, 5, 1, 32, .ro, .fixed⟩) (by decide) (by decide) (by decide)

/-- Settles O6: the frame from the law of each meaning, the reads from the rows of the objects. -/
theorem commandsKeepFactoryAndQueue : Obligations.CommandsKeepFactoryAndQueue := by
  unfold Obligations.CommandsKeepFactoryAndQueue
  refine ⟨fun c s t h => exec_next_kept h, fun s => ⟨?_, readOp_speedBin s, _, readOp_absentBanks s, toBytes_length _ _, ?_⟩⟩
  · rw [readOp_grade]
    cases s.part.grade <;> rfl
  · intro st hst
    exact toBytes_getLsbD 32 _ st hst

end Sys2Proof.Machine

/-! What the event block leaves of a state (R483, R485): everything that `calm` keeps. -/

namespace Sys2Proof.Machine

/-- What both branches keep, a conditional keeps. -/
theorem ite_keeps {β : Type} (p : State → β) {c : Prop} [Decidable c] {a b s : State} (ha : p a = p s) (hb : p b = p s) :
    p (if c then a else b) = p s := by
  split
  · exact ha
  · exact hb

@[simp] theorem calm_raise (e : Nat) (s : State) : calm (raise e s) = calm s := rfl

@[simp] theorem calm_setKeeper (s : State) (k : Nat) (c : Keeper) : calm (s.setKeeper k c) = calm s := rfl

@[simp] theorem calm_logEvent (r : Raised) (sev : Nat) (shutdown : Bool) (s : State) :
    calm (logEvent r sev shutdown s) = calm s := rfl

@[simp] theorem calm_countEvent (r : Raised) (sev : Nat) (s : State) : calm (countEvent r sev s) = calm s := rfl

@[simp] theorem calm_raiseOnce (e : Nat) (s : State) : calm (raiseOnce e s) = calm s := ite_keeps calm rfl rfl

@[simp] theorem calm_mailboxPush (k entry : Nat) (s : State) : calm (mailboxPush k entry s) = calm s :=
  ite_keeps calm rfl (calm_raiseOnce _ _)

@[simp] theorem calm_routeMail (r : Raised) (d : Nat) (s : State) : calm (routeMail r d s) = calm s :=
  foldl_keeps calm _ _ s fun _ _ => calm_mailboxPush _ _ _

@[simp] theorem calm_emcyPush (m : Emcy) (s : State) : calm (emcyPush m s) = calm s := ite_keeps calm rfl rfl

@[simp] theorem calm_routeEmcy (r : Raised) (d : Nat) (s : State) : calm (routeEmcy r d s) = calm s :=
  ite_keeps calm ((calm_emcyPush _ _).trans (ite_keeps calm rfl rfl)) rfl

@[simp] theorem calm_routePins (d : Nat) (s : State) : calm (routePins d s) = calm s := by
  unfold routePins
  extract_lets _ busy
  have hbusy : calm busy = calm s := ite_keeps calm rfl rfl
  rw [← hbusy]
  exact ite_keeps calm rfl rfl

@[simp] theorem calm_routeLog (r : Raised) (d : Nat) (s : State) : calm (routeLog r d s) = calm s := ite_keeps calm rfl rfl

@[simp] theorem calm_route (r : Raised) (s : State) : calm (route r s) = calm s :=
  ite_keeps calm (by simp) (ite_keeps calm rfl rfl)

@[simp] theorem calm_sample (s : State) : calm (sample s) = calm s :=
  foldl_keeps calm _ _ { s with ev := { s.ev with waiting := [] } } fun _ _ => calm_route _ _

@[simp] theorem calm_drainEmcy (n : Nat) (s : State) : calm (drainEmcy n s) = calm s := by
  induction n generalizing s with
  | zero => rfl
  | succ n ih =>
    rw [drainEmcy]
    split
    · split
      · rfl
      · exact ih _
    · rfl

@[simp] theorem calm_settle (s : State) : calm (settle s) = calm s := by
  simp [settle]

@[simp] theorem settle_dict (s : State) : (settle s).dict = s.dict := (congrArg State.dict (calm_settle s) :)

@[simp] theorem settle_stg (s : State) : (settle s).stg = s.stg := (congrArg State.stg (calm_settle s) :)

@[simp] theorem settle_eng (s : State) : (settle s).eng = s.eng := (congrArg State.eng (calm_settle s) :)

@[simp] theorem settle_answerOf (s : State) (p : Path) : (settle s).answerOf p = s.answerOf p := by
  simp [State.answerOf]

end Sys2Proof.Machine

/-! Counters and descriptors: a clear of a span of counters, and what a reset leaves of both tables (R486). -/

namespace Sys2Proof.Machine

/-- A table kept only where its key passes a test reads as before there, and as the default elsewhere. -/
theorem Tbl.get_filter_key {α : Type} (d : Nat → α) (p : Nat → Bool) (t : Tbl α) (k : Nat) :
    Tbl.get d (t.filter fun e => p e.1) k = if p k then Tbl.get d t k else d k := by
  induction t with
  | nil => simp [Tbl.get]
  | cons e t ih =>
    obtain ⟨j, v⟩ := e
    by_cases hk : k = j
    · subst hk
      cases hp : p k <;> simp [hp, ih, Tbl.get]
    · cases hp : p j <;> simp [hp, ih, Tbl.get, hk]

/-- The counters of events outside first to last. -/
def countersOutside (first last : Nat) (count : Tbl Nat) : Tbl Nat :=
  count.filter fun e => decide (e.1 < first) || decide (last < e.1)

theorem at_countersOutside (first last : Nat) (count : Tbl Nat) (e : Nat) :
    Tbl.at 0 (countersOutside first last count) e = if first ≤ e ∧ e ≤ last then 0 else Tbl.at 0 count e := by
  have hget := Tbl.get_filter_key (fun _ => 0) (fun k => decide (k < first) || decide (last < k)) count e
  refine hget.trans ?_
  by_cases h : first ≤ e ∧ e ≤ last
  · have hin : ¬(e < first ∨ last < e) := by omega
    simp [h, hin]
  · have hout : e < first ∨ last < e := by omega
    simp [h, hout, Tbl.at]

theorem counterClearWrite_span {word : Nat} (s : State) (hle : word % 2 ^ 11 ≤ word / 2 ^ 16 % 2 ^ 11)
    (hlast : word / 2 ^ 16 % 2 ^ 11 ≤ 1535) :
    counterClearWrite word s = (0, { s with ev := { s.ev with
      count := countersOutside (word % 2 ^ 11) (word / 2 ^ 16 % 2 ^ 11) s.ev.count } }) :=
  if_neg (not_or.mpr ⟨Nat.not_lt.mpr hle, Nat.not_lt.mpr hlast⟩)

theorem counterClearWrite_refused {word : Nat} (s : State)
    (h : word / 2 ^ 16 % 2 ^ 11 < word % 2 ^ 11 ∨ 1535 < word / 2 ^ 16 % 2 ^ 11) :
    counterClearWrite word s = (abortRange, s) := if_pos h

/-- The counters and the descriptors, the two tables that a reset empties (R486). -/
def State.eventTables (s : State) : Tbl Nat × Tbl Nat := (s.ev.count, s.ev.desc)

theorem eventCount_desc_of_tables_empty {s : State} (h : s.eventTables = ([], [])) (e : Nat) :
    s.eventCount e = 0 ∧ s.desc e = descDefault e := by
  obtain ⟨hcount, hdesc⟩ := Prod.mk.inj h
  simp [State.eventCount, State.desc, hcount, hdesc, Tbl.at, Tbl.get]

@[simp] theorem eventTables_raise (e : Nat) (s : State) : (raise e s).eventTables = s.eventTables := rfl

@[simp] theorem eventTables_setObj (s : State) (idx sub v : Nat) : (s.setObj idx sub v).eventTables = s.eventTables := rfl

@[simp] theorem eventTables_sec (s : State) (x : Security) : ({ s with sec := x } : State).eventTables = s.eventTables := rfl

@[simp] theorem eventTables_autostartDefault (s : State) : (autostartDefault s).eventTables = s.eventTables := rfl

@[simp] theorem eventTables_milestone (i : Nat) (s : State) : (milestone i s).eventTables = s.eventTables := rfl

@[simp] theorem eventTables_lifeCheck (s : State) : (lifeCheck s).eventTables = s.eventTables := rfl

@[simp] theorem eventTables_otpLoad (s : State) : (otpLoad s).eventTables = s.eventTables := rfl

@[simp] theorem eventTables_resolveRole (high : Bool) (s : State) : (resolveRole high s).eventTables = s.eventTables := rfl

@[simp] theorem eventTables_raiseIf (b : Bool) (e : Nat) (s : State) : (raiseIf b e s).eventTables = s.eventTables := by
  cases b <;> rfl

@[simp] theorem eventTables_optionLoad (s : State) : (optionLoad s).eventTables = s.eventTables := by
  simp only [optionLoad, eventTables_raiseIf]
  rfl

@[simp] theorem eventTables_canOptions (s : State) : (canOptions s).eventTables = s.eventTables :=
  ite_keeps State.eventTables rfl rfl

@[simp] theorem eventTables_testEntropy (s : State) : (testEntropy s).eventTables = s.eventTables :=
  ite_keeps State.eventTables rfl rfl

@[simp] theorem eventTables_freshNonce (s : State) : (freshNonce s).eventTables = s.eventTables :=
  ite_keeps State.eventTables rfl rfl

@[simp] theorem eventTables_ite_setObj (c : Prop) [Decidable c] (s : State) (idx sub v : Nat) :
    (if c then s.setObj idx sub v else s).eventTables = s.eventTables := ite_keeps State.eventTables rfl rfl

@[simp] theorem eventTables_coldLoad (role lost : Bool) (s : State) : (coldLoad role lost s).eventTables = s.eventTables := by
  simp only [coldLoad, eventTables_milestone, eventTables_ite_setObj, eventTables_freshNonce, eventTables_testEntropy,
    eventTables_sec, eventTables_autostartDefault, eventTables_canOptions, eventTables_resolveRole, eventTables_otpLoad,
    eventTables_optionLoad, eventTables_raiseIf, eventTables_lifeCheck]
  rfl

theorem eventTables_coldReset (cause : Nat) (multi role : Bool) (path : Nat) (s : State) :
    (coldReset cause multi role path s).eventTables = ([], []) := by
  unfold coldReset
  dsimp only
  split
  · rfl
  · exact eventTables_coldLoad _ _ _

@[simp] theorem eventTables_deviceFenceOn (n : Nat) (s : State) : (deviceFenceOn n s).eventTables = s.eventTables :=
  ite_keeps State.eventTables rfl rfl

@[simp] theorem eventTables_fenceWorkers (s : State) : (fenceWorkers s).eventTables = s.eventTables :=
  ite_keeps State.eventTables
    (foldl_keeps State.eventTables _ _ s fun _ _ => ite_keeps State.eventTables rfl (eventTables_deviceFenceOn _ _)) rfl

@[simp] theorem eventTables_updateFrozen (s : State) : (updateFrozen s).eventTables = s.eventTables :=
  foldl_keeps State.eventTables _ _ s fun _ _ => ite_keeps State.eventTables rfl rfl

theorem eventTables_warmReset (cause : Nat) (multi : Bool) (path : Nat) (s : State) :
    (warmReset cause multi path s).eventTables = ([], []) := by
  simp only [warmReset, eventTables_updateFrozen, eventTables_fenceWorkers, eventTables_ite_setObj,
    eventTables_autostartDefault]
  rfl

/-- A reset source that is performed, a cold one or a warm one in SERVICE, empties both tables. -/
theorem eventTables_resetSource {cause : Nat} {warm multi role : Bool} {path : Nat} {s : State}
    (hpower : s.rst.phase ≠ .powerOn) (hwarm : warm = true → s.rst.phase = .service) :
    (resetSource cause warm multi role path s).eventTables = ([], []) := by
  unfold resetSource
  rw [if_neg hpower]
  cases warm with
  | true => exact (congrArg State.eventTables (if_pos (hwarm rfl))).trans (eventTables_warmReset _ _ _ _)
  | false => exact eventTables_coldReset _ _ _ _ _

end Sys2Proof.Machine

/-! Beat timers and their owners (R491, R492). -/

namespace Sys2Proof.Machine

theorem answerOf_reply (p : Path) (idx sub code seq : Nat) (data : List Byte) (s : State) :
    (reply p.code idx sub code seq data s).answerOf p = ⟨idx, sub, code, seq, data⟩ := Tbl.at_upd_same _ _ _ _

/-- The answer of a command on a path while the dictionary serves requests. -/
theorem onPath_served {s : State} (h : s.served = true) (p : Path) (idx sub : Nat) (r : Nat × State) :
    onPath p idx sub s r = reply p.code idx sub r.1 0 [] r.2 := if_pos h

theorem stagedOnPath_served {s : State} (h : s.served = true) (p : Path) (idx sub : Nat) (r : Nat × State) :
    stagedOnPath p idx sub s r = reply p.code idx sub r.1 (if r.1 = 0 then r.2.stg.lastSeq else 0) [] r.2 := if_pos h

/-- The three fields of a timer's configuration word (Table 20-7). -/
theorem timerCfg_fields {beat period offset : Nat} (hb : beat < 2 ^ 12) (hp : period < 2 ^ 16) (ho : offset < 2 ^ 16) :
    let c := beat + period * 2 ^ 16 + offset * 2 ^ 32
    timerBeat c = beat ∧ timerPeriod c = period ∧ timerOffset c = offset := by
  simp only [timerBeat, timerPeriod, timerOffset, bitsAt]
  omega

/-- A timer is due in FAB cycle 0 of its beat of a matching rotation, from the release on; B − 1 stands for a beat of B or above. -/
theorem timerDue_iff {s : State} {i beat period offset : Nat} (hb : beat < 2 ^ 12) (hp : period < 2 ^ 16) (ho : offset < 2 ^ 16)
    (hcfg : s.obj 0x2500 (0x10 + i) = beat + period * 2 ^ 16 + offset * 2 ^ 32) :
    s.timerDue i = true ↔ s.released = true ∧ s.beatsRun = true ∧ s.time.cyc = 0 ∧ period ≠ 0 ∧
      s.time.beat = (if beat < s.B then beat else s.B - 1) ∧ s.time.rot % period = offset % period := by
  obtain ⟨hbeat, hperiod, hoffset⟩ := timerCfg_fields hb hp ho
  have hmin : min beat (s.B - 1) = if beat < s.B then beat else s.B - 1 := by split <;> omega
  simp only [State.timerDue, State.timerCfg, hcfg, hbeat, hperiod, hoffset, hmin, Bool.and_eq_true, decide_eq_true_eq,
    and_assoc]

theorem execBeatTimerFire_due {i : Fin 8} {s : State} (h : s.timerDue i.val = true) :
    execBeatTimerFire i s = .next (settle (deferRaises (raiseOnce (40 + i.val) s))) := if_pos h

theorem execBeatTimerFire_not_due {i : Fin 8} {s : State} (h : ¬s.timerDue i.val = true) :
    execBeatTimerFire i s = .next (settle s) := if_neg h

/-! One byte of an owner write. -/

/-- The byte claims or releases a timer that another path owns, or releases a free one. -/
def takenByte (path cur new : Nat) : Prop := new ≠ cur ∧ cur ≠ path + 1 ∧ ((new = 1 ∧ cur ≠ 0) ∨ new = 0)

/-- The byte changes the owner to a value that means no claim and no release. -/
def badByte (cur new : Nat) : Prop := new ≠ cur ∧ 2 ≤ new

theorem timerByte_range_iff (path cur new : Nat) : (timerByte path cur new).1 = abortRange ↔ badByte cur new := by
  unfold timerByte badByte abortRange abortBusy
  (repeat' split) <;> dsimp only <;> omega

theorem timerByte_busy_iff (path cur new : Nat) : (timerByte path cur new).1 = abortBusy ↔ takenByte path cur new := by
  unfold timerByte takenByte abortRange abortBusy
  (repeat' split) <;> dsimp only <;> omega

/-- The owner that a byte which is not refused leaves. -/
theorem timerByte_owner {path cur new : Nat} (hok : ¬takenByte path cur new ∧ ¬badByte cur new) :
    (timerByte path cur new).2 =
      if cur = 0 ∧ new = 1 then path + 1 else if cur = path + 1 ∧ new = 0 then 0 else cur := by
  obtain ⟨htaken, hbad⟩ := hok
  unfold takenByte at htaken
  unfold badByte at hbad
  unfold timerByte
  (repeat' split) <;> dsimp only <;> omega

/-! The whole owner write. -/

/-- What the eight bytes of an owner write mean. -/
def timerBytes (path : Nat) (data : List Byte) (s : State) : List (Nat × Nat) :=
  (List.range 8).map fun i => timerByte path (s.ev.timerOwner.getD i 0) (data.getD i 0).toNat

theorem timerBytes_any_iff (path : Nat) (data : List Byte) (s : State) (code : Nat) :
    (timerBytes path data s).any (fun r => r.1 == code) = true ↔
      ∃ i, i < 8 ∧ (timerByte path (s.ev.timerOwner.getD i 0) (data.getD i 0).toNat).1 = code := by
  simp [timerBytes]

theorem timerOwnerWrite_eq {path : Nat} {data : List Byte} {s : State} (hlen : data.length = 8) :
    timerOwnerWrite path data s =
      if (timerBytes path data s).any (fun r => r.1 == abortRange) then (abortRange, s)
      else if (timerBytes path data s).any (fun r => r.1 == abortBusy) then (abortBusy, raise 39 s)
      else (0, { s with ev := { s.ev with timerOwner := (timerBytes path data s).map Prod.snd } }) :=
  if_neg (not_not_intro hlen)

section OwnerWrite

variable {path : Nat} {data : List Byte} {s : State}

theorem timerOwnerWrite_bad (hlen : data.length = 8)
    (hbad : ∃ i, i < 8 ∧ badByte (s.ev.timerOwner.getD i 0) (data.getD i 0).toNat) :
    timerOwnerWrite path data s = (abortRange, s) := by
  rw [timerOwnerWrite_eq hlen, if_pos]
  simpa only [timerBytes_any_iff, timerByte_range_iff] using hbad

theorem timerOwnerWrite_taken (hlen : data.length = 8)
    (htaken : ∃ i, i < 8 ∧ takenByte path (s.ev.timerOwner.getD i 0) (data.getD i 0).toNat)
    (hbad : ∀ i, i < 8 → ¬badByte (s.ev.timerOwner.getD i 0) (data.getD i 0).toNat) :
    timerOwnerWrite path data s = (abortBusy, raise 39 s) := by
  rw [timerOwnerWrite_eq hlen, if_neg, if_pos]
  · simpa only [timerBytes_any_iff, timerByte_busy_iff] using htaken
  · simpa only [timerBytes_any_iff, timerByte_range_iff, not_exists, not_and] using hbad

theorem timerOwnerWrite_accepted (hlen : data.length = 8)
    (hok : ∀ i, i < 8 → ¬takenByte path (s.ev.timerOwner.getD i 0) (data.getD i 0).toNat ∧
      ¬badByte (s.ev.timerOwner.getD i 0) (data.getD i 0).toNat) :
    timerOwnerWrite path data s = (0, { s with ev := { s.ev with timerOwner := (timerBytes path data s).map Prod.snd } }) := by
  rw [timerOwnerWrite_eq hlen, if_neg, if_neg]
  · simpa only [timerBytes_any_iff, timerByte_busy_iff, not_exists, not_and] using fun i hi => (hok i hi).1
  · simpa only [timerBytes_any_iff, timerByte_range_iff, not_exists, not_and] using fun i hi => (hok i hi).2

end OwnerWrite

theorem timerBytes_owner_getD (path : Nat) (data : List Byte) (s : State) {i : Nat} (hi : i < 8) :
    ((timerBytes path data s).map Prod.snd).getD i 0 =
      (timerByte path (s.ev.timerOwner.getD i 0) (data.getD i 0).toNat).2 := by
  simp [timerBytes, List.getD_eq_getElem?_getD, hi]

/-! Configurations. -/

theorem timerConfigWrite_owner {path i : Nat} {data : List Byte} {s : State} (hlen : data.length = 8)
    (howner : s.ev.timerOwner.getD i 0 = path + 1) :
    timerConfigWrite path i data s =
      (0, acceptStaged path [wholePart (okey 0x2500 (0x10 + i)) 8 (ofBytes data &&& 0x0000FFFFFFFF0FFF)] s) := by
  rw [timerConfigWrite, if_neg (not_not_intro hlen), if_neg (not_not_intro howner)]

theorem timerConfigWrite_other {path i : Nat} {data : List Byte} {s : State} (hlen : data.length = 8)
    (howner : s.ev.timerOwner.getD i 0 ≠ path + 1) : timerConfigWrite path i data s = (abortBusy, raise 39 s) := by
  rw [timerConfigWrite, if_neg (not_not_intro hlen), if_pos howner]

/-- The row of the timer configurations in the dictionary. -/
theorem objRow_timerConfig (i : Fin 8) : objRow 0x2500 (0x10 + i.val) = some ⟨0x2500, 1, 0x10, 8, 8, .rws, .boundary⟩ := by
  revert i
  decide

/-- An object write of a timer configuration is the command's own write, of its defined bits. -/
theorem submitWrite_timerConfig (path : Nat) (i : Fin 8) {data : List Byte} (s : State) (hlen : data.length = 8) :
    submitWrite path 0x2500 (0x10 + i.val) data s =
      timerConfigWrite path i.val (toBytes 8 (dropReserved 0x2500 (0x10 + i.val) (ofBytes data))) s := by
  have hidx : indexExists 0x2500 = true := by decide
  simp [submitWrite, State.objectCode, hidx, objRow_timerConfig i, checkLength, hlen, writeRow]

/-- An object write of a timer configuration by a path that does not own the timer is refused as the command is. -/
theorem writeOnPath_timerConfig_other {p : Path} {i : Fin 8} {data : List Byte} {s : State} (hserved : s.served = true)
    (hlen : data.length = 8) (howner : s.ev.timerOwner.getD i.val 0 ≠ p.code + 1) :
    writeOnPath p 0x2500 (0x10 + i.val) data s = Aborted p 0x2500 (0x10 + i.val) abortBusy (raise 39 s) := by
  have hsubmit := (submitWrite_timerConfig p.code i s hlen).trans (timerConfigWrite_other (toBytes_length _ _) howner)
  simp [writeOnPath, hserved, isRelayData, hsubmit, writeSeq, abortBusy, Aborted]

/-! What the commands answer while the dictionary serves requests. -/

section Served

variable {p : Path} {s : State}

theorem exec_counterClear_span {word : BitVec 32} (hserved : s.served = true)
    (hle : word.toNat % 2 ^ 11 ≤ word.toNat / 2 ^ 16 % 2 ^ 11) (hlast : word.toNat / 2 ^ 16 % 2 ^ 11 ≤ 1535) :
    exec (.counterClear p word) s = .next (settle (Acked p 0x2500 3 { s with ev := { s.ev with
      count := countersOutside (word.toNat % 2 ^ 11) (word.toNat / 2 ^ 16 % 2 ^ 11) s.ev.count } })) := by
  simp only [exec, execCounterClear, onPath_served hserved, counterClearWrite_span s hle hlast]
  rfl

theorem exec_counterClear_refused {word : BitVec 32} (hserved : s.served = true)
    (h : word.toNat / 2 ^ 16 % 2 ^ 11 < word.toNat % 2 ^ 11 ∨ 1535 < word.toNat / 2 ^ 16 % 2 ^ 11) :
    exec (.counterClear p word) s = .next (settle (Aborted p 0x2500 3 abortRange s)) := by
  simp only [exec, execCounterClear, onPath_served hserved, counterClearWrite_refused s h]
  rfl

theorem exec_logClear_one (hserved : s.served = true) :
    exec (.logClear p 1) s = .next (settle (Acked p 0x2500 6 { s with ev := { s.ev with log := [] } })) := by
  simp only [exec, execLogClear, onPath_served hserved]
  rfl

/-- An owner write answers what `timerOwnerWrite` decides. -/
theorem exec_timerOwnerWrite {data : List Byte} {code : Nat} {t : State} (hserved : s.served = true)
    (h : timerOwnerWrite p.code data s = (code, t)) :
    exec (.timerOwnerWrite p data) s = .next (settle (reply p.code 0x2500 0x18 code 0 [] t)) := by
  simp only [exec, execTimerOwnerWrite, onPath_served hserved, h]
  rfl

theorem exec_timerConfigWrite_owner {i : Fin 8} {data : List Byte} (hserved : s.served = true) (hlen : data.length = 8)
    (howner : s.ev.timerOwner.getD i.val 0 = p.code + 1) :
    exec (.timerConfigWrite p i data) s = .next (settle (reply p.code 0x2500 (0x10 + i.val) 0 (nextSeq s.stg.lastSeq) []
      (acceptStaged p.code [wholePart (okey 0x2500 (0x10 + i.val)) 8 (ofBytes data &&& 0x0000FFFFFFFF0FFF)] s))) := by
  simp only [exec, execTimerConfigWrite, stagedOnPath_served hserved, timerConfigWrite_owner hlen howner]
  rfl

theorem exec_timerConfigWrite_other {i : Fin 8} {data : List Byte} (hserved : s.served = true) (hlen : data.length = 8)
    (howner : s.ev.timerOwner.getD i.val 0 ≠ p.code + 1) :
    exec (.timerConfigWrite p i data) s = .next (settle (Aborted p 0x2500 (0x10 + i.val) abortBusy (raise 39 s))) := by
  simp only [exec, execTimerConfigWrite, stagedOnPath_served hserved, timerConfigWrite_other hlen howner]
  rfl

theorem exec_objectWrite_timerConfig_other {i : Fin 8} {data : List Byte} (hserved : s.served = true)
    (hlen : data.length = 8) (howner : s.ev.timerOwner.getD i.val 0 ≠ p.code + 1) :
    exec (.objectWrite p 0x2500 (BitVec.ofNat 8 (0x10 + i.val)) data) s =
      .next (settle (Aborted p 0x2500 (0x10 + i.val) abortBusy (raise 39 s))) := by
  have hsub : (BitVec.ofNat 8 (0x10 + i.val)).toNat = 0x10 + i.val := by
    rw [BitVec.toNat_ofNat]
    omega
  simp only [exec, execObjectWrite, hsub]
  exact congrArg done (writeOnPath_timerConfig_other hserved hlen howner)

end Served

/-- Settles O58: the clears by the tables they leave, the timers by when they are due and by what each byte of an owner
write means. -/
theorem timersAndCounters : Obligations.TimersAndCounters := by
  unfold Obligations.TimersAndCounters
  refine ⟨fun p word s hserved => ?_, fun cause warm multi role path s hpower hwarm e => ?_,
    fun i beat period offset s hb hp ho hcfg => ?_, fun p data s hserved hlen => ?_, fun p i data s hserved hlen => ?_⟩
  · exact ⟨fun hle hlast => ⟨_, exec_counterClear_span hserved hle hlast, rfl, fun e => at_countersOutside _ _ _ e⟩,
      exec_counterClear_refused hserved, exec_logClear_one hserved⟩
  · exact eventCount_desc_of_tables_empty (eventTables_resetSource hpower hwarm) e
  · have hdue := timerDue_iff hb hp ho hcfg
    exact ⟨fun h => execBeatTimerFire_due (hdue.mpr h), fun h => execBeatTimerFire_not_due (mt hdue.mp h)⟩
  · refine ⟨fun hok => ?_, fun htaken hbad => ?_, fun hbad => ?_⟩
    · refine ⟨_, exec_timerOwnerWrite hserved (timerOwnerWrite_accepted hlen hok), by simp [timerBytes], fun i hi => ?_⟩
      rw [timerBytes_owner_getD _ _ _ hi]
      exact timerByte_owner (hok i hi)
    · exact exec_timerOwnerWrite hserved (timerOwnerWrite_taken hlen htaken hbad)
    · exact exec_timerOwnerWrite hserved (timerOwnerWrite_bad hlen hbad)
  · refine ⟨fun howner => ⟨_, exec_timerConfigWrite_owner hserved hlen howner, ?_, ?_, ?_⟩, fun howner =>
      ⟨exec_timerConfigWrite_other hserved hlen howner, exec_objectWrite_timerConfig_other hserved hlen howner⟩⟩
    · rw [settle_answerOf]
      exact answerOf_reply _ _ _ _ _ _ _
    · rw [settle_dict]
      rfl
    · rw [settle_stg]
      rfl

end Sys2Proof.Machine
